-- ==== Sys2Proof/Word.lean ====
section
/-!
DEFINITION. The words of the ZC416 and the fixed-size tables: the widths of R1, R142, R156 and chapter 11, and a table of
2^w like things read and written by a w-bit index.
-/

namespace Sys2Proof

/-- One byte. -/
abbrev Byte := BitVec 8
/-- A pool address: 34 bits (R1, 00 section 0.5). -/
abbrev PoolAddr := BitVec 34
/-- A local port address: 40 bits (10 section 10.1). -/
abbrev LocalAddr := BitVec 40
/-- A line number, 0 to 2^28 - 1 (R1). -/
abbrev LineNo := BitVec 28
/-- A segment number, 0 to 255 (R1). -/
abbrev SegNo := BitVec 8
/-- A station number, 0 to 15. -/
abbrev StationNo := BitVec 4
/-- A set of station numbers, bit n flagging station n (11 sections 11.1 and 11.4). -/
abbrev StationSet := BitVec 16
/-- A request tag, 0 to 7, naming a PRT entry (R59). -/
abbrev ReqTag := BitVec 3
/-- A generation, 0 to 3 (R59). -/
abbrev Gen := BitVec 2
/-- A processor tag, 0 to 31 (10). -/
abbrev PTag := BitVec 5
/-- A byte offset within a line, 0 to 63 (R1). -/
abbrev Offset := BitVec 6
/-- An RLC set index (R1). -/
abbrev RlcIndex := BitVec 8
/-- A way of an RLC set, 0 to 7 (02 section 2.2). -/
abbrev WayNo := BitVec 3
/-- An Export Table set index (R1). -/
abbrev ExportIndex := BitVec 7
/-- A home memory address: 30 bits, the full 1 GiB (R5). -/
abbrev MemAddr := BitVec 30

/-- A fixed-size table of 2^w things. -/
abbrev Table (α : Type) (w : Nat) := Vector α (2 ^ w)

/-- The entry at a w-bit index. -/
def look {α : Type} {w : Nat} (t : Table α w) (i : BitVec w) : α := t[i.toNat]'i.isLt

/-- The table with the entry at a w-bit index replaced. -/
def put {α : Type} {w : Nat} (t : Table α w) (i : BitVec w) (x : α) : Table α w :=
  t.set i.toNat x i.isLt

/-- The table whose entry at index i is `f i`. -/
def tab {α : Type} (w : Nat) (f : Nat → α) : Table α w :=
  ⟨((List.range (2 ^ w)).map f).toArray, by simp⟩

/-- The table that holds one value everywhere. -/
def fill {α : Type} (w : Nat) (x : α) : Table α w := Vector.replicate (2 ^ w) x

/-- The 64 bytes of a line, byte i being the one at offset i (11 section 11.1). -/
abbrev LineData := Table Byte 6

/-- The 64 bytes taken from a list, missing ones 0. -/
def LineData.ofBytes (bs : List Byte) : LineData := tab 6 fun i => bs.getD i 0

/-- `len` bytes of a line from offset `off`. -/
def LineData.bytes (d : LineData) (off len : Nat) : List Byte := (d.toList.drop off).take len

/-- A line with `bs` written over it from offset `off`; the other bytes keep their values (R21). -/
def LineData.merge (d : LineData) (off : Nat) (bs : List Byte) : LineData :=
  tab 6 fun i => if off ≤ i ∧ i < off + bs.length then bs.getD (i - off) 0 else d.toList.getD i 0

/-- Is a station number in a set? -/
def StationSet.has (s : StationSet) (n : StationNo) : Bool := s.getLsbD n.toNat

/-- A set with a station number added. -/
def StationSet.add (s : StationSet) (n : StationNo) : StationSet := s ||| (1#16 <<< n.toNat)

/-- The number of members of a set. -/
def StationSet.count (s : StationSet) : Nat := (List.range 16).countP fun i => s.getLsbD i

end Sys2Proof
end

