-- ==== Sys2Proof/Syntax.lean ====
section
/-!
DEFINITION. The commands of the block: one constructor of `Instr` for each row of spec/opcode_table.json, with the row's
operands. What the other stations, the memory and the processor do is given to a command as its operands.
-/

namespace Sys2Proof

/-- The class a station declares at a contention (R39). -/
inductive ContenderClass where
  | request
  | data
  deriving DecidableEq, Repr

/-- A contender as every station sees it: its number and class (R39). -/
structure Contender where
  number : StationNo
  cls    : ContenderClass
  deriving DecidableEq, Repr

/-- How this station stands at a contention. `current`: it declares what its state calls for now (R39). `earlier c`: the
contention took place earlier, it declared `c` then, and events have been taken since (R40, "an event taken since the
contention has removed it or has stopped the station contending"; log 6). -/
inductive Declared where
  | current
  | earlier (c : Option ContenderClass)
  deriving DecidableEq, Repr

/-- The commands: the rows of spec/opcode_table.json. -/
inductive Instr where
  /-- POOL_RESET (R155). -/
  | poolReset
  /-- POWER_ON (R155). -/
  | powerOn
  /-- STATION_RESET (R155). -/
  | stationReset
  /-- LOCAL_REQUEST_ACCEPTANCE (R156, R157): processor tag, operation code, local address, length field (length minus 1),
  and for a write its data bytes, in rising order of address. -/
  | localRequestAcceptance (tag : PTag) (code : BitVec 3) (addr : LocalAddr) (lenField : BitVec 6) (data : List Byte)
  /-- JOIN (R143): a write of 1 to Command. -/
  | join (tag : PTag)
  /-- QUIESCE (R128): a write of 2 to Command. -/
  | quiesce (tag : PTag)
  /-- RESUME (R132): a write of 3 to Command. -/
  | resume (tag : PTag)
  /-- CLEAR_LOG (R164): a write of 4 to Command. -/
  | clearLog (tag : PTag)
  /-- FAULT_LOG_POP (R166): a read of Fault Log Pop. -/
  | faultLogPop (tag : PTag)
  /-- STATION_STATUS_READ (R167): a read of Station Status. -/
  | stationStatusRead (tag : PTag)
  /-- EVENT_ENABLE_WRITE (R163): a write to Event Enable. -/
  | eventEnableWrite (tag : PTag) (value : BitVec 64)
  /-- REGISTER_WRITE (R142): an 8-byte write at an offset of the control window. -/
  | registerWrite (tag : PTag) (offset : BitVec 12) (value : BitVec 64)
  /-- CONTENTION (R39): the peers that contend, and how this station stands. -/
  | contention (peers : List Contender) (own : Declared)
  /-- REQUEST_ARRIVAL (R42): the bytes this station received, byte 0 first. At the sender itself the bytes are not read. -/
  | requestArrival (bytes : List Byte)
  /-- ANSWER_WINDOW_CLOSE (R46): what the other stations drive in the sixteen positions (R169). -/
  | answerWindowClose (driven : Table (BitVec 3) 4)
  /-- ANNOUNCE_CLOSE (R147): as ANSWER_WINDOW_CLOSE, for the window of an Announce. -/
  | announceClose (driven : Table (BitVec 3) 4)
  /-- READY_CLOSE (R150): as ANSWER_WINDOW_CLOSE, for the window of a Ready. -/
  | readyClose (driven : Table (BitVec 3) 4)
  /-- DATA_MESSAGE_ARRIVAL (R49): the bytes this station received, byte 0 first. At the sender itself they are not read. -/
  | dataMessageArrival (bytes : List Byte)
  /-- ACKNOWLEDGEMENT_WINDOW_CLOSE (R53): what the other stations drive in the destination and the home position (R169). -/
  | acknowledgementWindowClose (dest home : BitVec 3)
  /-- MEMORY_COMPLETION (R104): does the memory report success? -/
  | memoryCompletion (ok : Bool)
  /-- DATA_TIMER_EXPIRY (R80): the data timer of the PRT entry with this tag. -/
  | dataTimerExpiry (tag : ReqTag)
  /-- AWAITING_DATA_TIMER_EXPIRY (R110): the awaiting-data timer of this line. -/
  | awaitingDataTimerExpiry (line : LineNo)
  /-- PIN_TIMER_EXPIRY (R140): the pin timer of this line. -/
  | pinTimerExpiry (line : LineNo)
  /-- ENROLMENT_TIMER_EXPIRY (R149). -/
  | enrolmentTimerExpiry
  /-- HEAD_JUDGED_AGAIN (R25). -/
  | headJudgedAgain
  /-- SQ_PLACE_GIVEN (R51). -/
  | sqPlaceGiven
  /-- CONVERSION_TO_RETURN (R55). -/
  | conversionToReturn
  /-- VICTIM_RECALL (R117). -/
  | victimRecall
  /-- QUIESCE_WALK (R130). -/
  | quiesceWalk
  /-- QUIESCED_ENTRY (R131). -/
  | quiescedEntry
  deriving DecidableEq, Repr

end Sys2Proof
end

