-- ==== Sys2Proof/Decode.lean ====
section
/-!
DEFINITION. Decoding of table words. No row of spec/opcode_table.json gives bits ("fields" is empty in every row), so no word
spells a command. The layouts the spec does give (messages, registers) are in Machine/Codec.lean and Machine/Registers.lean.
-/

namespace Sys2Proof

/-- The command that a word spells by the table's bits: none, for no row gives bits. -/
def decodeTableWord (_nbits _w : Nat) : Option Instr := none

end Sys2Proof
end

