-- ==== Sys2Proof/Machine/Message.lean ====
section
/-!
DEFINITION. The named fields of what goes over the pool bus (chapter 3): request messages, data messages, the codes of
the answer and acknowledgement windows. Their bytes are in Machine/Codec.lean.
-/

namespace Sys2Proof.Machine

/-- Which local requests a segment permits (R3); the codes of 11 section 11.1. -/
inductive Access where
  | none
  | readOnly
  | writeOnly
  | readWrite
  deriving DecidableEq, Repr

/-- May remote lines of the segment be held in the RLC? (R3) -/
inductive SegKind where
  | cached
  | direct
  deriving DecidableEq, Repr

/-- A claim of an Announce (R41, R144). -/
structure Claim where
  segment : SegNo
  access  : Access
  kind    : SegKind
  deriving DecidableEq, Repr

/-- The request kinds that carry a tag, a generation and a line alone (R41). -/
inductive LineKind where
  | fetch
  | claim
  | promote
  | recall
  deriving DecidableEq, Repr

/-- A request message after its header (R41). Counts that the layout holds minus 1 are held as the layout holds them. -/
inductive Request where
  /-- Fetch, Claim, Promote, Recall. -/
  | line (kind : LineKind) (tag : ReqTag) (gen : Gen) (line : LineNo)
  /-- Return: the full line. -/
  | giveBack (line : LineNo) (data : LineData)
  /-- Direct Read: offset, and length minus 1. -/
  | directRead (tag : ReqTag) (gen : Gen) (line : LineNo) (offset : Offset) (lenField : BitVec 6)
  /-- Direct Write: bit i of the mask flags offset i; one byte for each flag set, in rising order of offset. -/
  | directWrite (tag : ReqTag) (gen : Gen) (line : LineNo) (mask : BitVec 64) (bytes : List Byte)
  /-- Announce: expected count minus 1, and the claims. -/
  | announce (expectedField : BitVec 4) (claims : List Claim)
  /-- Ready: the enrolled set; its count is the number of flags set (R41). -/
  | ready (set : StationSet)
  deriving DecidableEq, Repr

/-- The line a request message names (R28); Announce and Ready name none. -/
def Request.line? : Request → Option LineNo
  | .line _ _ _ l => some l
  | .giveBack l _ => some l
  | .directRead _ _ l _ _ => some l
  | .directWrite _ _ l _ _ => some l
  | .announce _ _ => none
  | .ready _ => none

/-- Is the request of the Enrolment phase? (R38) -/
def Request.enrolment : Request → Bool
  | .announce _ _ => true
  | .ready _ => true
  | _ => false

/-- The state a data message gives the line at its destination (R47). -/
inductive Grant where
  | none
  | copy
  | sole
  deriving DecidableEq, Repr

/-- The status of a data message (R47). -/
inductive DataStatus where
  | good
  | abandoned
  | memoryError
  deriving DecidableEq, Repr

/-- A data message after its header (R47). -/
structure DataMsg where
  dest     : StationNo
  tag      : ReqTag
  gen      : Gen
  line     : LineNo
  grant    : Grant
  homeTake : Bool
  status   : DataStatus
  data     : Option LineData
  deriving DecidableEq, Repr

/-- The answer codes, weakest first (R44). -/
inductive AnswerCode where
  | clear
  | shared
  | supply
  | follow
  | again
  | void
  deriving DecidableEq, Repr

/-- The acknowledgement codes that a station drives, weakest first (R48). -/
inductive AckCode where
  | garbled
  | stale
  | refused
  | taken
  deriving DecidableEq, Repr

end Sys2Proof.Machine
end

