-- ==== Sys2Proof/Machine/Codec.lean ====
section
/-!
DEFINITION. The bytes of pool bus messages (11 section 11.1, R38, R41, R47, R168): the check, the parser that finds a message
sound or damaged, and the encoder the sender uses. A message is a list of bytes, byte 0 first.
-/

namespace Sys2Proof.Machine

/-! ### The check (R168) -/

/-- One bit of the cyclic check with generator x^16 + x^12 + x^5 + 1. -/
def crcBit (c : BitVec 16) (b : Bool) : BitVec 16 :=
  if c.msb != b then (c <<< 1) ^^^ 0x1021#16 else c <<< 1

/-- One byte of the check, bit 7 first. -/
def crcByte (c : BitVec 16) (x : Byte) : BitVec 16 :=
  [7, 6, 5, 4, 3, 2, 1, 0].foldl (fun c i => crcBit c (x.getLsbD i)) c

/-- The check of a run of bytes, starting from 0xFFFF, with no final inversion. -/
def crc16 (bs : List Byte) : BitVec 16 := bs.foldl crcByte 0xFFFF#16

/-! ### Fields -/

/-- How many flags of a 64-bit mask are set. -/
def maskCount (m : BitVec 64) : Nat := (List.range 64).countP fun i => m.getLsbD i

/-- The four bytes of a line number. -/
def lineBytes (l : LineNo) : List Byte :=
  [l.extractLsb' 24 8, l.extractLsb' 16 8, l.extractLsb' 8 8, l.extractLsb' 0 8]

/-- The line number in four bytes; bits 7 to 4 of the first are zero. -/
def lineOf (a b c d : Byte) : Option LineNo :=
  if a.extractLsb' 4 4 = 0 then some ((a ++ b ++ c ++ d).setWidth 28) else none

/-- The tag byte: tag in bits 2 to 0, generation in bits 4 to 3. -/
def tagByte (t : ReqTag) (g : Gen) : Byte := (0#3 ++ g ++ t : BitVec 8)

/-- The tag and generation in a tag byte; bits 7 to 5 are zero. -/
def tagOf (x : Byte) : Option (ReqTag × Gen) :=
  if x.extractLsb' 5 3 = 0 then some (x.extractLsb' 0 3, x.extractLsb' 3 2) else none

/-- The access codes of 11 section 11.1. -/
def Access.code : Access → BitVec 2
  | .none => 0
  | .readOnly => 1
  | .writeOnly => 2
  | .readWrite => 3

/-- Every 2-bit value is an access. -/
def Access.ofCode (x : BitVec 2) : Access :=
  if x = 0 then .none else if x = 1 then .readOnly else if x = 2 then .writeOnly else .readWrite

/-- The kind codes of 11 section 11.1: 0 cached, 1 direct. -/
def SegKind.bit : SegKind → Bool
  | .cached => false
  | .direct => true

/-- The kind of a bit. -/
def SegKind.ofBit (b : Bool) : SegKind := if b then .direct else .cached

/-- The two bytes of a claim. -/
def Claim.encode (c : Claim) : List Byte :=
  [c.segment, (0#5 ++ BitVec.ofBool c.kind.bit ++ c.access.code : BitVec 8)]

/-- The claims in a run of byte pairs; bits 7 to 3 of the second byte of each are zero. -/
def parseClaims : List Byte → Option (List Claim)
  | [] => some []
  | [_] => none
  | s :: x :: rest =>
    if x.extractLsb' 3 5 = 0 then
      match parseClaims rest with
      | some cs =>
        some ({ segment := s, access := .ofCode (x.extractLsb' 0 2), kind := .ofBit (x.getLsbD 2) } :: cs)
      | none => none
    else none

/-- The grant codes of the status byte. -/
def Grant.code : Grant → BitVec 2
  | .none => 0
  | .copy => 1
  | .sole => 2

/-- A grant code of 3 is out of range. -/
def Grant.ofCode (x : BitVec 2) : Option Grant :=
  if x = 0 then some .none else if x = 1 then some .copy else if x = 2 then some .sole else Option.none

/-- The status codes of the status byte. -/
def DataStatus.code : DataStatus → BitVec 2
  | .good => 0
  | .abandoned => 1
  | .memoryError => 2

/-- A status code of 3 is out of range. -/
def DataStatus.ofCode (x : BitVec 2) : Option DataStatus :=
  if x = 0 then some .good else if x = 1 then some .abandoned else if x = 2 then some .memoryError else none

/-! ### Ranges and constraints (R41, R47) -/

/-- The ranges of R41 that the fields' types do not already give. -/
def Request.wf : Request → Bool
  | .line _ _ _ _ => true
  | .giveBack _ _ => true
  | .directRead _ _ _ off len => off.toNat + (len.toNat + 1) ≤ 64
  | .directWrite _ _ _ mask bytes => mask != 0 && bytes.length == maskCount mask
  | .announce _ claims => claims.length ≤ 16
  | .ready set => set != 0

/-- The constraints of R47: data with Good only, a grant other than None with Good only, home-take with Good and Copy only. -/
def DataMsg.wf (m : DataMsg) : Bool :=
  (m.data.isSome == (m.status == .good)) && (m.status == .good || m.grant == .none) &&
    (!m.homeTake || (m.status == .good && m.grant == .copy))

/-! ### Encoding -/

/-- The kind byte of a request message. -/
def Request.kindByte : Request → Byte
  | .line .fetch _ _ _ => 0x01
  | .line .claim _ _ _ => 0x02
  | .line .promote _ _ _ => 0x03
  | .giveBack _ _ => 0x04
  | .line .recall _ _ _ => 0x05
  | .directRead _ _ _ _ _ => 0x06
  | .directWrite _ _ _ _ _ => 0x07
  | .announce _ _ => 0x08
  | .ready _ => 0x09

/-- The body of a request message, from byte 2. -/
def Request.body : Request → List Byte
  | .line _ t g l => tagByte t g :: lineBytes l
  | .giveBack l d => lineBytes l ++ d.toList
  | .directRead t g l off len => tagByte t g :: lineBytes l ++ [off.setWidth 8, len.setWidth 8]
  | .directWrite t g l mask bytes =>
    tagByte t g :: lineBytes l ++
      [mask.extractLsb' 56 8, mask.extractLsb' 48 8, mask.extractLsb' 40 8, mask.extractLsb' 32 8,
       mask.extractLsb' 24 8, mask.extractLsb' 16 8, mask.extractLsb' 8 8, mask.extractLsb' 0 8] ++ bytes
  | .announce e claims => e.setWidth 8 :: BitVec.ofNat 8 claims.length :: claims.flatMap Claim.encode
  | .ready s => [s.extractLsb' 8 8, s.extractLsb' 0 8, BitVec.ofNat 8 s.count]

/-- Header, body and check, high byte first. -/
def encodeFrame (kind : Byte) (enrolment : Bool) (sender : StationNo) (body : List Byte) : List Byte :=
  let m := kind :: (0#3 ++ BitVec.ofBool enrolment ++ sender : BitVec 8) :: body
  m ++ [(crc16 m).extractLsb' 8 8, (crc16 m).extractLsb' 0 8]

/-- The bytes of a request message. -/
def encodeRequest (sender : StationNo) (r : Request) : List Byte :=
  encodeFrame r.kindByte r.enrolment sender r.body

/-- The status byte of a data message. -/
def DataMsg.statusByte (m : DataMsg) : Byte :=
  (0#2 ++ m.status.code ++ 0#1 ++ BitVec.ofBool m.homeTake ++ m.grant.code : BitVec 8)

/-- The body of a data message. -/
def DataMsg.body (m : DataMsg) : List Byte :=
  m.dest.setWidth 8 :: tagByte m.tag m.gen :: lineBytes m.line ++ m.statusByte ::
    (match m.data with | some d => d.toList | none => [])

/-- The bytes of a data message. -/
def encodeData (sender : StationNo) (m : DataMsg) : List Byte := encodeFrame 0x0A false sender m.body

/-! ### Parsing: sound or damaged (R38, R168) -/

/-- The bytes before the check, where the check computed equals the check carried. -/
def checkFrame (bs : List Byte) : Option (List Byte) :=
  let m := bs.take (bs.length - 2)
  match bs.drop (bs.length - 2) with
  | [hi, lo] => if (hi ++ lo : BitVec 16) = crc16 m then some m else none
  | _ => none

/-- Fetch, Claim, Promote, Recall: a tag byte and a line. -/
def parseLine (k : LineKind) : List Byte → Option Request
  | [t, a, b, c, d] =>
    match tagOf t, lineOf a b c d with
    | some (tag, gen), some l => some (.line k tag gen l)
    | _, _ => none
  | _ => none

/-- Return: a line and 64 bytes. -/
def parseGiveBack : List Byte → Option Request
  | a :: b :: c :: d :: data =>
    match lineOf a b c d with
    | some l => if data.length = 64 then some (.giveBack l (.ofBytes data)) else none
    | none => none
  | _ => none

/-- Direct Read. -/
def parseDirectRead : List Byte → Option Request
  | [t, a, b, c, d, o, n] =>
    match tagOf t, lineOf a b c d with
    | some (tag, gen), some l =>
      let r : Request := .directRead tag gen l (o.setWidth 6) (n.setWidth 6)
      if o.extractLsb' 6 2 = 0 ∧ n.extractLsb' 6 2 = 0 ∧ r.wf = true then some r else none
    | _, _ => none
  | _ => none

/-- Direct Write. -/
def parseDirectWrite : List Byte → Option Request
  | t :: a :: b :: c :: d :: m7 :: m6 :: m5 :: m4 :: m3 :: m2 :: m1 :: m0 :: bytes =>
    match tagOf t, lineOf a b c d with
    | some (tag, gen), some l =>
      let r : Request := .directWrite tag gen l (m7 ++ m6 ++ m5 ++ m4 ++ m3 ++ m2 ++ m1 ++ m0) bytes
      if r.wf = true then some r else none
    | _, _ => none
  | _ => none

/-- Announce. -/
def parseAnnounce : List Byte → Option Request
  | e :: n :: rest =>
    if e.extractLsb' 4 4 = 0 ∧ n.toNat ≤ 16 ∧ rest.length = 2 * n.toNat then
      match parseClaims rest with
      | some cs => some (.announce (e.setWidth 4) cs)
      | none => none
    else none
  | _ => none

/-- Ready: the count equals the number of flags set, 1 to 16. -/
def parseReady : List Byte → Option Request
  | [a, b, n] =>
    let s : StationSet := a ++ b
    if s ≠ 0 ∧ n.toNat = s.count then some (.ready s) else none
  | _ => none

/-- The body of a request message by its kind byte. -/
def parseBody (kind : Byte) (body : List Byte) : Option Request :=
  if kind = 0x01 then parseLine .fetch body
  else if kind = 0x02 then parseLine .claim body
  else if kind = 0x03 then parseLine .promote body
  else if kind = 0x04 then parseGiveBack body
  else if kind = 0x05 then parseLine .recall body
  else if kind = 0x06 then parseDirectRead body
  else if kind = 0x07 then parseDirectWrite body
  else if kind = 0x08 then parseAnnounce body
  else if kind = 0x09 then parseReady body
  else none

/-- The phase marker is the one the kind calls for, and bits 7 to 5 are zero. -/
def headerOk (h : Byte) (enrolment : Bool) : Bool := h.extractLsb' 5 3 == 0 && h.getLsbD 4 == enrolment

/-- A request message with its sender where it is sound; none where it is damaged. -/
def parseRequest (bs : List Byte) : Option (StationNo × Request) :=
  match checkFrame bs with
  | some (k :: h :: body) =>
    match parseBody k body with
    | some r => if headerOk h r.enrolment then some (h.extractLsb' 0 4, r) else none
    | none => none
  | _ => none

/-- The body of a data message. -/
def parseDataBody : List Byte → Option DataMsg
  | e :: t :: a :: b :: c :: d :: x :: data =>
    match tagOf t, lineOf a b c d, Grant.ofCode (x.extractLsb' 0 2), DataStatus.ofCode (x.extractLsb' 4 2) with
    | some (tag, gen), some l, some g, some st =>
      let m : DataMsg :=
        { dest := e.extractLsb' 0 4, tag := tag, gen := gen, line := l, grant := g, homeTake := x.getLsbD 2, status := st,
          data := if data = [] then none else some (.ofBytes data) }
      if e.extractLsb' 4 4 = 0 ∧ x.extractLsb' 6 2 = 0 ∧ x.getLsbD 3 = false ∧
          (data.length = 0 ∨ data.length = 64) ∧ m.wf = true then some m
      else none
    | _, _, _, _ => none
  | _ => none

/-- A data message with its sender where it is sound; none where it is damaged. -/
def parseData (bs : List Byte) : Option (StationNo × DataMsg) :=
  match checkFrame bs with
  | some (k :: h :: body) =>
    if k = 0x0A ∧ headerOk h false = true then
      match parseDataBody body with
      | some m => some (h.extractLsb' 0 4, m)
      | none => none
    else none
  | _ => none

/-! ### Answer and acknowledgement positions (R169) -/

/-- The rank of an answer code: the value a position carries (R44, R169). -/
def AnswerCode.value : AnswerCode → BitVec 3
  | .clear => 1
  | .shared => 2
  | .supply => 3
  | .follow => 4
  | .again => 5
  | .void => 6

/-- The combined answer of the greatest value read: silent reads as Clear, 7 as Void (R169). -/
def AnswerCode.ofValue (v : BitVec 3) : AnswerCode :=
  if v = 0 then .clear else if v = 1 then .clear else if v = 2 then .shared else if v = 3 then .supply
  else if v = 4 then .follow else if v = 5 then .again else .void

/-- The stronger of two answer codes (R44). -/
def AnswerCode.strongest (a b : AnswerCode) : AnswerCode := if a.value.toNat ≤ b.value.toNat then b else a

/-- The value a driven acknowledgement code puts on a position (R169). -/
def AckCode.value : AckCode → BitVec 3
  | .garbled => 1
  | .stale => 2
  | .refused => 3
  | .taken => 4

/-- What an acknowledgement position reads as: none is silent; 5, 6 and 7 read as Garbled (R169). -/
def AckCode.ofValue (v : BitVec 3) : Option AckCode :=
  if v = 0 then none else if v = 2 then some .stale else if v = 3 then some .refused
  else if v = 4 then some .taken else some .garbled

/-- The greater of two position values: what a position reads where both are driven (R169). -/
def maxValue (a b : BitVec 3) : BitVec 3 := if a.toNat ≤ b.toNat then b else a

/-- The combined answer of a window from what the others drive and what this station drives (R44, R169). -/
def combine (driven : Table (BitVec 3) 4) (own : Option AnswerCode) : AnswerCode :=
  AnswerCode.ofValue (maxValue (driven.toList.foldl maxValue 0) (match own with | some c => c.value | none => 0))

end Sys2Proof.Machine
end

