-- ==== Sys2Proof/Config.lean ====
section
/-!
DEFINITION. What the ZC416 fixes as capacities, and the free values: what the data book leaves open. A free value has no
body, so nothing can be proved about which value it is.
-/

namespace Sys2Proof.Config

/-- The LRQ holds at most 8 requests (R159). -/
def lrqPlaces : Nat := 8
/-- The Fault Log holds at most 8 records (R165). -/
def logPlaces : Nat := 8
/-- A PRT entry's waiting list holds at most 4 requests (R59, R61). -/
def waitingPlaces : Nat := 4
/-- A retry count of 64 ends an entry (R70). -/
def retryLimit : Nat := 64
/-- The RQ holds at most 4 entries (R120). -/
def rqPlaces : Nat := 4
/-- The SQ has 8 places (R51). -/
def sqPlaces : Nat := 8
/-- A data message is sent at most 4 times (R53). -/
def tryLimit : Nat := 4
/-- The HWQ has 16 places (R103). -/
def hwqPlaces : Nat := 16
/-- A set of the Export Table holds at most 8 entries (R96). -/
def exportWays : Nat := 8
/-- The Pin Table holds at most 2 entries (R133). -/
def pinPlaces : Nat := 2
/-- The base of the control window (10 section 10.1). -/
def controlBase : Nat := 0xFFFFFFF000
/-- The size of the pool and of the pool window, 16 GiB (R2). -/
def poolBytes : Nat := 2 ^ 34

/-- FREE VALUE (R106): a byte that a failed memory write leaves, by the number of the free value and the byte's address:
"The written bytes of a failed write are unknown" (log 9). -/
opaque failedWriteByte : Nat → Nat → Byte

/-- FREE VALUE (R107): does a whole-line or masked write in progress at a reset land? (log 10) -/
opaque resetWriteLands : Nat → Bool

/-- FREE VALUE (R161): does one byte, at an address, of a local-write in progress at a reset land? "in whole or in part, or
not at all" (log 10) -/
opaque resetByteLands : Nat → Nat → Bool

end Sys2Proof.Config
end

