-- ==== Sys2Proof/Machine/State.lean ====
section
/-!
DEFINITION. The state of one ZC416 station: every register, table, queue, timer and flag the data book gives it, block by
block (00 section 0.3.1), and its reset value. INVENTORY.md, "State", lists every field with its rule.
-/

namespace Sys2Proof.Machine

/-! ### Local Port Unit (chapter 10) -/

/-- The five operations of a pool request (10 section 10.2). -/
inductive LocalOp where
  | read
  | write
  | pinnedRead
  | pinnedWrite
  | flushLine
  deriving DecidableEq, Repr

/-- A request held in the LRQ; its pool address is the one computed at acceptance (R156). -/
structure LocalReq where
  tag  : PTag
  op   : LocalOp
  addr : PoolAddr
  /-- 1 to 64. -/
  len  : Nat
  data : List Byte
  deriving DecidableEq, Repr

/-- A local request as the blocks behind the LRQ hold it, in a waiting list for example (R61). -/
structure Item where
  tag    : PTag
  op     : LocalOp
  offset : Offset
  len    : Nat
  data   : List Byte
  deriving DecidableEq, Repr

/-- The three paths (R13). -/
inductive Path where
  | home
  | cached
  | direct
  deriving DecidableEq, Repr

/-- What a request passed on by check 6 carries while it is the LRQ head (R7). -/
structure Decoded where
  item    : Item
  line    : LineNo
  segment : SegNo
  home    : StationNo
  kind    : SegKind
  path    : Path
  /-- The home memory address of its first byte; read on the home path alone. -/
  memAddr : MemAddr
  deriving DecidableEq, Repr

/-- The statuses of responses (R160), in the order of their codes (11 section 11.3). -/
inductive Status where
  | ok
  | unmapped
  | access
  | misaligned
  | notCacheable
  | pinLimit
  | pinHeld
  | pinLost
  | retryExhausted
  | dataTimeout
  | dataError
  | full
  | tagInUse
  | wrongState
  | badStart
  | quiescing
  | quiesced
  | isolated
  deriving DecidableEq, Repr

/-- What a response carries beside its tag and status: nothing, a read's bytes, or a register's contents (R160). -/
inductive Payload where
  | none
  | bytes (bs : List Byte)
  | word (w : BitVec 64)
  deriving DecidableEq, Repr

/-- A response to the processor bridge (R160). -/
structure Response where
  tag     : PTag
  status  : Status
  payload : Payload
  deriving DecidableEq, Repr

/-- The Fault Log record kinds (R165), in the order of their codes 1 to 15 (R171). -/
inductive FaultKind where
  | dataTimeout
  | retryExhausted
  | strayData
  | resendExhausted
  | staleData
  | absorbLost
  | memoryError
  | pinExpired
  | unmappedAccess
  | latePeer
  | segmentContested
  | numberContested
  | lateJoin
  | readyTimeout
  | enrolMismatch
  deriving DecidableEq, Repr

/-- A Fault Log record: a kind and up to four optional fields (R165). -/
structure FaultRecord where
  kind    : FaultKind
  line    : Option LineNo := none
  segment : Option SegNo := none
  peer    : Option StationNo := none
  tag     : Option PTag := none
  deriving DecidableEq, Repr

/-- The Local Port Unit. -/
structure LocalPort where
  /-- The Local Request Queue, head first (R159). -/
  lrq         : List LocalReq
  /-- The head's decode, once it has passed check 6 (R7). -/
  head        : Option Decoded
  /-- The tag of the Recall entry noted as the head's pin recall (R136). -/
  pinRecall   : Option ReqTag
  /-- Processor tags in use, bit n for tag n (R158). -/
  tags        : BitVec 32
  /-- The Fault Log, oldest first (R165). -/
  log         : List FaultRecord
  /-- R165. -/
  overflow    : Bool
  /-- R167. -/
  stateChange : Bool
  /-- Event Enable bit 0 (R163). -/
  faultEnable : Bool
  /-- Event Enable bit 1 (R163). -/
  stateEnable : Bool
  deriving DecidableEq, Repr

/-! ### Segment Decoder (chapter 1) -/

/-- A Segment Table entry (R3): the four other fields are present only when it is mapped. -/
inductive SegEntry where
  | unmapped
  | contested
  | mapped (home : StationNo) (access : Access) (kind : SegKind) (index : BitVec 4)
  deriving DecidableEq, Repr

/-! ### Line Cache (chapters 2 and 8) -/

/-- The states of a held line (R15); a line that no way holds is Vacant. -/
inductive LineState where
  | copy
  | sole
  | altered
  deriving DecidableEq, Repr

/-- A way of the RLC (R16). -/
inductive Way where
  | empty
  | reserved (line : LineNo)
  | holding (line : LineNo) (state : LineState) (data : LineData)
  deriving DecidableEq, Repr

/-- A set of the RLC: its 8 ways, and the ways used since the last reset, most recently used first (R18). A way not listed is
older than every listed one, and all such ways have equal ages (R17). -/
structure RlcSet where
  ways : Table Way 3
  use  : List WayNo
  deriving DecidableEq, Repr

/-- The path of a Pin Table entry (R133). -/
inductive PinPath where
  | remote
  | home
  deriving DecidableEq, Repr

/-- A Pin Table entry (R133). -/
structure PinEntry where
  line  : LineNo
  path  : PinPath
  /-- Held, or pending. -/
  held  : Bool
  /-- The pin timer: stopped, or running for this many µs (R140). -/
  timer : Option (BitVec 8)
  tag   : PTag
  deriving DecidableEq, Repr

/-- The Line Cache: the RLC and the Pin Table. -/
structure LineCache where
  sets : Table RlcSet 8
  pins : List PinEntry
  deriving DecidableEq, Repr

/-! ### Request Engine (chapters 4 and 5) -/

/-- The kinds of a PRT entry (R60). -/
inductive PrtKind where
  | fetch
  | claim
  | promote
  | recall
  | directRead
  | directWrite
  deriving DecidableEq, Repr

/-- The phases of a PRT entry (R65). -/
inductive Phase where
  | queued
  | awaitingData
  | finishing
  deriving DecidableEq, Repr

/-- The kinds a follower can have (R83). -/
inductive FollowerKind where
  | fetch
  | claim
  | recall
  deriving DecidableEq, Repr

/-- A follower record (R83). -/
structure Follower where
  station : StationNo
  tag     : ReqTag
  gen     : Gen
  kind    : FollowerKind
  deriving DecidableEq, Repr

/-- The data message a PRT entry has yet to place in the SQ (R86, R90, R91). -/
inductive Owes where
  | nothing
  | handOff
  | abandoned
  deriving DecidableEq, Repr

/-- What made a Recall entry: a local request (R113), the wanted list (R117) or a Pinned Read (R136). Every other entry is made
by a local request. -/
inductive Origin where
  | request
  | victim
  | pin
  deriving DecidableEq, Repr

/-- A PRT entry in use (R60). -/
structure PrtEntry where
  kind         : PrtKind
  line         : LineNo
  /-- Fetch, Claim and Promote alone. -/
  way          : Option WayNo
  phase        : Phase
  expected     : Option Grant
  /-- 0 to 64. -/
  retry        : Nat
  /-- The data timer: stopped, or running for this many µs (R79). -/
  timer        : Option (BitVec 11)
  /-- An expiry held until the window of its line closes (R80). -/
  expiryHeld   : Bool
  downgrade    : Bool
  dropAfterUse : Bool
  waiting      : List Item
  follower     : Option Follower
  owes         : Owes
  /-- The note of R87: the message that filled the way was sent by the line's home. -/
  filledByHome : Bool
  /-- R87: a write of the waiting list was merged into the line. -/
  wrote        : Bool
  origin       : Origin
  deriving DecidableEq, Repr

/-- A place of the PRT: its generation, kept free or in use, and the entry when in use (R59). -/
structure PrtSlot where
  gen   : Gen
  entry : Option PrtEntry
  deriving DecidableEq, Repr

/-- The party that the allocation turn names (R63). -/
inductive Turn where
  | lrq
  | victim
  deriving DecidableEq, Repr

/-- The Request Engine. -/
structure RequestEngine where
  prt  : Table PrtSlot 3
  turn : Turn
  deriving DecidableEq, Repr

/-! ### Return Unit (chapter 7) -/

/-- An RQ entry (R120). -/
structure RqEntry where
  line    : LineNo
  data    : LineData
  flushes : List PTag
  deriving DecidableEq, Repr

/-- The quiesce walk (R129, R130). -/
inductive Walk where
  | notBegun
  /-- At this way; position 8 * set + way, 0 to 2047. -/
  | atWay (position : Nat)
  | done
  deriving DecidableEq, Repr

/-- The Return Unit. -/
structure ReturnUnit where
  rq   : List RqEntry
  walk : Walk
  deriving DecidableEq, Repr

/-! ### Home Unit (chapter 6) -/

/-- The class of an Export Table entry (R96). -/
inductive ExportClass where
  | sharedOut
  | soleOut
  deriving DecidableEq, Repr

/-- The recall state of an Export Table entry (R96). -/
inductive RecallState where
  | none
  | wanted
  | inFlight
  deriving DecidableEq, Repr

/-- An Export Table entry (R96). The awaiting-data timer runs exactly while the flag is set (R108), so the two are one item:
none is flag clear and timer stopped, `some t` is flag set and timer running for t µs. -/
structure ExportEntry where
  line     : LineNo
  cls      : ExportClass
  state    : RecallState
  awaiting : Option (BitVec 11)
  deriving DecidableEq, Repr

/-- The kinds of HWQ entry with the fields each needs (R103); the line and the sender are those R106 records. -/
inductive HwqWork where
  | supplyRead (dest : StationNo) (tag : ReqTag) (gen : Gen) (line : LineNo) (grant : Grant)
  | directRead (dest : StationNo) (tag : ReqTag) (gen : Gen) (line : LineNo)
  | absorbWrite (line : LineNo) (data : LineData)
  | returnWrite (line : LineNo) (sender : StationNo) (data : LineData)
  | recallWrite (line : LineNo) (data : LineData)
  | directWrite (line : LineNo) (sender : StationNo) (mask : BitVec 64) (bytes : List Byte)
  | localRead (line : LineNo) (tag : PTag) (offset : Offset) (len : Nat)
  | localWrite (line : LineNo) (tag : PTag) (offset : Offset) (len : Nat) (bytes : List Byte)
  deriving DecidableEq, Repr

/-- An HWQ entry: its home memory address (R5) and its work. -/
structure HwqEntry where
  addr : MemAddr
  work : HwqWork
  deriving DecidableEq, Repr

/-- The memory port (R104, R105). -/
inductive MemPort where
  | idle
  | busy
  /-- The head's read is over and it waits for an SQ place, with the bytes it read, or with none after an error. -/
  | holding (result : Option LineData)
  deriving DecidableEq, Repr

/-- The Home Unit, with the home memory it masters. -/
structure HomeUnit where
  /-- 128 sets, each in the order of creation, oldest first (R96). -/
  exports : Table (List ExportEntry) 7
  /-- R99. -/
  wanted  : List LineNo
  /-- The filled places, head first (R103). -/
  hwq     : List HwqEntry
  port    : MemPort
  /-- The home memory, in canonical form (Machine/Ops.lean, `Memory.wf`). -/
  mem     : List Host.Cell
  /-- How many bytes of memory are fitted, from address 0 up (R5, log 8). -/
  fitted  : Nat
  deriving DecidableEq, Repr

/-! ### Bus Interface (chapter 3) -/

/-- An item of the send list (R40). -/
inductive SendItem where
  | prt (tag : ReqTag)
  | rq (line : LineNo)
  | announce
  | ready
  deriving DecidableEq, Repr

/-- The delivery state of a party (R51). -/
inductive Delivery where
  | owed
  | taken
  | stale
  | failed
  deriving DecidableEq, Repr

/-- An SQ entry (R51). -/
structure SqEntry where
  msg        : DataMsg
  onlyFresh  : Bool
  /-- 0 to 4. -/
  tries      : Nat
  destState  : Delivery
  /-- Read when home-take is set. -/
  homeState  : Delivery
  /-- Its conversion is waiting: it has left the sending order (R52, R55). -/
  converting : Bool
  deriving DecidableEq, Repr

/-- A party that waits for an SQ place (R51): a PRT entry that owes a message, or the HWQ head. -/
inductive Asker where
  | prt (tag : ReqTag)
  | home
  deriving DecidableEq, Repr

/-- The change of a way that the Line Cache records (R31). -/
inductive CacheChange where
  | none
  | toCopy
  | toVacant
  deriving DecidableEq, Repr

/-- The change that the Request Engine records (R75). -/
inductive EngineChange where
  | none
  | downgrade (tag : ReqTag)
  | drop (tag : ReqTag)
  | convert (tag : ReqTag)
  | follow (tag : ReqTag)
  deriving DecidableEq, Repr

/-- What this station's blocks recorded at the arrival of a request, and the places they hold until its close (R42). -/
structure Recorded where
  cache    : CacheChange
  /-- The Line Cache judged Supply and holds an SQ place (R32). -/
  supply   : Bool
  /-- The Return Unit judged Supply and holds an SQ place (R125). -/
  takeover : Bool
  engine   : EngineChange
  /-- The Home Unit judged Clear in the home role (R98, R100). -/
  home     : Bool
  /-- The Home Unit holds an HWQ place (R98, R100). -/
  homeHold : Bool
  deriving DecidableEq, Repr

/-- No block recorded anything. -/
def Recorded.nothing : Recorded :=
  { cache := .none, supply := false, takeover := false, engine := .none, home := false, homeHold := false }

/-- An open answer window. -/
structure Window where
  /-- The message and its sender, or none where this station found it damaged. -/
  msg    : Option (StationNo × Request)
  /-- The item this station sent, where it is the sender. -/
  own    : Option SendItem
  /-- What this station drives in its position; none is silent. -/
  drives : Option AnswerCode
  record : Recorded
  deriving DecidableEq, Repr

/-- An open acknowledgement window. -/
structure AckWindow where
  /-- This station sent the message. -/
  own      : Bool
  /-- The message carried home-take, so its sender reads the home position (R48). -/
  homeTake : Bool
  /-- What this station drives in the destination position. -/
  dest     : Option AckCode
  /-- What this station drives in the home position. -/
  home     : Option AckCode
  deriving DecidableEq, Repr

/-- A unit this station has sent (R40, R52). -/
inductive OwnUnit where
  | request (item : SendItem) (msg : Request)
  | data (homeTake : Bool)
  deriving DecidableEq, Repr

/-- The unit in progress, as far as it concerns this station; the medium carries one at a time (R37). -/
inductive Medium where
  | idle
  | sent (unit : OwnUnit)
  | answering (w : Window)
  | acking (a : AckWindow)
  deriving DecidableEq, Repr

/-- The Bus Interface. -/
structure BusInterface where
  lastWinner : StationNo
  /-- Oldest first (R40). -/
  sendList   : List SendItem
  /-- The filled places in the order of their creation (R51); the sending order is this list less the entries whose
  conversion waits (R52). -/
  sq         : List SqEntry
  /-- Oldest first (R51). -/
  askers     : List Asker
  latePeers  : StationSet
  medium     : Medium
  deriving DecidableEq, Repr

/-! ### Station Controller (chapter 9) -/

/-- The station states (R145), in the order of their codes (R170). -/
inductive Mode where
  | dormant
  | enrolling
  | operational
  | quiescing
  | quiesced
  | isolated
  | parked
  deriving DecidableEq, Repr

/-- A claim slot, with every value its bits can hold (R170). -/
structure ClaimSlot where
  segment : SegNo
  access  : BitVec 2
  kind    : BitVec 2
  valid   : Bool
  deriving DecidableEq, Repr

/-- The Start Record (R142), with every value its bits can hold (R170). -/
structure StartRecord where
  station     : StationNo
  expected    : BitVec 5
  dataTimeout : BitVec 11
  pinLimit    : BitVec 8
  enrolLimit  : BitVec 8
  base        : BitVec 40
  slots       : Table ClaimSlot 4
  deriving DecidableEq, Repr

/-- A claim map entry (R146). -/
inductive ClaimState where
  | unclaimed
  | contested
  | claimed (number : StationNo) (access : Access) (kind : SegKind) (index : BitVec 4)
  deriving DecidableEq, Repr

/-- The roll state (R146). -/
structure Roll where
  /-- For each number, the expected count its Announce carried, 1 to 16. -/
  announced   : Table (Option Nat) 4
  contested   : StationSet
  claims      : Table ClaimState 8
  closed      : Bool
  gap         : Bool
  ownAnnounce : Bool
  readySet    : StationSet
  limitPassed : Bool
  /-- The enrolment timer: stopped, or running for this many ms. -/
  timer       : Option (BitVec 8)
  /-- This station's Ready has been queued (R149, "once"). -/
  readyQueued : Bool
  deriving DecidableEq, Repr

/-- The Station Controller. -/
structure Controller where
  mode     : Mode
  start    : StartRecord
  enrolled : StationSet
  roll     : Roll
  deriving DecidableEq, Repr

/-! ### The station -/

/-- What the latest command gave out: the responses in the order given, and the bytes of the message sent (log 1). -/
structure Outputs where
  responses : List Response
  sent      : Option (List Byte)
  deriving DecidableEq, Repr

/-- One station. -/
structure State where
  lpu      : LocalPort
  segments : Table SegEntry 8
  cache    : LineCache
  engine   : RequestEngine
  ret      : ReturnUnit
  home     : HomeUnit
  bus      : BusInterface
  ctl      : Controller
  out      : Outputs
  /-- The number of the next free value (log 9); the model's own. -/
  fresh    : Nat
  /-- The commands that wait, first in first out. -/
  pending  : List Instr
  deriving DecidableEq, Repr

/-- Reasons to stop with a fault. -/
inductive Fault where
  /-- Raised by CONTENTION, REQUEST_ARRIVAL and DATA_MESSAGE_ARRIVAL while another unit is in progress at this station, which
  R37 says does not occur ("The pool bus carries one unit at a time"). Safe: the model stops where the spec gives nothing. -/
  | unitOverlap
  deriving DecidableEq, Repr

/-- Reasons to refuse a command. -/
inductive Refusal where
  /-- A row not yet modelled; raised by no arm. Safe. -/
  | notModelled (mnemonic : String)
  /-- Raised by the four close commands where the window open here is of another kind than the command closes, or its message
  has not yet arrived (R37, R46). Safe: the model stops where the spec gives nothing. -/
  | closeOfOtherKind
  deriving DecidableEq, Repr

/-! ### Reset values -/

/-- The LPU after each reset (R158, R159, R163, R165, R167). -/
def LocalPort.reset : LocalPort :=
  { lrq := [], head := none, pinRecall := none, tags := 0, log := [], overflow := false, stateChange := false,
    faultEnable := false, stateEnable := false }

/-- An RLC set with every way empty and all use ages equal (R17). -/
def RlcSet.reset : RlcSet := { ways := fill 3 .empty, use := [] }

/-- The RLC and the Pin Table after each reset (R17, R133). -/
def LineCache.reset : LineCache := { sets := fill 8 RlcSet.reset, pins := [] }

/-- The PRT after each reset (R59), with the turn at the LRQ (R63). -/
def RequestEngine.reset : RequestEngine := { prt := fill 3 { gen := 0, entry := none }, turn := .lrq }

/-- The RQ after each reset (R120), and no walk. -/
def ReturnUnit.reset : ReturnUnit := { rq := [], walk := .notBegun }

/-- The Home Unit after each reset (R97, R107), over the memory given: its contents are kept through every reset. -/
def HomeUnit.reset (mem : List Host.Cell) (fitted : Nat) : HomeUnit :=
  { exports := fill 7 [], wanted := [], hwq := [], port := .idle, mem := mem, fitted := fitted }

/-- The Bus Interface after each reset (R39, R40, R51, R57). -/
def BusInterface.reset : BusInterface :=
  { lastWinner := 15, sendList := [], sq := [], askers := [], latePeers := 0, medium := .idle }

/-- The Start Record after each reset (R142; the other bits of a slot that is not valid: log 32). -/
def StartRecord.reset : StartRecord :=
  { station := 0, expected := 1, dataTimeout := 256, pinLimit := 32, enrolLimit := 20, base := 0,
    slots := fill 4 { segment := 0, access := 0, kind := 0, valid := false } }

/-- The roll state after each reset (R146). -/
def Roll.reset : Roll :=
  { announced := fill 4 none, contested := 0, claims := fill 8 .unclaimed, closed := false, gap := false,
    ownAnnounce := false, readySet := 0, limitPassed := false, timer := none, readyQueued := false }

/-- The Station Controller after a reset that leaves the station in `mode` (R155). -/
def Controller.reset (mode : Mode) : Controller :=
  { mode := mode, start := StartRecord.reset, enrolled := 0, roll := Roll.reset }

/-- The station after a pool reset or power-on (R155), with no memory byte listed (log 7) and 1 GiB fitted (log 8). -/
def State.reset : State :=
  { lpu := LocalPort.reset, segments := fill 8 .unmapped, cache := LineCache.reset, engine := RequestEngine.reset,
    ret := ReturnUnit.reset, home := HomeUnit.reset [] (2 ^ 30), bus := BusInterface.reset,
    ctl := Controller.reset .dormant, out := { responses := [], sent := none }, fresh := 0, pending := [] }

end Sys2Proof.Machine
end

