-- ==== Sys2Proof/Machine/Flags.lean ====
section
/-!
DEFINITION. The flags and lines the processor sees: the event line (R167), the state-change flag, the Fault Log (R165) and
the responses (R158, R160).
-/

namespace Sys2Proof.Machine

/-- The event line (R167): asserted while an enabled condition holds. -/
def State.eventLine (s : State) : Bool :=
  (s.lpu.faultEnable && !s.lpu.log.isEmpty) || (s.lpu.stateEnable && s.lpu.stateChange)

/-- A record joins the Fault Log, or is dropped and sets the overflow flag (R165). -/
def State.addFault (s : State) (r : FaultRecord) : State :=
  if s.lpu.log.length < Config.logPlaces then { s with lpu.log := s.lpu.log ++ [r] }
  else { s with lpu.overflow := true }

/-- A change of station state other than one made by a reset (R145, R167). -/
def State.enterMode (s : State) (m : Mode) : State :=
  { s with ctl.mode := m, lpu.stateChange := true }

/-- A response is given. -/
def State.reply (s : State) (tag : PTag) (st : Status) (p : Payload) : State :=
  { s with out.responses := s.out.responses ++ [{ tag := tag, status := st, payload := p }] }

/-- Is a processor tag in use? (R158) -/
def State.tagInUse (s : State) (tag : PTag) : Bool := s.lpu.tags.getLsbD tag.toNat

/-- A tag enters the set of tags in use (R158). -/
def State.useTag (s : State) (tag : PTag) : State :=
  { s with lpu.tags := s.lpu.tags ||| (1#32 <<< tag.toNat) }

/-- A tag leaves the set of tags in use (R158). -/
def State.freeProcessorTag (s : State) (tag : PTag) : State :=
  { s with lpu.tags := s.lpu.tags &&& ~~~(1#32 <<< tag.toNat) }

/-- An accepted request is answered: the response is given, and its tag is free in the same event (R158, R160). -/
def State.answer (s : State) (tag : PTag) (st : Status) (p : Payload) : State :=
  (s.reply tag st p).freeProcessorTag tag

end Sys2Proof.Machine
end

