-- ==== Sys2Proof/Machine/Operands.lean ====
section
/-!
DEFINITION. What a local request's address and length name: the split of a pool address (R1), the home memory address (R5), the
two windows (R2, R156) and the Segment Decoder's checks (R7 to R13).
-/

namespace Sys2Proof.Machine

/-! ### The split of R1 -/

/-- The line number of a pool address: the address divided by 64. -/
def lineOfAddr (a : PoolAddr) : LineNo := a.extractLsb' 6 28

/-- The byte offset in line: the address modulo 64. -/
def offsetOfAddr (a : PoolAddr) : Offset := a.extractLsb' 0 6

/-- The segment number of a line: the line number divided by 2^20. -/
def segmentOf (l : LineNo) : SegNo := l.extractLsb' 20 8

/-- The line in segment: the line number modulo 2^20. -/
def lineInSegment (l : LineNo) : BitVec 20 := l.extractLsb' 0 20

/-- The RLC set index: the line number modulo 256. -/
def rlcIndex (l : LineNo) : RlcIndex := l.extractLsb' 0 8

/-- The Export Table set index: the line number modulo 128. -/
def exportIndex (l : LineNo) : ExportIndex := l.extractLsb' 0 7

/-- The home memory address of a byte: the home index times 64 MiB plus the offset in segment (R5). -/
def homeAddr (index : BitVec 4) (l : LineNo) (off : Offset) : MemAddr := index ++ lineInSegment l ++ off

/-! ### The Segment Table as the blocks use it -/

/-- The Segment Table entry of a line. -/
def State.segmentEntry (s : State) (l : LineNo) : SegEntry := look s.segments (segmentOf l)

/-- The home station of a line, where its segment is mapped. -/
def State.homeOf (s : State) (l : LineNo) : Option StationNo :=
  match s.segmentEntry l with
  | .mapped h _ _ _ => some h
  | .unmapped => none
  | .contested => none

/-- This station's number, from the Start Record (R142). -/
def State.number (s : State) : StationNo := s.ctl.start.station

/-- Does this station take the home role for the line? (R14) -/
def State.homesLine (s : State) (l : LineNo) : Bool := s.homeOf l == some s.number

/-- The home memory address of a byte of a line this station homes (R5); an unmapped segment has none, and 0 stands for it
where no rule reaches. -/
def State.memAddr (s : State) (l : LineNo) (off : Offset) : MemAddr :=
  match s.segmentEntry l with
  | .mapped _ _ _ i => homeAddr i l off
  | .unmapped => 0
  | .contested => 0

/-! ### The windows (R2, R156) -/

/-- What a local request is, by its operation code and address. -/
inductive LocalClass where
  /-- Codes 5, 6 and 7. -/
  | noOperation
  /-- In the control window, at this offset. -/
  | control (offset : BitVec 12)
  /-- In the pool window, at this pool address. -/
  | pool (addr : PoolAddr)
  /-- In neither window. -/
  | neither
  deriving DecidableEq, Repr

/-- The classification of R156: the operation code first, then the control window, then the pool window of R2. -/
def classify (base : BitVec 40) (code : BitVec 3) (addr : LocalAddr) : LocalClass :=
  if 5 ≤ code.toNat then .noOperation
  else if Config.controlBase ≤ addr.toNat then .control (addr.extractLsb' 0 12)
  else if base.toNat ≤ addr.toNat ∧ addr.toNat < base.toNat + Config.poolBytes then
    .pool ((addr - base).extractLsb' 0 34)
  else .neither

/-- The operation of a code (11 section 11.3); codes 5 to 7 name none. -/
def LocalOp.ofCode (code : BitVec 3) : Option LocalOp :=
  if code = 0 then some .read else if code = 1 then some .write else if code = 2 then some .pinnedRead
  else if code = 3 then some .pinnedWrite else if code = 4 then some .flushLine else none

/-! ### The decode of a pool request at the LRQ head (R7) -/

/-- Does a read kind ask for bytes back? -/
def LocalOp.isRead : LocalOp → Bool
  | .read => true
  | .pinnedRead => true
  | .write => false
  | .pinnedWrite => false
  | .flushLine => false

/-- Is the request a pinned one? -/
def LocalOp.isPinned : LocalOp → Bool
  | .pinnedRead => true
  | .pinnedWrite => true
  | .read => false
  | .write => false
  | .flushLine => false

/-- R8: the bytes cross a line boundary; a Flush Line never does. -/
def misaligned (r : LocalReq) : Bool :=
  r.op != .flushLine && 64 < (offsetOfAddr r.addr).toNat + r.len

/-- R10. -/
def Access.permits : Access → LocalOp → Bool
  | .none, _ => false
  | .readOnly, op => op == .read || op == .flushLine
  | .writeOnly, op => op == .write || op == .flushLine
  | .readWrite, _ => true

/-- R12, for a request that has passed checks 1 to 4: the status it is refused with, if it is. -/
def State.stateRefusal (s : State) (op : LocalOp) (home : StationNo) (line : LineNo) : Option Status :=
  let remote := home != s.number
  let pinEntry := s.cache.pins.any fun p => p.line == line
  let closed := op == .pinnedRead || (remote && !(op == .pinnedWrite && pinEntry))
  match s.ctl.mode with
  | .quiescing => if closed then some .quiescing else none
  | .quiesced => if closed then some .quiesced else none
  | .dormant => none
  | .enrolling => none
  | .operational => none
  | .isolated => none
  | .parked => none

/-- The path of R13. -/
def pathOf (own home : StationNo) (kind : SegKind) : Path :=
  if home = own then .home else match kind with
    | .cached => .cached
    | .direct => .direct

/-- The item that the blocks behind the LRQ hold for a request (R61). -/
def LocalReq.item (r : LocalReq) : Item :=
  { tag := r.tag, op := r.op, offset := offsetOfAddr r.addr, len := r.len, data := r.data.take r.len }

/-- What the decode of a request comes to. -/
inductive DecodeOutcome where
  /-- Answered with a status and what R9 gives back; UNMAPPED alone is logged. -/
  | refuse (status : Status) (payload : Payload)
  /-- A Flush Line that has nothing to act on: OK at once (R13). -/
  | flushOk
  /-- Passed on by check 6. -/
  | pass (d : Decoded)
  deriving DecidableEq, Repr

/-- The checks of R7 in their order. -/
def State.decode (s : State) (r : LocalReq) : DecodeOutcome :=
  let line := lineOfAddr r.addr
  if misaligned r then .refuse .misaligned .none
  else match s.segmentEntry line with
    | .unmapped => .refuse .unmapped (if r.op.isRead then .bytes (List.replicate r.len 0) else .none)
    | .contested => .refuse .unmapped (if r.op.isRead then .bytes (List.replicate r.len 0) else .none)
    | .mapped home access kind index =>
      if access.permits r.op = false then .refuse .access .none
      else if r.op.isPinned && kind == .direct then .refuse .notCacheable .none
      else match s.stateRefusal r.op home line with
        | some st => .refuse st .none
        | none =>
          let path := pathOf s.number home kind
          if r.op = .flushLine ∧ path ≠ .cached then .flushOk
          else .pass
            { item := r.item, line := line, segment := segmentOf line, home := home, kind := kind, path := path,
              memAddr := homeAddr index line (offsetOfAddr r.addr) }

end Sys2Proof.Machine
end

