-- ==== Sys2Proof/Machine/Ops.lean ====
section
/-!
DEFINITION. The named operations over the station's tables, queues and memory. Every block's storage is read and written through
these.
-/

namespace Sys2Proof.Machine

/-! ### Home memory: a canonical list of (address, byte) (R103, R104) -/

/-- What a byte that nothing has written reads as: 0, DESIGN CHOICE, unsafe (log 7). -/
def Memory.blank : Byte := 0

/-- Every address of the list is above `a`, the addresses rise, and no entry holds the blank byte. -/
def Memory.wfFrom : Nat → List Host.Cell → Bool
  | _, [] => true
  | a, (b, v) :: m => decide (a ≤ b) && v != Memory.blank && Memory.wfFrom (b + 1) m

/-- The canonical form: addresses strictly rising, no entry equal to what an unlisted address reads as. -/
def Memory.wf (m : List Host.Cell) : Bool := Memory.wfFrom 0 m

/-- The byte at an address. -/
def Memory.read : List Host.Cell → Nat → Byte
  | [], _ => Memory.blank
  | (b, v) :: m, a => if a = b then v else Memory.read m a

/-- One byte written; writing the blank byte removes the entry. -/
def Memory.write : List Host.Cell → Nat → Byte → List Host.Cell
  | [], a, x => if x = Memory.blank then [] else [(a, x)]
  | (b, v) :: m, a, x =>
    if a < b then (if x = Memory.blank then (b, v) :: m else (a, x) :: (b, v) :: m)
    else if a = b then (if x = Memory.blank then m else (a, x) :: m)
    else (b, v) :: Memory.write m a x

/-- Bytes written one after another. -/
def Memory.writeAll (m : List Host.Cell) (ps : List Host.Cell) : List Host.Cell :=
  ps.foldl (fun m p => Memory.write m p.1 p.2) m

/-- `n` bytes from an address upwards. -/
def Memory.readBytes (m : List Host.Cell) (a n : Nat) : List Byte :=
  (List.range n).map fun i => Memory.read m (a + i)

/-- A run of bytes as stores from an address upwards. -/
def storesFrom (a : Nat) (bs : List Byte) : List Host.Cell :=
  (List.range bs.length).map fun i => (a + i, bs.getD i 0)

/-- The stores of a masked write: one byte for each flag set, in rising order of offset (R41). -/
def maskedStores (a : Nat) (mask : BitVec 64) (bs : List Byte) : List Host.Cell :=
  ((List.range 64).filter fun i => mask.getLsbD i).zip bs |>.map fun p => (a + p.1, p.2)

/-- The bytes an HWQ entry writes, with their home memory addresses; a read kind writes none (R103). -/
def HwqEntry.stores (e : HwqEntry) : List Host.Cell :=
  match e.work with
  | .supplyRead _ _ _ _ _ => []
  | .directRead _ _ _ _ => []
  | .absorbWrite _ d => storesFrom e.addr.toNat d.toList
  | .returnWrite _ _ d => storesFrom e.addr.toNat d.toList
  | .recallWrite _ d => storesFrom e.addr.toNat d.toList
  | .directWrite _ _ mask bs => maskedStores e.addr.toNat mask bs
  | .localRead _ _ _ _ => []
  | .localWrite _ _ _ _ bs => storesFrom e.addr.toNat bs

/-- The addresses an HWQ entry's operation reaches (R5). -/
def HwqEntry.reaches (e : HwqEntry) : List Nat :=
  match e.work with
  | .supplyRead _ _ _ _ _ => (List.range 64).map (e.addr.toNat + ·)
  | .directRead _ _ _ _ => (List.range 64).map (e.addr.toNat + ·)
  | .localRead _ _ _ n => (List.range n).map (e.addr.toNat + ·)
  | .absorbWrite _ _ | .returnWrite _ _ _ | .recallWrite _ _ | .directWrite _ _ _ _ | .localWrite _ _ _ _ _ =>
    e.stores.map (·.1)

/-- The line an HWQ entry works on. -/
def HwqWork.line : HwqWork → LineNo
  | .supplyRead _ _ _ l _ => l
  | .directRead _ _ _ l => l
  | .absorbWrite l _ => l
  | .returnWrite l _ _ => l
  | .recallWrite l _ => l
  | .directWrite l _ _ _ => l
  | .localRead l _ _ _ => l
  | .localWrite l _ _ _ _ => l

/-! ### Under answer, in transit, pinned -/

/-- The line is under answer: a request message that names it has arrived and its window is open (R28). -/
def State.underAnswer (s : State) (l : LineNo) : Bool :=
  match s.bus.medium with
  | .answering w => (match w.msg with | some (_, r) => r.line? == some l | none => false)
  | .idle => false
  | .sent _ => false
  | .acking _ => false

/-- The line is in transit here: an only-fresh SQ entry holds it (R54). -/
def State.inTransit (s : State) (l : LineNo) : Bool := s.bus.sq.any fun e => e.onlyFresh && e.msg.line == l

/-- The line's Pin Table entry. -/
def State.findPin (s : State) (l : LineNo) : Option PinEntry := s.cache.pins.find? fun p => p.line == l

/-- The line is pinned: it has a held entry, or, on the home path, an entry in either condition (R133). -/
def State.pinned (s : State) (l : LineNo) : Bool :=
  match s.findPin l with
  | some p => p.held || p.path == .home
  | none => false

/-- The line's Pin Table entry is removed. -/
def State.removePin (s : State) (l : LineNo) : State :=
  { s with cache.pins := s.cache.pins.filter fun p => p.line != l }

/-- A Pin Table entry is added. -/
def State.addPin (s : State) (p : PinEntry) : State := { s with cache.pins := s.cache.pins ++ [p] }

/-- The line's pin becomes held and its timer starts for the pin limit (R133, R140). -/
def State.holdPin (s : State) (l : LineNo) : State :=
  { s with cache.pins := s.cache.pins.map fun p =>
      if p.line = l then { p with held := true, timer := some s.ctl.start.pinLimit } else p }

/-! ### The RLC (R16, R18, R23) -/

/-- The ways of a set, in rising order. -/
def allWays : List WayNo := [0, 1, 2, 3, 4, 5, 6, 7]

/-- A way matches a line when it is reserved for it or holds it (R16). -/
def Way.isFor (w : Way) (l : LineNo) : Bool :=
  match w with
  | .empty => false
  | .reserved k => k == l
  | .holding k _ _ => k == l

/-- The set of a line. -/
def State.setOf (s : State) (l : LineNo) : RlcSet := look s.cache.sets (rlcIndex l)

/-- A way of the line's set. -/
def State.wayAt (s : State) (l : LineNo) (w : WayNo) : Way := look (s.setOf l).ways w

/-- The way that matches a line (R16). -/
def State.findWay (s : State) (l : LineNo) : Option WayNo := allWays.find? fun w => (s.wayAt l w).isFor l

/-- The way, state and data of a line held here; none when it is Vacant (R15). -/
def State.held (s : State) (l : LineNo) : Option (WayNo × LineState × LineData) :=
  match s.findWay l with
  | some w =>
    (match s.wayAt l w with
     | .holding _ st d => some (w, st, d)
     | .reserved _ => none
     | .empty => none)
  | none => none

/-- A way of the line's set is written. -/
def State.setWay (s : State) (l : LineNo) (w : WayNo) (x : Way) : State :=
  { s with cache.sets := put s.cache.sets (rlcIndex l) { s.setOf l with ways := put (s.setOf l).ways w x } }

/-- A way becomes the most recently used of its set (R18). -/
def State.touch (s : State) (l : LineNo) (w : WayNo) : State :=
  { s with cache.sets := put s.cache.sets (rlcIndex l) { s.setOf l with use := w :: (s.setOf l).use.filter (· != w) } }

/-- How old a way of the set is: 0 for the most recently used; ways not used since the reset are oldest and equal (R18). -/
def RlcSet.age (r : RlcSet) (w : WayNo) : Nat := r.use.idxOf w

/-- The tags of the PRT, in rising order. -/
def allTags : List ReqTag := [0, 1, 2, 3, 4, 5, 6, 7]

/-- The PRT entry of a tag, when in use. -/
def State.entry (s : State) (t : ReqTag) : Option PrtEntry := (look s.engine.prt t).entry

/-- The tag of the line's PRT entry (R59: at most one). -/
def State.findEntry (s : State) (l : LineNo) : Option ReqTag :=
  allTags.find? fun t => match s.entry t with | some e => e.line == l | none => false

/-- The lowest-numbered free tag (R62). -/
def State.freeTag (s : State) : Option ReqTag := allTags.find? fun t => (s.entry t).isNone

/-- R23, for a way that holds a line. -/
def State.lineReplaceable (s : State) (l : LineNo) : Bool :=
  (s.findEntry l).isNone && !s.pinned l && !s.underAnswer l && !s.inTransit l

/-- R23: may this way of the line's set be replaced? -/
def State.replaceable (s : State) (l : LineNo) (w : WayNo) : Bool :=
  match s.wayAt l w with
  | .empty => true
  | .reserved _ => false
  | .holding k _ _ => s.lineReplaceable k

/-- The victim of R23: the lowest-numbered empty way, else the replaceable way least recently used. -/
def State.victim (s : State) (l : LineNo) : Option WayNo :=
  match allWays.find? fun w => s.wayAt l w == .empty with
  | some w => some w
  | none =>
    (allWays.filter fun w => s.replaceable l w).foldl
      (fun best w => match best with
        | none => some w
        | some b => if (s.setOf l).age b < (s.setOf l).age w then some w else some b) none

/-! ### The PRT (R59, R62, R81) -/

/-- The entry of a tag is written. -/
def State.setEntry (s : State) (t : ReqTag) (e : PrtEntry) : State :=
  { s with engine.prt := put s.engine.prt t { look s.engine.prt t with entry := some e } }

/-- A freed entry: its generation advances by one, and nothing else of it is kept (R81); it is on no list. -/
def State.freeEntry (s : State) (t : ReqTag) : State :=
  { s with
    engine.prt := put s.engine.prt t { gen := (look s.engine.prt t).gen + 1, entry := none }
    bus.sendList := s.bus.sendList.filter (· != .prt t)
    bus.askers := s.bus.askers.filter (· != .prt t) }

/-- An item joins the tail of the send list; it is on the list at most once (R40). -/
def State.enqueue (s : State) (i : SendItem) : State :=
  { s with bus.sendList := s.bus.sendList.filter (· != i) ++ [i] }

/-- An item is removed from the send list by its owner (R40). -/
def State.dequeue (s : State) (i : SendItem) : State :=
  { s with bus.sendList := s.bus.sendList.filter (· != i) }

/-- The values a new PRT entry starts with (R62). -/
def PrtEntry.fresh (kind : PrtKind) (line : LineNo) (way : Option WayNo) (waiting : List Item) (origin : Origin) : PrtEntry :=
  { kind := kind, line := line, way := way, phase := .queued, expected := none, retry := 0, timer := none,
    expiryHeld := false, downgrade := false, dropAfterUse := false, waiting := waiting, follower := none,
    owes := .nothing, filledByHome := false, wrote := false, origin := origin }

/-- A new entry at a free tag; it joins the tail of the send list (R62). -/
def State.makeEntry (s : State) (t : ReqTag) (e : PrtEntry) : State := (s.setEntry t e).enqueue (.prt t)

/-- Pin-led: the waiting list holds a Pinned Read (R61). -/
def PrtEntry.pinLed (e : PrtEntry) : Bool := e.waiting.any fun i => i.op == .pinnedRead

/-! ### SQ places (R51) -/

/-- The SQ places held for the open window. -/
def State.sqHeld (s : State) : Nat :=
  match s.bus.medium with
  | .answering w => w.record.supply.toNat + w.record.takeover.toNat
  | .idle => 0
  | .sent _ => 0
  | .acking _ => 0

/-- Is an SQ place free? -/
def State.sqFree (s : State) : Bool := s.bus.sq.length + s.sqHeld < Config.sqPlaces

/-- A new SQ entry, with no try made and its parties owed; it joins the tail of the sending order (R51, R52). -/
def State.addSq (s : State) (m : DataMsg) (onlyFresh : Bool) : State :=
  { s with bus.sq := s.bus.sq ++
      [{ msg := m, onlyFresh := onlyFresh, tries := 0, destState := .owed, homeState := .owed, converting := false }] }

/-- A party that finds no free place waits for one, behind those that wait already (R51). -/
def State.ask (s : State) (a : Asker) : State := { s with bus.askers := s.bus.askers ++ [a] }

/-! ### The RQ (R120, R121) -/

/-- Has the RQ a free entry? -/
def State.rqFree (s : State) : Bool := s.ret.rq.length < Config.rqPlaces

/-- The line's RQ entry. -/
def State.findRq (s : State) (l : LineNo) : Option RqEntry := s.ret.rq.find? fun e => e.line == l

/-- A line joins the tail of the RQ and of the send list (R121). -/
def State.addRq (s : State) (l : LineNo) (d : LineData) (flushes : List PTag) : State :=
  ({ s with ret.rq := s.ret.rq ++ [{ line := l, data := d, flushes := flushes }] } : State).enqueue (.rq l)

/-- The waiting flushes of an RQ entry are answered OK with no data, in list order (R124, R126). -/
def State.answerFlushes (s : State) (ts : List PTag) : State := ts.foldl (fun s t => s.answer t .ok .none) s

/-- The line's RQ entry leaves the RQ and the send list, and its waiting flushes are answered (R124, R126). -/
def State.removeRq (s : State) (l : LineNo) : State :=
  match s.findRq l with
  | some e => (({ s with ret.rq := s.ret.rq.filter fun e => e.line != l } : State).dequeue (.rq l)).answerFlushes e.flushes
  | none => s

/-! ### The HWQ (R103) -/

/-- The HWQ places held by the requests of a Recall entry's waiting list (R113, R114). -/
def PrtSlot.hwqHeld (x : PrtSlot) : Nat :=
  match x.entry with
  | some e => if e.kind = .recall then e.waiting.length else 0
  | none => 0

/-- The HWQ places held: by the home's Clear for the open window, and by the requests of the Recall entries. -/
def State.hwqHeld (s : State) : Nat :=
  (match s.bus.medium with
   | .answering w => w.record.homeHold.toNat
   | .idle => 0
   | .sent _ => 0
   | .acking _ => 0) + (s.engine.prt.toList.map PrtSlot.hwqHeld).sum

/-- Has the HWQ a free place? (R103) -/
def State.hwqFree (s : State) : Bool := s.home.hwq.length + s.hwqHeld < Config.hwqPlaces

/-- An entry joins the tail of the HWQ. -/
def State.addHwq (s : State) (e : HwqEntry) : State := { s with home.hwq := s.home.hwq ++ [e] }

/-- A piece of work on a whole line joins the tail of the HWQ, at the line's home memory address (R5). -/
def State.addLineWork (s : State) (w : HwqWork) : State := s.addHwq { addr := s.memAddr w.line 0, work := w }

/-- The local-read or local-write of an item for a home line (R103, R112). -/
def Item.hwqWork (i : Item) (l : LineNo) : HwqWork :=
  if i.op.isRead then .localRead l i.tag i.offset i.len else .localWrite l i.tag i.offset i.len i.data

/-- An item's local-read or local-write joins the tail of the HWQ. -/
def State.addItemWork (s : State) (l : LineNo) (i : Item) : State :=
  s.addHwq { addr := s.memAddr l i.offset, work := i.hwqWork l }

/-- The memory port begins the head's operation when it is idle and the HWQ is not empty (R104). -/
def State.startPort (s : State) : State :=
  if s.home.port = .idle ∧ s.home.hwq ≠ [] then { s with home.port := .busy } else s

/-! ### The Export Table (R96, R99) -/

/-- The set of a line. -/
def State.exportSet (s : State) (l : LineNo) : List ExportEntry := look s.home.exports (exportIndex l)

/-- The line's Export Table entry. -/
def State.findExport (s : State) (l : LineNo) : Option ExportEntry := (s.exportSet l).find? fun e => e.line == l

/-- The set of a line is written. -/
def State.setExportSet (s : State) (l : LineNo) (es : List ExportEntry) : State :=
  { s with home.exports := put s.home.exports (exportIndex l) es }

/-- The line's entry is changed in its place. -/
def State.changeExport (s : State) (l : LineNo) (f : ExportEntry → ExportEntry) : State :=
  s.setExportSet l ((s.exportSet l).map fun e => if e.line = l then f e else e)

/-- The line's entry is removed, and the line leaves the wanted list (R96, R99). -/
def State.removeExport (s : State) (l : LineNo) : State :=
  let s := s.setExportSet l ((s.exportSet l).filter fun e => e.line != l)
  { s with home.wanted := s.home.wanted.filter (· != l) }

/-- "Created or set" with a class (R101): a created entry is the newest of its set, with recall state none and flag not set. -/
def State.createOrSet (s : State) (l : LineNo) (c : ExportClass) : State :=
  match s.findExport l with
  | some _ => s.changeExport l fun e => { e with cls := c }
  | none => s.setExportSet l (s.exportSet l ++ [{ line := l, cls := c, state := .none, awaiting := none }])

/-- The line's recall state becomes in-flight, and a wanted line leaves the wanted list (R113, R117, R136). -/
def State.recallStarts (s : State) (l : LineNo) : State :=
  let s := s.changeExport l fun e => { e with state := .inFlight }
  { s with home.wanted := s.home.wanted.filter (· != l) }

/-- The line's awaiting-data flag is cleared and its timer stopped (R108). -/
def State.clearAwaiting (s : State) (l : LineNo) : State := s.changeExport l fun e => { e with awaiting := none }

/-- Is the line's awaiting-data flag set? -/
def State.awaitingSet (s : State) (l : LineNo) : Bool :=
  match s.findExport l with
  | some e => e.awaiting.isSome
  | none => false

/-- The line whose victim recall waits for a PRT entry: the oldest wanted line whose entry has its flag not set (R117). -/
def State.nextVictim (s : State) : Option LineNo :=
  s.home.wanted.find? fun l => match s.findExport l with
    | some e => e.awaiting.isNone
    | none => false

/-! ### The LRQ (R159) -/

/-- The head leaves the LRQ; the next request becomes the head, not yet decoded. -/
def State.popHead (s : State) : State :=
  { s with lpu.lrq := s.lpu.lrq.tail, lpu.head := none, lpu.pinRecall := none }

/-- A new command begins: what the last one gave out is no longer shown (log 1). -/
def State.begin (s : State) : State := { s with out := { responses := [], sent := none } }

end Sys2Proof.Machine
end

