-- ==== Sys2Proof/Machine/Roll.lean ====
section
/-!
DEFINITION. Enrolment (chapter 9): Join's checks, the roll state, Announce and Ready, entry into Operational, Isolated.
-/

namespace Sys2Proof.Machine

/-- The sixteen station numbers, in rising order. -/
def allStations : List StationNo := (List.range 16).map (BitVec.ofNat 4)

/-- The numbers in the announced table: the valid set (R146). -/
def Roll.validSet (r : Roll) : StationSet :=
  allStations.foldl (fun v n => if (look r.announced n).isSome then v.add n else v) 0

/-- The target count: the greatest of the station's own expected count and those announced (R149). -/
def State.targetCount (s : State) : Nat :=
  s.ctl.roll.announced.toList.foldl (fun m x => max m (x.getD 0)) s.ctl.start.expected.toNat

/-- A sender not yet in the late-peer set joins it, and LATE_PEER is recorded (R57, R150). -/
def State.notePeer (s : State) (n : StationNo) : State :=
  if s.bus.latePeers.has n then s
  else ({ s with bus.latePeers := s.bus.latePeers.add n } : State).addFault { kind := .latePeer, peer := some n }

/-- The station becomes Isolated (R154). -/
def State.isolate (s : State) (r : FaultRecord) : State :=
  let s := ((s.addFault r).enterMode .isolated).dequeue .announce
  let s := s.dequeue .ready
  { s with ctl.roll.timer := none }

/-- LATE_JOIN (R143, R150, R153). -/
def lateJoin (peer : Option StationNo) : FaultRecord := { kind := .lateJoin, peer := peer }

/-- NUMBER_CONTESTED (R143, R147). -/
def numberContested (n : StationNo) : FaultRecord := { kind := .numberContested, peer := some n }

/-! ### Join (R143) -/

/-- Two valid slots name the same segment. -/
def slotsCollide : List ClaimSlot → Bool
  | [] => false
  | x :: xs => (x.valid && xs.any fun y => y.valid && y.segment == x.segment) || slotsCollide xs

/-- The Start Record checks of R143. -/
def StartRecord.bad (r : StartRecord) : Bool :=
  r.expected.toNat < 1 || 16 < r.expected.toNat ||
  r.dataTimeout.toNat < 8 || 2040 < r.dataTimeout.toNat || r.dataTimeout.toNat % 8 != 0 ||
  r.pinLimit == 0 || r.enrolLimit == 0 || r.base.extractLsb' 0 34 != 0 ||
  slotsCollide r.slots.toList || r.slots.toList.any fun x => x.valid && 2 ≤ x.kind.toNat

/-- The state a taken Join leads to, by the roll state recorded while Dormant (R143). -/
def State.joinRoll (s : State) : State :=
  if s.ctl.roll.closed || s.ctl.roll.gap then s.isolate (lateJoin none)
  else if s.ctl.roll.validSet.has s.number || s.ctl.roll.contested.has s.number then s.isolate (numberContested s.number)
  else
    let s := (s.enterMode .enrolling).enqueue .announce
    { s with ctl.roll.timer := some s.ctl.start.enrolLimit, ctl.roll.limitPassed := false }

/-! ### The messages of the roll (R144, R149) -/

/-- The kind of a slot's bits; R143 lets no valid slot with bits 2 or 3 past Join. -/
def ClaimSlot.segKind (c : ClaimSlot) : SegKind := .ofBit (c.kind.getLsbD 0)

/-- The claims of the valid slots, in rising order of slot number (R144). -/
def StartRecord.claims (r : StartRecord) : List Claim :=
  (r.slots.toList.filter (·.valid)).map fun c => { segment := c.segment, access := .ofCode c.access, kind := c.segKind }

/-- The station's Announce (R144); the expected count is carried minus 1 (11 section 11.1). -/
def State.announceMsg (s : State) : Request := .announce ((s.ctl.start.expected - 1).setWidth 4) s.ctl.start.claims

/-- The station's Ready: the valid set as it stands (R149). -/
def State.readyMsg (s : State) : Request := .ready s.ctl.roll.validSet

/-- The Ready is queued once its trigger holds (R149). -/
def State.queueReady (s : State) : State :=
  if s.ctl.mode = .enrolling ∧ s.ctl.roll.ownAnnounce = true ∧ s.ctl.roll.readyQueued = false ∧
      (s.targetCount ≤ s.ctl.roll.validSet.count ∨ s.ctl.roll.limitPassed = true ∨ s.ctl.roll.closed = true) then
    let s := s.enqueue .ready
    { s with ctl.roll.readyQueued := true }
  else s

/-! ### Announces (R147, R148) -/

/-- One claim by number N with its home index (R148). -/
def State.applyClaim (s : State) (n : StationNo) (index : Nat) (c : Claim) : State :=
  let set (x : ClaimState) (s : State) : State :=
    { s with ctl.roll.claims := put s.ctl.roll.claims c.segment x }
  match look s.ctl.roll.claims c.segment with
  | .unclaimed => set (.claimed n c.access c.kind (BitVec.ofNat 4 index)) s
  | .contested => s
  | .claimed _ _ _ _ =>
    let s := set .contested s
    if s.ctl.mode = .enrolling then s.addFault { kind := .segmentContested, segment := some c.segment, peer := some n } else s

/-- The claims of an Announce in list order (R148). -/
def State.applyClaims (s : State) (n : StationNo) : Nat → List Claim → State
  | _, [] => s
  | i, c :: cs => (s.applyClaim n i c).applyClaims n (i + 1) cs

/-- Each segment that the claim map shows claimed by N becomes unclaimed (R147). -/
def unclaim (m : Table ClaimState 8) (n : StationNo) : Table ClaimState 8 :=
  m.map fun x => match x with
    | .claimed k a d i => if k = n then .unclaimed else .claimed k a d i
    | .unclaimed => .unclaimed
    | .contested => .contested

/-- An Announce of a number already announced: the number is contested (R147, third row). -/
def State.contestNumber (s : State) (n : StationNo) : State :=
  { s with ctl.roll.announced := put s.ctl.roll.announced n none,
           ctl.roll.contested := s.ctl.roll.contested.add n,
           ctl.roll.claims := unclaim s.ctl.roll.claims n }

/-- An Announce that enters the announced table (R147, last row). -/
def State.recordAnnounce (s : State) (n : StationNo) (expectedField : BitVec 4) (claims : List Claim) (own : Bool) : State :=
  let s := { s with ctl.roll.announced := put s.ctl.roll.announced n (some (expectedField.toNat + 1)) }
  let s := s.applyClaims n 0 claims
  if own then { s with ctl.roll.ownAnnounce := true } else s

/-- The close with Clear of a sound Announce from number N (R146, R147, R149, R150). -/
def State.takeAnnounce (s : State) (n : StationNo) (expectedField : BitVec 4) (claims : List Claim) (own : Bool) : State :=
  if s.ctl.mode = .dormant ∨ s.ctl.mode = .enrolling then
    if s.ctl.roll.closed then (if s.ctl.mode = .enrolling then s.notePeer n else s)
    else if s.ctl.roll.contested.has n then s
    else if s.ctl.mode = .enrolling ∧ n = s.number ∧ own = false then s.isolate (numberContested n)
    else if (look s.ctl.roll.announced n).isSome then (s.contestNumber n).queueReady
    else (s.recordAnnounce n expectedField claims own).queueReady
  else s

/-! ### Ready and entry into Operational (R150 to R152) -/

/-- The Segment Table entry of a claim map entry (R152). -/
def ClaimState.segEntry (enrolled : StationSet) : ClaimState → SegEntry
  | .contested => .contested
  | .unclaimed => .unmapped
  | .claimed n a k i => if enrolled.has n then .mapped n a k i else .unmapped

/-- The station enters Operational: the enrolled set is fixed, the Segment Table built, the timer stopped (R151, R152). -/
def State.enterOperational (s : State) : State :=
  let v := s.ctl.roll.validSet
  let s := s.enterMode .operational
  { s with ctl.enrolled := v, segments := s.ctl.roll.claims.map (ClaimState.segEntry v), ctl.roll.timer := none }

/-- R151: the Ready set equals the valid set of a closed roll. -/
def State.checkOperational (s : State) : State :=
  if s.ctl.roll.closed = true ∧ s.ctl.roll.readySet = s.ctl.roll.validSet then s.enterOperational else s

/-- Step 1 of R150: the roll closes and the enrolment timer restarts. -/
def State.closeRoll (s : State) : State :=
  if s.ctl.roll.closed then s
  else { s with ctl.roll.closed := true, ctl.roll.timer := some s.ctl.start.enrolLimit }

/-- Step 3 of R150. -/
def State.countReady (s : State) (n : StationNo) : State :=
  if s.ctl.roll.validSet.has n then { s with ctl.roll.readySet := s.ctl.roll.readySet.add n } else s

/-- A Ready at an Enrolling station, in the steps of R150. -/
def State.enrolReady (s : State) (n : StationNo) (set : StationSet) : State :=
  let wasClosed := s.ctl.roll.closed
  let s := s.closeRoll
  if wasClosed = false ∧ s.ctl.roll.ownAnnounce = false then s.isolate (lateJoin (some n))
  else if set ≠ s.ctl.roll.validSet then s.isolate { kind := .enrolMismatch, peer := some n }
  else (s.countReady n).queueReady.checkOperational

/-- The close with Clear of a sound Ready from number N (R146, R150). -/
def State.takeReady (s : State) (n : StationNo) (set : StationSet) : State :=
  match s.ctl.mode with
  | .dormant => { s with ctl.roll.closed := true }
  | .enrolling => s.enrolReady n set
  | .operational => s
  | .quiescing => s
  | .quiesced => s
  | .isolated => s
  | .parked => s

/-- The expiry of the enrolment timer (R149, R151); a timer that is not running does not expire (log 13). -/
def State.expireEnrolment (s : State) : State :=
  if s.ctl.mode = .enrolling ∧ s.ctl.roll.timer.isSome = true then
    if s.ctl.roll.closed then s.isolate { kind := .readyTimeout }
    else ({ s with ctl.roll.limitPassed := true, ctl.roll.timer := none } : State).queueReady
  else s

end Sys2Proof.Machine
end

