-- ==== Sys2Proof/Machine/Head.lean ====
section
/-!
DEFINITION. The LRQ head: what the block behind its path makes of it (R19, R22, R62, R64, R111 to R114, R122, R127, R134, R136,
R138, R139) and what that does.
-/

namespace Sys2Proof.Machine

/-- What a head comes to when it is judged. -/
inductive HeadAction where
  /-- It stays the head. -/
  | waits
  /-- Answered with a status and no data. -/
  | refuse (st : Status)
  /-- R20. -/
  | readHit (w : WayNo)
  /-- R21. -/
  | writeHit (w : WayNo)
  /-- R134, step 7. -/
  | pinnedHit (w : WayNo)
  /-- R138. -/
  | pinRelease (w : WayNo)
  /-- R64. -/
  | attach (t : ReqTag)
  /-- R22, Promote needed. -/
  | makePromote (w : WayNo)
  /-- R22, Fetch or Claim needed, with the way of R23. -/
  | makeMiss (kind : PrtKind) (w : WayNo)
  /-- R62, remote direct path. -/
  | makeDirect (kind : PrtKind)
  /-- R112. -/
  | homeWork
  /-- R136, step 4. -/
  | pinnedHomeRead
  /-- R139. -/
  | pinReleaseHome
  /-- R113. -/
  | recall
  /-- R136, step 5. -/
  | pinRecall
  /-- R114. -/
  | attachRecall (t : ReqTag)
  /-- R127: the line has an RQ entry. -/
  | flushJoin
  /-- R127: held as Altered. -/
  | flushAltered (w : WayNo) (d : LineData)
  /-- R127: held as Copy or Sole. -/
  | flushDrop (w : WayNo)
  /-- R127: Vacant, with no RQ entry. -/
  | flushNothing
  deriving DecidableEq, Repr

/-- Does the action take a free PRT entry? (R63) -/
def HeadAction.needsEntry : HeadAction → Bool
  | .makePromote _ => true
  | .makeMiss _ _ => true
  | .makeDirect _ => true
  | .recall => true
  | .pinRecall => true
  | .waits | .refuse _ | .readHit _ | .writeHit _ | .pinnedHit _ | .pinRelease _ | .attach _ | .homeWork | .pinnedHomeRead
  | .pinReleaseHome | .attachRecall _ | .flushJoin | .flushAltered _ _ | .flushDrop _ | .flushNothing => false

/-- Does the head leave the LRQ? A head whose pin recall is made stays (R136). -/
def HeadAction.leaves : HeadAction → Bool
  | .waits => false
  | .pinRecall => false
  | .refuse _ | .readHit _ | .writeHit _ | .pinnedHit _ | .pinRelease _ | .attach _ | .makePromote _ | .makeMiss _ _
  | .makeDirect _ | .homeWork | .pinnedHomeRead | .pinReleaseHome | .recall | .attachRecall _ | .flushJoin
  | .flushAltered _ _ | .flushDrop _ | .flushNothing => true

/-! ### Judging -/

/-- The table of R64: does an operation suit an entry's kind? -/
def PrtKind.suits : PrtKind → LocalOp → Bool
  | .fetch, op => op == .read
  | .claim, op => op != .flushLine
  | .promote, op => op != .flushLine
  | .recall, _ => false
  | .directRead, _ => false
  | .directWrite, _ => false

/-- R64: does a local request attach to its line's entry? -/
def State.attaches (s : State) (e : PrtEntry) (op : LocalOp) : Bool :=
  e.phase != .finishing && e.waiting.length < Config.waitingPlaces && e.kind.suits op &&
    (op == .read || !s.underAnswer e.line) && (op != .pinnedRead || e.follower.isNone)

/-- R22 to R24: a miss takes the victim's way, and waits where there is none or an Altered victim finds the RQ full. -/
def State.judgeMiss (s : State) (l : LineNo) (kind : PrtKind) : HeadAction :=
  match s.victim l with
  | none => .waits
  | some w =>
    match s.wayAt l w with
    | .holding _ .altered _ => if s.rqFree then .makeMiss kind w else .waits
    | .holding _ .copy _ => .makeMiss kind w
    | .holding _ .sole _ => .makeMiss kind w
    | .reserved _ => .makeMiss kind w
    | .empty => .makeMiss kind w

/-- Steps 1 to 7 of R19; `write` for a Write and for a Pinned Read, `hit` what a hit with the right to write comes to. -/
def State.judgeCached (s : State) (d : Decoded) (write : Bool) (hit : WayNo → HeadAction) : HeadAction :=
  match s.findEntry d.line with
  | some t =>
    (match s.entry t with
     | some e => if s.attaches e d.item.op then .attach t else .waits
     | none => .waits)
  | none =>
    if s.inTransit d.line then .waits
    else if write && s.underAnswer d.line then .waits
    else match s.held d.line with
      | some (w, .copy, _) => if write then .makePromote w else .readHit w
      | some (w, .sole, _) => if write then hit w else .readHit w
      | some (w, .altered, _) => if write then hit w else .readHit w
      | none => s.judgeMiss d.line (if write then .claim else .fetch)

/-- R134: a Pinned Read on the remote cached path. -/
def State.judgePinnedRead (s : State) (d : Decoded) : HeadAction :=
  if (s.findPin d.line).isSome then .refuse .pinHeld
  else if Config.pinPlaces ≤ s.cache.pins.length then .refuse .pinLimit
  else if (s.findRq d.line).isSome then .waits
  else s.judgeCached d true .pinnedHit

/-- R138: a Pinned Write on the remote cached path. It first meets the Pin Table check (R19), and then waits while its line has an RQ
entry (R122), in the order of the first three steps of R134 (log 14). -/
def State.judgePinnedWrite (s : State) (d : Decoded) : HeadAction :=
  match s.findPin d.line with
  | none => .refuse .pinLost
  | some p =>
    if (s.findRq d.line).isSome then .waits
    else if p.held then
      if s.underAnswer d.line then .waits
      else match s.held d.line with
        | some (w, _, _) => .pinRelease w
        | none => .waits
    else match s.findEntry d.line with
      | some t =>
        (match s.entry t with
         | some e => if s.attaches e .pinnedWrite then .attach t else .waits
         | none => .waits)
      | none => .waits

/-- R127: a Flush Line on the remote cached path. -/
def State.judgeFlush (s : State) (d : Decoded) : HeadAction :=
  if (s.findEntry d.line).isSome then .waits
  else if s.underAnswer d.line then .waits
  else if s.inTransit d.line then .waits
  else if s.pinned d.line then .waits
  else if (s.findRq d.line).isSome then .flushJoin
  else match s.held d.line with
    | some (w, .altered, x) => if s.rqFree then .flushAltered w x else .waits
    | some (w, .copy, _) => .flushDrop w
    | some (w, .sole, _) => .flushDrop w
    | none => .flushNothing

/-- A request on the remote cached path. -/
def State.judgeRemote (s : State) (d : Decoded) : HeadAction :=
  match d.item.op with
  | .read => if (s.findRq d.line).isSome then .waits else s.judgeCached d false .writeHit
  | .write => if (s.findRq d.line).isSome then .waits else s.judgeCached d true .writeHit
  | .pinnedRead => s.judgePinnedRead d
  | .pinnedWrite => s.judgePinnedWrite d
  | .flushLine => s.judgeFlush d

/-- R62: a request on the remote direct path is started when the line has no entry; R28: a Write waits while its line is under
answer, and a Read does not (log 15). -/
def State.judgeDirect (s : State) (d : Decoded) : HeadAction :=
  if (s.findEntry d.line).isSome then .waits
  else if !d.item.op.isRead && s.underAnswer d.line then .waits
  else .makeDirect (if d.item.op.isRead then .directRead else .directWrite)

/-- R113: a recall needs a free HWQ place beside its PRT entry. -/
def State.judgeRecall (s : State) : HeadAction := if s.hwqFree then .recall else .waits

/-- R114: does a Read or Write attach to the Recall entry of its line? -/
def State.judgeAttachRecall (s : State) (l : LineNo) : HeadAction :=
  match s.findEntry l with
  | some t =>
    (match s.entry t with
     | some e =>
       if e.phase ≠ .finishing ∧ e.waiting.length < Config.waitingPlaces ∧ s.hwqFree = true then .attachRecall t else .waits
     | none => .waits)
  | none => .waits

/-- R112. -/
def State.judgeHomeWork (s : State) : HeadAction := if s.hwqFree then .homeWork else .waits

/-- R111: a Read or Write on the home path. -/
def State.judgeHomePlain (s : State) (d : Decoded) : HeadAction :=
  if s.underAnswer d.line then .waits
  else match s.findExport d.line with
    | none => s.judgeHomeWork
    | some x =>
      if x.awaiting.isSome then .waits
      else match x.state with
        | .none => if d.item.op.isRead && x.cls == .sharedOut then s.judgeHomeWork else s.judgeRecall
        | .wanted => s.judgeRecall
        | .inFlight => s.judgeAttachRecall d.line

/-- R136: a Pinned Read on the home path. -/
def State.judgeHomePinnedRead (s : State) (d : Decoded) : HeadAction :=
  if (s.findPin d.line).isSome then .refuse .pinHeld
  else if Config.pinPlaces ≤ s.cache.pins.length then .refuse .pinLimit
  else if s.underAnswer d.line then .waits
  else match s.findExport d.line with
    | none => if s.hwqFree then .pinnedHomeRead else .waits
    | some x => if x.awaiting.isSome || x.state == .inFlight then .waits else .pinRecall

/-- R139: a Pinned Write on the home path. -/
def State.judgeHomePinnedWrite (s : State) (d : Decoded) : HeadAction :=
  match s.findPin d.line with
  | none => .refuse .pinLost
  | some p =>
    if s.underAnswer d.line then .waits
    else if p.held = false then .waits
    else if s.hwqFree then .pinReleaseHome else .waits

/-- A request on the home path; a Flush Line does not reach it (R13). -/
def State.judgeHome (s : State) (d : Decoded) : HeadAction :=
  match d.item.op with
  | .read => s.judgeHomePlain d
  | .write => s.judgeHomePlain d
  | .pinnedRead => s.judgeHomePinnedRead d
  | .pinnedWrite => s.judgeHomePinnedWrite d
  | .flushLine => .waits

/-- The judgement of a head that has passed check 6, whatever PRT entry is free. -/
def State.judgeHead (s : State) (d : Decoded) : HeadAction :=
  match d.path with
  | .cached => s.judgeRemote d
  | .direct => s.judgeDirect d
  | .home => s.judgeHome d

/-! ### Acting -/

/-- A Pinned Read that is not yet answered makes a pending entry of the Pin Table (R133). -/
def State.pendPin (s : State) (i : Item) (l : LineNo) (p : PinPath) : State :=
  if i.op = .pinnedRead then s.addPin { line := l, path := p, held := false, timer := none, tag := i.tag } else s

/-- An item joins the tail of an entry's waiting list (R61, R64). -/
def State.attachItem (s : State) (t : ReqTag) (i : Item) : State :=
  match s.entry t with
  | some e => s.setEntry t { e with waiting := e.waiting ++ [i] }
  | none => s

/-- A new entry takes the lowest-numbered free tag (R62). -/
def State.makeAtFree (s : State) (e : PrtEntry) : State :=
  match s.freeTag with
  | some t => s.makeEntry t e
  | none => s

/-- The data of a way; a way that holds none gives zeros, where no rule reaches. -/
def Way.data : Way → LineData
  | .holding _ _ d => d
  | .reserved _ => fill 6 0
  | .empty => fill 6 0

/-- The victim of R24: an Altered line joins the RQ, the way becomes reserved for the new line. -/
def State.evict (s : State) (l : LineNo) (w : WayNo) : State :=
  let s := match s.wayAt l w with
    | .holding k .altered d => s.addRq k d []
    | .holding _ .copy _ => s
    | .holding _ .sole _ => s
    | .reserved _ => s
    | .empty => s
  (s.setWay l w (.reserved l)).touch l w

/-- Bytes merged into a way: the line becomes, or stays, Altered, and the way the most recently used (R21, R138). -/
def State.mergeWay (s : State) (l : LineNo) (w : WayNo) (i : Item) : State :=
  (s.setWay l w (.holding l .altered ((s.wayAt l w).data.merge i.offset.toNat i.data))).touch l w

/-- A read kind answered OK with its bytes from a way, which becomes the most recently used (R20). -/
def State.serveRead (s : State) (l : LineNo) (w : WayNo) (i : Item) : State :=
  (s.answer i.tag .ok (.bytes ((s.wayAt l w).data.bytes i.offset.toNat i.len))).touch l w

/-- What each action does, the leaving of the LRQ apart. -/
def State.actHead (s : State) (d : Decoded) : HeadAction → State
  | .waits => s
  | .refuse st => s.answer d.item.tag st .none
  | .readHit w => s.serveRead d.line w d.item
  | .writeHit w => (s.mergeWay d.line w d.item).answer d.item.tag .ok .none
  | .pinnedHit w => ((s.serveRead d.line w d.item).pendPin d.item d.line .remote).holdPin d.line
  | .pinRelease w => ((s.mergeWay d.line w d.item).removePin d.line).answer d.item.tag .ok .none
  | .attach t => (s.attachItem t d.item).pendPin d.item d.line .remote
  | .makePromote w =>
    ((s.makeAtFree (.fresh .promote d.line (some w) [d.item] .request)).touch d.line w).pendPin d.item d.line .remote
  | .makeMiss kind w =>
    ((s.evict d.line w).makeAtFree (.fresh kind d.line (some w) [d.item] .request)).pendPin d.item d.line .remote
  | .makeDirect kind => s.makeAtFree (.fresh kind d.line none [d.item] .request)
  | .homeWork => s.addItemWork d.line d.item
  | .pinnedHomeRead => (s.addItemWork d.line d.item).pendPin d.item d.line .home
  | .pinReleaseHome => (s.addItemWork d.line d.item).removePin d.line
  | .recall => (s.makeAtFree (.fresh .recall d.line none [d.item] .request)).recallStarts d.line
  | .pinRecall =>
    let s' := (s.makeAtFree (.fresh .recall d.line none [] .pin)).recallStarts d.line
    { s' with lpu.pinRecall := s.freeTag }
  | .attachRecall t => s.attachItem t d.item
  | .flushJoin =>
    { s with ret.rq := s.ret.rq.map fun e => if e.line = d.line then { e with flushes := e.flushes ++ [d.item.tag] } else e }
  | .flushAltered w x => (s.setWay d.line w .empty).addRq d.line x [d.item.tag]
  | .flushDrop w => (s.setWay d.line w .empty).answer d.item.tag .ok .none
  | .flushNothing => s.answer d.item.tag .ok .none

/-- A head that has passed check 6 is judged, and started if it can be; the flag says whether it left the LRQ. -/
def State.startHead (s : State) (d : Decoded) : State × Bool :=
  let a := s.judgeHead d
  if a.needsEntry && s.freeTag.isNone then (s, false)
  else if a.leaves then ((s.actHead d a).popHead, true)
  else (s.actHead d a, false)

/-- The UNMAPPED_ACCESS record of R9. -/
def LocalReq.unmappedRecord (r : LocalReq) : FaultRecord :=
  { kind := .unmappedAccess, line := some (lineOfAddr r.addr), segment := some (segmentOf (lineOfAddr r.addr)), tag := some r.tag }

/-- A request refused at decode: its response, and for UNMAPPED its record (R7, R9). -/
def State.refuseDecode (s : State) (r : LocalReq) (st : Status) (p : Payload) : State :=
  (if st = .unmapped then s.addFault r.unmappedRecord else s).answer r.tag st p

/-- The LRQ head is examined: decoded when it has just become the head (R7), judged when it has passed check 6. -/
def State.headOnce (s : State) : State × Bool :=
  match s.lpu.lrq with
  | [] => (s, false)
  | r :: _ =>
    match s.lpu.head with
    | some d => s.startHead d
    | none =>
      match s.decode r with
      | .refuse st p => ((s.refuseDecode r st p).popHead, true)
      | .flushOk => ((s.answer r.tag .ok .none).popHead, true)
      | .pass d => ({ s with lpu.head := some d } : State).startHead d

/-- Does the waiting head want a PRT entry, all its other needs met? (R63) -/
def State.headNeedsEntry (s : State) : Bool :=
  match s.lpu.head with
  | some d => (s.judgeHead d).needsEntry
  | none => false

end Sys2Proof.Machine
end

