-- ==== Sys2Proof/Machine/Settle.lean ====
section
/-!
DEFINITION. What the rules bring about "in the same event" once an event has had its own effect (log 2): conversions take freed
RQ entries (R55, R121), freed SQ places go to their askers (R51), freed PRT entries to their parties (R63), the LRQ head is judged
again (R25, R111), the quiesce walk runs (R129, R130), and a Quiescing station becomes Quiesced (R131). The rows
SQ_PLACE_GIVEN, CONVERSION_TO_RETURN, VICTIM_RECALL, HEAD_JUDGED_AGAIN, QUIESCE_WALK and QUIESCED_ENTRY are the parts.
-/

namespace Sys2Proof.Machine

/-! ### Messages of PRT entries (R86, R90) -/

/-- The grant of a hand-off by the follower's kind (R86). -/
def FollowerKind.grant : FollowerKind → Grant
  | .fetch => .copy
  | .claim => .sole
  | .recall => .none

/-- A hand-off is placed in the SQ (R86, R87). -/
def State.handOff (s : State) (t : ReqTag) (e : PrtEntry) (f : Follower) (w : WayNo) : State :=
  let d := (s.wayAt e.line w).data
  let m : DataMsg :=
    { dest := f.station, tag := f.tag, gen := f.gen, line := e.line, grant := f.kind.grant, homeTake := f.kind == .fetch,
      status := .good, data := some d }
  let s := s.addSq m (!(e.filledByHome && !e.wrote))
  let s := s.setWay e.line w (if f.kind = .fetch then .holding e.line .copy d else .empty)
  s.freeEntry t

/-- The Abandoned message of R90. -/
def abandonedMsg (l : LineNo) (f : Follower) : DataMsg :=
  { dest := f.station, tag := f.tag, gen := f.gen, line := l, grant := .none, homeTake := false, status := .abandoned, data := none }

/-- An Abandoned message is placed in the SQ: an entry that ended its request is freed, one that took an Abandoned message
rejoins the send list (R90, R91). -/
def State.placeAbandoned (s : State) (t : ReqTag) (e : PrtEntry) (f : Follower) : State :=
  let s := s.addSq (abandonedMsg e.line f) false
  if e.phase = .finishing then s.freeEntry t
  else (s.setEntry t { e with follower := none, owes := .nothing }).enqueue (.prt t)

/-- A PRT entry is given an SQ place for the message it owes. -/
def State.placePrt (s : State) (t : ReqTag) : State :=
  match s.entry t with
  | none => s
  | some e =>
    match e.owes, e.follower, e.way with
    | .handOff, some f, some w => s.handOff t e f w
    | .handOff, _, _ => s
    | .abandoned, some f, _ => s.placeAbandoned t e f
    | .abandoned, none, _ => s
    | .nothing, _, _ => s

/-- The data message of a supply-read or direct-read (R104), or of one that failed (R106). -/
def HwqWork.dataMsg (w : HwqWork) (result : Option LineData) : Option DataMsg :=
  let msg (dest : StationNo) (t : ReqTag) (g : Gen) (l : LineNo) (grant : Grant) : DataMsg :=
    match result with
    | some d => { dest := dest, tag := t, gen := g, line := l, grant := grant, homeTake := false, status := .good, data := some d }
    | none => { dest := dest, tag := t, gen := g, line := l, grant := .none, homeTake := false, status := .memoryError, data := none }
  match w with
  | .supplyRead dest t g l grant => some (msg dest t g l grant)
  | .directRead dest t g l => some (msg dest t g l .none)
  | .absorbWrite _ _ | .returnWrite _ _ _ | .recallWrite _ _ | .directWrite _ _ _ _ | .localRead _ _ _ _
  | .localWrite _ _ _ _ _ => none

/-- The HWQ head leaves, and the memory port is idle and begins the next operation (R104, R105). -/
def State.popHwq (s : State) : State :=
  ({ s with home.hwq := s.home.hwq.tail, home.port := .idle } : State).startPort

/-- The HWQ head is given an SQ place for the result it keeps (R105). -/
def State.placeHome (s : State) : State :=
  match s.home.port, s.home.hwq with
  | .holding r, e :: _ =>
    (match e.work.dataMsg r with
     | some m => (s.addSq m false).popHwq
     | none => s)
  | .holding _, [] => s
  | .idle, _ => s
  | .busy, _ => s

/-- An asker is given its place. -/
def State.giveTo (s : State) : Asker → State
  | .prt t => s.placePrt t
  | .home => s.placeHome

/-- A free SQ place goes to the asker that has waited longest (R51). -/
def State.giveOne (s : State) : State :=
  match s.bus.askers with
  | [] => s
  | a :: rest => if s.sqFree then ({ s with bus.askers := rest } : State).giveTo a else s

/-- Free SQ places go to the askers, oldest first, while there are both. -/
def State.givePlaces : Nat → State → State
  | 0, s => s
  | n + 1, s => if s.bus.askers = [] ∨ s.sqFree = false then s else givePlaces n s.giveOne

/-! ### Conversion (R55) -/

/-- The party that carries the fresh data is the home (R55). -/
def SqEntry.freshAtHome (e : SqEntry) : Bool := e.msg.homeTake

/-- The delivery state of the party that carries the fresh data. -/
def SqEntry.freshState (e : SqEntry) : Delivery := if e.freshAtHome then e.homeState else e.destState

/-- The party that carries the fresh data. -/
def State.freshParty (s : State) (e : SqEntry) : Option StationNo :=
  if e.freshAtHome then s.homeOf e.msg.line else some e.msg.dest

/-- Any way of this station that holds the line as Copy becomes empty (R32). -/
def State.emptyCopy (s : State) (l : LineNo) : State :=
  match s.held l with
  | some (w, .copy, _) => s.setWay l w .empty
  | some (_, .sole, _) => s
  | some (_, .altered, _) => s
  | none => s

/-- The conversion of an SQ entry into a Return (R55). -/
def State.convert (s : State) (e : SqEntry) : State :=
  let s' := (s.addRq e.msg.line (e.msg.data.getD (fill 6 0)) []).emptyCopy e.msg.line
  ({ s' with bus.sq := s'.bus.sq.eraseP (·.converting) } : State).addFault
    { kind := if e.freshState = .stale then .staleData else .resendExhausted, line := some e.msg.line, peer := s.freshParty e }

/-- The waiting conversion that has waited longest takes a free RQ entry (R55). -/
def State.convertOne (s : State) : State :=
  match s.bus.sq.find? (·.converting) with
  | some e => if s.rqFree then s.convert e else s
  | none => s

/-- Waiting conversions take the free RQ entries, oldest first (R121). -/
def State.convertAll : Nat → State → State
  | 0, s => s
  | n + 1, s => if s.bus.sq.any (·.converting) ∧ s.rqFree = true then convertAll n s.convertOne else s

/-! ### PRT entries: the LRQ head and victim recalls (R63, R117) -/

/-- A wanted victim recall is made (R117). -/
def State.makeVictim (s : State) (l : LineNo) : State :=
  (s.makeAtFree (.fresh .recall l none [] .victim)).recallStarts l

/-- The next victim recall is made, where one is wanted and an entry is free. -/
def State.victimOne (s : State) : State :=
  match s.nextVictim, s.freeTag with
  | some l, some _ => s.makeVictim l
  | some _, none => s
  | none, _ => s

/-- The turn passes (R63). -/
def State.setTurn (s : State) (t : Turn) : State := { s with engine.turn := t }

/-- Free PRT entries go to the waiting parties by R63, and the head is judged, and the next one, until a head waits. `headWaits`
and `victimWaits`: which parties waited for an entry when the event began. `judge`: is the waiting head judged again in this
event? -/
def State.allocate : Nat → Bool → Bool → Bool → State → State
  | 0, _, _, _, s => s
  | n + 1, headWaits, victimWaits, judge, s =>
    if s.nextVictim.isSome && s.freeTag.isSome then
      if headWaits && s.headNeedsEntry then
        if victimWaits then
          match s.engine.turn with
          | .lrq => allocate n false victimWaits true (s.headOnce.1.setTurn .victim)
          | .victim => allocate n headWaits victimWaits judge (s.victimOne.setTurn .lrq)
        else allocate n false victimWaits true s.headOnce.1
      else allocate n headWaits victimWaits judge s.victimOne
    else if judge then
      if s.headOnce.2 then allocate n false victimWaits true s.headOnce.1 else s.headOnce.1
    else s

/-- Was a PRT entry freed between two states? Freeing alone advances a generation (R81). -/
def State.prtFreed (s0 s : State) : Bool := s0.engine.prt.toList.map (·.gen) != s.engine.prt.toList.map (·.gen)

/-- Was an awaiting-data flag cleared between two states? (R108) -/
def State.flagCleared (s0 s : State) : Bool :=
  (s0.home.exports.toList.zip s.home.exports.toList).any fun p =>
    p.1.any fun x => x.awaiting.isSome && !p.2.any fun y => y.line == x.line && y.awaiting.isSome

/-- Did a Recall entry change its phase between two states? (R65) -/
def State.recallMoved (s0 s : State) : Bool :=
  allTags.any fun t => match s0.entry t, s.entry t with
    | some e0, some e => e0.kind == .recall && e.kind == .recall && e0.phase != e.phase
    | some _, none => false
    | none, _ => false

/-- Did a pin end between two states? (R133) -/
def State.pinEnded (s0 s : State) : Bool := s0.cache.pins.any fun p => (s.findPin p.line).isNone

/-- Did the PRT entry of a line change its phase between two states? (R65) -/
def State.phaseMoved (s0 s : State) (l : LineNo) : Bool :=
  allTags.any fun t => match s0.entry t, s.entry t with
    | some e0, some e => e0.line == l && e.line == l && e0.phase != e.phase
    | some _, none => false
    | none, _ => false

/-- Was a waiting conversion carried out between two states? (R53, R55) -/
def State.converted (s0 s : State) : Bool := s.bus.sq.countP (·.converting) < s0.bus.sq.countP (·.converting)

/-- Did the event bring about one of the changes at which R25 judges a head of this line again? An RQ entry is removed only at the
close of an answer window, which is such an event by itself. -/
def State.remoteChanged (s0 s : State) (l : LineNo) : Bool :=
  s0.prtFreed s || s0.phaseMoved s l || s0.pinEnded s || s0.converted s

/-- Did the event bring about one of the changes at which R111 judges a home-path head again, or, for a pinned request, one of those of
R136 and R139? -/
def State.homeChanged (s0 s : State) (op : LocalOp) : Bool :=
  s0.prtFreed s || s0.recallMoved s || s0.flagCleared s || ((op == .pinnedRead || op == .pinnedWrite) && s0.pinEnded s)

/-- Which waiting heads an event has judged again by what it is, whatever it brought about. -/
structure Judged where
  /-- On the remote cached and remote direct paths: the close of an answer window, the arrival of a data message for this station, the end
  of an SQ entry's delivery (R25). -/
  remote : Bool
  /-- On the home path: the close of an answer window, a memory completion (R111). -/
  home   : Bool
  deriving DecidableEq, Repr

/-- An event at which a head on any path is judged again. -/
def Judged.all : Judged := { remote := true, home := true }

/-- An event at which a head is judged again only for what the event brought about. -/
def Judged.byChange : Judged := { remote := false, home := false }

/-- Is the waiting head judged again in this event? Only at the events of R25 on the remote paths (R159, log 30), and of R111, R136 and R139
on the home path (log 20). A head that is not decoded yet is. -/
def State.judgedAgain (s0 s : State) (j : Judged) : Bool :=
  match s.lpu.head with
  | some d =>
    (match d.path with
     | .home => j.home || State.homeChanged s0 s d.item.op
     | .cached => j.remote || State.remoteChanged s0 s d.line
     | .direct => j.remote || State.remoteChanged s0 s d.line)
  | none => true

/-- The parties of R63 and the head, after an event that began in `s0`. A party has waited where it wanted an entry, and none was free, when
the event began: a head whose last other need (a replaceable way) is met only in the event that frees the entry is no waiting party of that
freeing, so a victim recall that waits takes the entry and the turn stays. DESIGN CHOICE, unsafe (log 39). -/
def State.allocateAfter (s0 s : State) (j : Judged) : State :=
  s.allocate (2 * s.lpu.lrq.length + s.home.wanted.length + 2) (s0.freeTag.isNone && s0.headNeedsEntry)
    (s0.freeTag.isNone && s0.nextVictim.isSome) (State.judgedAgain s0 s j)

/-! ### The quiesce walk (R129 to R131) -/

/-- R129: the PRT holds no entry other than Recall entries, and the Pin Table is empty. -/
def State.walkMayBegin (s : State) : Bool :=
  s.cache.pins.isEmpty && s.engine.prt.toList.all fun x => match x.entry with
    | some e => e.kind == .recall
    | none => true

/-- The set of a walk position. -/
def walkSet (p : Nat) : RlcIndex := BitVec.ofNat 8 (p / 8)

/-- The way of a walk position. -/
def walkWay (p : Nat) : WayNo := BitVec.ofNat 3 (p % 8)

/-- The way at a walk position. -/
def State.walkAt (s : State) (p : Nat) : Way := look (look s.cache.sets (walkSet p)).ways (walkWay p)

/-- The way at a walk position becomes empty; the order of use is unchanged (R130). -/
def State.walkEmpty (s : State) (p : Nat) : State :=
  let r := look s.cache.sets (walkSet p)
  { s with cache.sets := put s.cache.sets (walkSet p) { r with ways := put r.ways (walkWay p) .empty } }

/-- The walk waits at a position, or is done. -/
def State.setWalk (s : State) (w : Walk) : State := { s with ret.walk := w }

/-- The walk from a position, by the table of R130; the first argument is the number of ways left. -/
def State.walkFrom : Nat → Nat → State → State
  | 0, _, s => s.setWalk .done
  | n + 1, p, s =>
    match s.walkAt p with
    | .empty => walkFrom n (p + 1) s
    | .reserved _ => s.setWalk (.atWay p)
    | .holding l st d =>
      if s.underAnswer l || s.inTransit l then s.setWalk (.atWay p)
      else match st with
        | .copy => walkFrom n (p + 1) (s.walkEmpty p)
        | .sole => walkFrom n (p + 1) (s.walkEmpty p)
        | .altered => if s.rqFree then walkFrom n (p + 1) ((s.walkEmpty p).addRq l d []) else s.setWalk (.atWay p)

/-- The walk begins or runs, in Quiescing alone (R129, R130). -/
def State.runWalk (s : State) : State :=
  if s.ctl.mode = .quiescing then
    match s.ret.walk with
    | .notBegun => if s.walkMayBegin then s.walkFrom 2048 0 else s
    | .atWay p => s.walkFrom (2048 - p) p
    | .done => s
  else s

/-- The condition of R131. -/
def State.mayBeQuiesced (s : State) : Bool :=
  s.ctl.mode == .quiescing && s.ret.walk == .done && s.ret.rq.isEmpty && s.bus.sq.isEmpty && s.sqHeld == 0 &&
    s.cache.pins.isEmpty && s.engine.prt.toList.all fun x => x.entry.isNone

/-- A Quiescing station becomes Quiesced (R131). -/
def State.enterQuiesced (s : State) : State :=
  if s.mayBeQuiesced then (s.enterMode .quiesced).setWalk .notBegun else s

/-! ### All of it -/

/-- What follows in the same event upon `s`. `s0` is the state in which the event began; `j` says which waiting heads the event by itself
has judged again. -/
def State.settle (s s0 : State) (j : Judged) : State :=
  let s := s.convertAll s.bus.sq.length
  let s := s.givePlaces s.bus.askers.length
  let s := s.startPort
  let s := State.allocateAfter s0 s j
  let s := s.runWalk
  s.startPort.enterQuiesced

end Sys2Proof.Machine
end

