-- ==== Sys2Proof/Machine/Registers.lean ====
section
/-!
DEFINITION. The control window (R162 to R171): which register an offset names, what each reads as, what a write does, and the
commands of the Command register.
-/

namespace Sys2Proof.Machine

/-! ### Which register (11 section 11.4, R170) -/

/-- The registers of the control window. -/
inductive Register where
  | stationStatus
  | command
  | faultLogPop
  | eventEnable
  | stationNumber
  | expectedCount
  | dataTimeout
  | pinLimit
  | enrolmentLimit
  | poolWindowBase
  | claimSlot (slot : BitVec 4)
  | segmentView (segment : SegNo)
  deriving DecidableEq, Repr

/-- The register at an offset; none where no register begins there. -/
def registerAt (offset : BitVec 12) : Option Register :=
  if offset = 0x000 then some .stationStatus
  else if offset = 0x008 then some .command
  else if offset = 0x010 then some .faultLogPop
  else if offset = 0x018 then some .eventEnable
  else if offset = 0x040 then some .stationNumber
  else if offset = 0x048 then some .expectedCount
  else if offset = 0x050 then some .dataTimeout
  else if offset = 0x058 then some .pinLimit
  else if offset = 0x060 then some .enrolmentLimit
  else if offset = 0x068 then some .poolWindowBase
  else if offset.extractLsb' 0 3 = 0 ∧ 0x080 ≤ offset.toNat ∧ offset.toNat ≤ 0x0F8 then
    some (.claimSlot (offset.extractLsb' 3 4))
  else if offset.extractLsb' 0 3 = 0 ∧ 0x800 ≤ offset.toNat then some (.segmentView (offset.extractLsb' 3 8))
  else none

/-! ### Contents (R170, R171) -/

/-- The bits of a field at a place in a register. -/
def field {w : Nat} (x : BitVec w) (place : Nat) : BitVec 64 := x.setWidth 64 <<< place

/-- The code of a station state (R170). -/
def Mode.code : Mode → BitVec 3
  | .dormant => 0
  | .enrolling => 1
  | .operational => 2
  | .quiescing => 3
  | .quiesced => 4
  | .isolated => 5
  | .parked => 6

/-- Station Status (R163, R170). -/
def State.stationStatus (s : State) : BitVec 64 :=
  field s.ctl.mode.code 0 ||| field s.number 8 ||| field s.ctl.enrolled 16 |||
    field (BitVec.ofNat 4 s.lpu.log.length) 32 ||| field (BitVec.ofBool s.lpu.overflow) 36

/-- The code of a record kind (R171). -/
def FaultKind.code : FaultKind → BitVec 8
  | .dataTimeout => 1
  | .retryExhausted => 2
  | .strayData => 3
  | .resendExhausted => 4
  | .staleData => 5
  | .absorbLost => 6
  | .memoryError => 7
  | .pinExpired => 8
  | .unmappedAccess => 9
  | .latePeer => 10
  | .segmentContested => 11
  | .numberContested => 12
  | .lateJoin => 13
  | .readyTimeout => 14
  | .enrolMismatch => 15

/-- A Fault Log record as one 8-byte value (R171). -/
def FaultRecord.word (r : FaultRecord) : BitVec 64 :=
  field r.kind.code 56 ||| field (BitVec.ofBool r.tag.isSome) 55 ||| field (BitVec.ofBool r.peer.isSome) 54 |||
    field (BitVec.ofBool r.segment.isSome) 53 ||| field (BitVec.ofBool r.line.isSome) 52 ||| field (r.peer.getD 0) 48 |||
    field (r.segment.getD 0) 40 ||| field (r.tag.getD 0) 32 ||| field (r.line.getD 0) 0

/-- A claim slot register (R170). -/
def ClaimSlot.word (c : ClaimSlot) : BitVec 64 :=
  field c.segment 0 ||| field c.access 8 ||| field c.kind 10 ||| field (BitVec.ofBool c.valid) 15

/-- The claim slot that a written value gives (R170). -/
def ClaimSlot.ofWord (v : BitVec 64) : ClaimSlot :=
  { segment := v.extractLsb' 0 8, access := v.extractLsb' 8 2, kind := v.extractLsb' 10 2, valid := v.getLsbD 15 }

/-- An entry of the Segment Table view (R6, R170). -/
def SegEntry.word : SegEntry → BitVec 64
  | .unmapped => 0
  | .contested => 2
  | .mapped h a k i => field 1#2 0 ||| field h 4 ||| field a.code 8 ||| field (BitVec.ofBool k.bit) 12 ||| field i 16

/-- Event Enable (R163, R170). -/
def State.eventEnable (s : State) : BitVec 64 :=
  field (BitVec.ofBool s.lpu.faultEnable) 0 ||| field (BitVec.ofBool s.lpu.stateEnable) 1

/-! ### Commands and side effects -/

/-- A Station Status read: the contents, and the state-change flag is cleared (R163, R167). -/
def State.readStatus (s : State) (tag : PTag) : State :=
  ({ s with lpu.stateChange := false } : State).reply tag .ok (.word s.stationStatus)

/-- A Fault Log Pop read: the oldest record, removed, or all zeros (R166, R171). -/
def State.popLog (s : State) (tag : PTag) : State :=
  match s.lpu.log with
  | r :: rest => ({ s with lpu.log := rest } : State).reply tag .ok (.word r.word)
  | [] => s.reply tag .ok (.word 0)

/-- Clear Log (R164, R166). -/
def State.clearLog (s : State) (tag : PTag) : State :=
  ({ s with lpu.log := [], lpu.overflow := false } : State).reply tag .ok .none

/-- Join (R143). -/
def State.doJoin (s : State) (tag : PTag) : State :=
  if s.ctl.mode ≠ .dormant then s.reply tag .wrongState .none
  else if s.ctl.start.bad then s.reply tag .badStart .none
  else s.joinRoll.reply tag .ok .none

/-- R12 at the taking of Quiesce: the status the head is refused with, if it is checked again and refused. -/
def State.quiesceRefuses (s : State) : Option (PTag × Status) :=
  match s.lpu.head with
  | some d =>
    if d.item.op = .pinnedRead ∨ d.path = .cached ∨ d.path = .direct then
      (s.stateRefusal d.item.op d.home d.line).map fun st => (d.item.tag, st)
    else none
  | none => none

/-- The LRQ head is checked again against the station state (R12). A pin recall's note is discarded with its Pinned Read. -/
def State.recheckHead (s : State) : State :=
  match s.quiesceRefuses with
  | some (tag, st) => (s.answer tag st .none).popHead
  | none => s

/-- Quiesce (R128, R129): taken in Operational alone; the walk may begin in this event. -/
def State.doQuiesce (s : State) (tag : PTag) : State :=
  if s.ctl.mode = .operational then
    ((s.enterMode .quiescing).reply tag .ok .none).recheckHead.settle s .byChange
  else s.reply tag .wrongState .none

/-- Resume (R132). -/
def State.doResume (s : State) (tag : PTag) : State :=
  if s.ctl.mode = .quiescing ∨ s.ctl.mode = .quiesced then
    ((s.enterMode .operational).setWalk .notBegun).reply tag .ok .none
  else s.reply tag .wrongState .none

/-- Event Enable takes the written values (R163). -/
def State.writeEnables (s : State) (tag : PTag) (v : BitVec 64) : State :=
  ({ s with lpu.faultEnable := v.getLsbD 0, lpu.stateEnable := v.getLsbD 1 } : State).reply tag .ok .none

/-- A write to Command (R164): bits 7 to 0 name the command. -/
def State.writeCommand (s : State) (tag : PTag) (v : BitVec 64) : State :=
  if v.extractLsb' 0 8 = 1 then s.doJoin tag
  else if v.extractLsb' 0 8 = 2 then s.doQuiesce tag
  else if v.extractLsb' 0 8 = 3 then s.doResume tag
  else if v.extractLsb' 0 8 = 4 then s.clearLog tag
  else s.reply tag .access .none

/-- The Start Record with the field of a register written (R142, R170); other registers are no fields of it. -/
def StartRecord.write (r : StartRecord) (x : Register) (v : BitVec 64) : StartRecord :=
  match x with
  | .stationNumber => { r with station := v.extractLsb' 0 4 }
  | .expectedCount => { r with expected := v.extractLsb' 0 5 }
  | .dataTimeout => { r with dataTimeout := v.extractLsb' 0 11 }
  | .pinLimit => { r with pinLimit := v.extractLsb' 0 8 }
  | .enrolmentLimit => { r with enrolLimit := v.extractLsb' 0 8 }
  | .poolWindowBase => { r with base := v.extractLsb' 0 40 }
  | .claimSlot n => { r with slots := put r.slots n (.ofWord v) }
  | .stationStatus | .command | .faultLogPop | .eventEnable | .segmentView _ => r

/-- A write to a Start Record field: taken in Dormant alone (R142). -/
def State.writeStart (s : State) (tag : PTag) (x : Register) (v : BitVec 64) : State :=
  if s.ctl.mode = .dormant then ({ s with ctl.start := s.ctl.start.write x v } : State).reply tag .ok .none
  else s.reply tag .wrongState .none

/-! ### Control requests (R162, R163) -/

/-- A register write that is not refused TAG_IN_USE. -/
def State.controlWrite (s : State) (tag : PTag) (offset : BitVec 12) (v : BitVec 64) : State :=
  match registerAt offset with
  | none => s.reply tag .access .none
  | some .stationStatus => s.reply tag .access .none
  | some .command => s.writeCommand tag v
  | some .faultLogPop => s.reply tag .access .none
  | some .eventEnable => s.writeEnables tag v
  | some .stationNumber => s.writeStart tag .stationNumber v
  | some .expectedCount => s.writeStart tag .expectedCount v
  | some .dataTimeout => s.writeStart tag .dataTimeout v
  | some .pinLimit => s.writeStart tag .pinLimit v
  | some .enrolmentLimit => s.writeStart tag .enrolmentLimit v
  | some .poolWindowBase => s.writeStart tag .poolWindowBase v
  | some (.claimSlot n) => s.writeStart tag (.claimSlot n) v
  | some (.segmentView _) => s.reply tag .access .none

/-- A register read that is not refused TAG_IN_USE. -/
def State.controlRead (s : State) (tag : PTag) (offset : BitVec 12) : State :=
  match registerAt offset with
  | none => s.reply tag .access .none
  | some .stationStatus => s.readStatus tag
  | some .command => s.reply tag .access .none
  | some .faultLogPop => s.popLog tag
  | some .eventEnable => s.reply tag .ok (.word s.eventEnable)
  | some .stationNumber => s.reply tag .ok (.word (field s.ctl.start.station 0))
  | some .expectedCount => s.reply tag .ok (.word (field s.ctl.start.expected 0))
  | some .dataTimeout => s.reply tag .ok (.word (field s.ctl.start.dataTimeout 0))
  | some .pinLimit => s.reply tag .ok (.word (field s.ctl.start.pinLimit 0))
  | some .enrolmentLimit => s.reply tag .ok (.word (field s.ctl.start.enrolLimit 0))
  | some .poolWindowBase => s.reply tag .ok (.word (field s.ctl.start.base 0))
  | some (.claimSlot n) => s.reply tag .ok (.word (look s.ctl.start.slots n).word)
  | some (.segmentView n) => s.reply tag .ok (.word (look s.segments n).word)

/-- A control request is refused TAG_IN_USE, with no effect, while its tag is in use; otherwise it is carried out (R162). -/
def State.control (s : State) (tag : PTag) (effect : State → State) : State :=
  if s.tagInUse tag then s.reply tag .tagInUse .none else effect s

/-- The value of 8 data bytes at the local port: the first is the most significant, DESIGN CHOICE, unsafe (log 12). -/
def wordOfBytes (bs : List Byte) : BitVec 64 := bs.foldl (fun v x => (v <<< 8) ||| x.setWidth 64) 0

/-- A control request as the local port carries it: codes 0 and 1 with a length of 8 name a register (R162, R170). -/
def State.controlRequest (s : State) (tag : PTag) (code : BitVec 3) (offset : BitVec 12) (lenField : BitVec 6)
    (data : List Byte) : State :=
  s.control tag fun s =>
    if lenField ≠ 7 then s.reply tag .access .none
    else if code = 0 then s.controlRead tag offset
    else if code = 1 then s.controlWrite tag offset (wordOfBytes (data.take 8))
    else s.reply tag .access .none

end Sys2Proof.Machine
end

