-- ==== Sys2Proof/Machine/Engine.lean ====
section
/-!
DEFINITION. The Request Engine's own work: serving a waiting list, the ends of an entry, the results of its own window (R66 to
R70), the taking of data (R71 to R73, R91, R92, R116) and the data timer (R80).
-/

namespace Sys2Proof.Machine

/-! ### Serving a waiting list (R68, R71, R135, R138) -/

/-- One request of a waiting list against the line in its way. A Pinned Write that finds no held pin at its turn is PIN_LOST
(log 16). -/
def State.serveItem (l : LineNo) (w : WayNo) (s : State) (i : Item) : State :=
  match i.op with
  | .read => s.serveRead l w i
  | .write => (s.mergeWay l w i).answer i.tag .ok .none
  | .pinnedRead => (s.serveRead l w i).holdPin l
  | .pinnedWrite =>
    (match s.findPin l with
     | some p =>
       if p.held then ((s.mergeWay l w i).removePin l).answer i.tag .ok .none
       else s.answer i.tag .pinLost .none
     | none => s.answer i.tag .pinLost .none)
  | .flushLine => s

/-- The list is served in its order, all in one event (R61). -/
def State.serve (s : State) (l : LineNo) (w : WayNo) (items : List Item) : State :=
  items.foldl (State.serveItem l w) s

/-- Every request of a list is answered with one status and no data (R70, R73, R80). -/
def State.answerAll (s : State) (items : List Item) (st : Status) : State :=
  items.foldl (fun s i => s.answer i.tag st .none) s

/-! ### The ends of an entry -/

/-- The pending pin of a pin-led entry is removed when the entry ends without serving (R135). -/
def State.dropPendingPin (s : State) (e : PrtEntry) : State := if e.pinLed then s.removePin e.line else s

/-- The reserved way of a Fetch or Claim becomes empty; the Copy way of a Promote stays (R26, R81). -/
def State.emptyReserved (s : State) (e : PrtEntry) : State :=
  match e.kind, e.way with
  | .fetch, some w => s.setWay e.line w .empty
  | .claim, some w => s.setWay e.line w .empty
  | .fetch, none => s
  | .claim, none => s
  | .promote, _ => s
  | .recall, _ => s
  | .directRead, _ => s
  | .directWrite, _ => s

/-- A Recall entry that ends without completing: the line's recall state is none again (R118), and a Pinned Read that waits on it
at the head is answered and leaves the LRQ (R136). -/
def State.recallFails (s : State) (t : ReqTag) (e : PrtEntry) (st : Status) : State :=
  if e.kind = .recall then
    let s := s.changeExport e.line fun x => { x with state := .none }
    if s.lpu.pinRecall = some t then
      match s.lpu.head with
      | some d => (s.answer d.item.tag st .none).popHead
      | none => s
    else s
  else s

/-- An entry that has ended its request is freed, or owes its follower an Abandoned message and is Finishing until an SQ place
is given (R65, R90). -/
def State.abandonOrFree (s : State) (t : ReqTag) (e : PrtEntry) : State :=
  match e.follower with
  | some _ =>
    (s.setEntry t
      { e with phase := .finishing, timer := none, expiryHeld := false, expected := none, waiting := [], way := none,
               owes := .abandoned }).ask (.prt t)
  | none => s.freeEntry t

/-- An entry ends without serving: RETRY_EXHAUSTED, DATA_TIMEOUT or DATA_ERROR (R70, R73, R80, R118, R135, R136). -/
def State.endEntry (s : State) (t : ReqTag) (e : PrtEntry) (st : Status) : State :=
  let s := s.answerAll e.waiting st
  let s := s.dropPendingPin e
  let s := s.emptyReserved e
  let s := s.recallFails t e st
  s.abandonOrFree t e

/-- The record of an entry that ends by its timer or its retries: the tag of the first waiting request, absent for a victim or
pin recall (R70, R80, R165; log 18). -/
def State.entryRecord (s : State) (e : PrtEntry) (kind : FaultKind) : FaultRecord :=
  { kind := kind, line := some e.line, segment := some (segmentOf e.line), peer := s.homeOf e.line,
    tag := if e.origin = .request then e.waiting.head?.map (·.tag) else none }

/-- The entry ends with RETRY_EXHAUSTED (R70). -/
def State.exhaust (s : State) (t : ReqTag) (e : PrtEntry) : State :=
  (s.addFault (s.entryRecord e .retryExhausted)).endEntry t e .retryExhausted

/-- The entry ends with DATA_TIMEOUT (R80). -/
def State.timeOut (s : State) (t : ReqTag) (e : PrtEntry) : State :=
  (s.addFault (s.entryRecord e .dataTimeout)).endEntry t e .dataTimeout

/-! ### The entry's own window (R67 to R70) -/

/-- A cancelled window: the retry count rises by one; at 64 the entry ends, below it rejoins the send list (R70). -/
def State.cancelEntry (s : State) (t : ReqTag) (e : PrtEntry) : State :=
  let e := { e with retry := e.retry + 1 }
  if Config.retryLimit ≤ e.retry then s.exhaust t e else (s.setEntry t e).enqueue (.prt t)

/-- The entry waits for data: the expected grant, and its timer started for the data timeout (R67, R79). -/
def State.awaitData (s : State) (t : ReqTag) (e : PrtEntry) (g : Grant) : State :=
  s.setEntry t { e with phase := .awaitingData, expected := some g, timer := some s.ctl.start.dataTimeout }

/-- A Promote completes at its close: its way becomes Sole, its list is served, and it is freed (R68). -/
def State.completePromote (s : State) (t : ReqTag) (e : PrtEntry) (w : WayNo) : State :=
  let s := (s.setWay e.line w (.holding e.line .sole (s.wayAt e.line w).data)).touch e.line w
  (s.serve e.line w e.waiting).freeEntry t

/-- A Promote closed Supply or Follow becomes a Claim that waits for data, its Copy way emptied and reserved for it (R68). -/
def State.promoteToClaim (s : State) (t : ReqTag) (e : PrtEntry) (w : WayNo) : State :=
  (s.setWay e.line w (.reserved e.line)).awaitData t { e with kind := .claim } .sole

/-- A recall completes (R115, R116): the line's entry leaves the Export Table, the held places of the list become its
local-reads and local-writes in list order, and the Recall entry is freed. A pin recall's note goes with it (R136). -/
def State.completeRecall (s : State) (t : ReqTag) (e : PrtEntry) : State :=
  let s := s.removeExport e.line
  let s := e.waiting.foldl (fun s i => s.addItemWork e.line i) s
  let s := if s.lpu.pinRecall = some t then { s with lpu.pinRecall := none } else s
  s.freeEntry t

/-- The result of an entry's own window that was not cancelled (R67, R68, R69). -/
def State.ownResult (s : State) (t : ReqTag) (e : PrtEntry) (c : AnswerCode) : State :=
  match e.kind with
  | .fetch => s.awaitData t e (if c = .clear then .sole else .copy)
  | .claim => s.awaitData t e .sole
  | .promote =>
    (match e.way with
     | some w => if c = .clear ∨ c = .shared then s.completePromote t e w else s.promoteToClaim t e w
     | none => s)
  | .directWrite => (s.answerAll e.waiting .ok).freeEntry t
  | .directRead => s.awaitData t e .none
  | .recall => if c = .clear ∨ c = .shared then s.completeRecall t e else s.awaitData t e .none

/-! ### Data arrival (R71 to R73, R116) -/

/-- The state a way is filled in (R71); none where the entry ends as for MemoryError. -/
def PrtEntry.fillState (e : PrtEntry) (g : Grant) : Option LineState :=
  match e.kind, g with
  | .fetch, .sole => some (if e.expected = some .sole ∧ e.downgrade = false then .sole else .copy)
  | .fetch, .copy => some .copy
  | .fetch, .none => none
  | .claim, .sole => some .sole
  | .claim, .copy => none
  | .claim, .none => none
  | .promote, _ => none
  | .recall, _ => none
  | .directRead, _ => none
  | .directWrite, _ => none

/-- After the waiting list is served: drop-after-use, then the follower's hand-off or the freeing (R72, R86). -/
def State.afterServing (s : State) (t : ReqTag) (e : PrtEntry) (w : WayNo) (fromHome : Bool) : State :=
  let s := if e.dropAfterUse then s.setWay e.line w .empty else s
  match e.follower with
  | some _ =>
    (s.setEntry t
      { e with phase := .finishing, timer := none, waiting := [], owes := .handOff, filledByHome := fromHome,
               wrote := e.waiting.any fun i => i.op == .write || i.op == .pinnedWrite }).ask (.prt t)
  | none => s.freeEntry t

/-- Good data for a Fetch or Claim fills its way, and the list is served against it (R71, R72). -/
def State.fillLine (s : State) (t : ReqTag) (e : PrtEntry) (w : WayNo) (st : LineState) (d : LineData) (fromHome : Bool) :
    State :=
  let s := (s.setWay e.line w (.holding e.line st d)).touch e.line w
  (s.serve e.line w e.waiting).afterServing t e w fromHome

/-- Good data for a Fetch or Claim entry (R71, R73). -/
def State.takeLine (s : State) (t : ReqTag) (e : PrtEntry) (g : Grant) (d : LineData) (sender : StationNo) : State :=
  match e.fillState g, e.way with
  | some st, some w => s.fillLine t e w st d (s.homeOf e.line == some sender)
  | some _, none => s.endEntry t e .dataError
  | none, _ => s.endEntry t e .dataError

/-- Good data for a Direct Read: its one Read is answered with its bytes, and the entry is freed (R73). -/
def State.takeDirect (s : State) (t : ReqTag) (e : PrtEntry) (d : LineData) : State :=
  (e.waiting.foldl (fun s i => s.answer i.tag .ok (.bytes (d.bytes i.offset.toNat i.len))) s).freeEntry t

/-- Good data for a Recall: the recall-write joins the HWQ before the list's requests, and the recall completes (R116). -/
def State.takeRecall (s : State) (t : ReqTag) (e : PrtEntry) (d : LineData) : State :=
  (s.addLineWork (.recallWrite e.line d)).completeRecall t e

/-- An Abandoned message: the entry returns to Queued with its retry count raised by one, or ends at 64; with a follower of its
own it owes that follower an Abandoned message first (R70, R91, R92). -/
def State.takeAbandoned (s : State) (t : ReqTag) (e : PrtEntry) : State :=
  let e := { e with retry := e.retry + 1 }
  if Config.retryLimit ≤ e.retry then s.exhaust t e
  else
    let e := { e with phase := .queued, timer := none, expected := none }
    match e.follower with
    | some _ => (s.setEntry t { e with owes := .abandoned }).ask (.prt t)
    | none => (s.setEntry t e).enqueue (.prt t)

/-- A message taken by an entry in AwaitingData (R71, R73, R91, R92, R116). MemoryError at a Recall entry changes nothing
(log 17). -/
def State.takeMessage (s : State) (t : ReqTag) (e : PrtEntry) (m : DataMsg) (sender : StationNo) : State :=
  match m.status with
  | .abandoned => s.takeAbandoned t e
  | .memoryError => if e.kind = .recall then s else s.endEntry t e .dataError
  | .good =>
    let d := m.data.getD (fill 6 0)
    match e.kind with
    | .fetch => s.takeLine t e m.grant d sender
    | .claim => s.takeLine t e m.grant d sender
    | .promote => s.takeLine t e m.grant d sender
    | .directRead => s.takeDirect t e d
    | .directWrite => s.takeDirect t e d
    | .recall => s.takeRecall t e d

/-- R116: Good data for a Recall entry is refused while the HWQ has no free place. -/
def State.refusesData (s : State) (e : PrtEntry) (m : DataMsg) : Bool :=
  e.kind == .recall && m.status == .good && !s.hwqFree

/-- The STRAY_DATA record of R49. -/
def strayRecord (l : LineNo) (sender : StationNo) : FaultRecord := { kind := .strayData, line := some l, peer := some sender }

/-- Is a matching message a duplicate at an entry that is Finishing? Any message is where the entry holds its data and has its hand-off to
place (R49, R72); where it ended without data, an Abandoned message alone is (R92; log 38), and other data is stray (R89, R94). -/
def PrtEntry.duplicate (e : PrtEntry) (m : DataMsg) : Bool := e.owes == .handOff || m.status == .abandoned

/-- The destination's answer to a sound data message and its effect (R49). -/
def State.destinationTakes (s : State) (sender : StationNo) (m : DataMsg) : AckCode × State :=
  let stray := (AckCode.stale, s.addFault (strayRecord m.line sender))
  if s.ctl.enrolled.has sender = false then stray
  else match s.entry m.tag with
    | none => stray
    | some e =>
      if (look s.engine.prt m.tag).gen = m.gen ∧ e.line = m.line then
        match e.phase with
        | .awaitingData => if s.refusesData e m then (.refused, s) else (.taken, s.takeMessage m.tag e m sender)
        | .finishing => if e.duplicate m then (.taken, s) else stray
        | .queued => stray
      else stray

/-! ### The data timer (R80) -/

/-- The expiry of an entry's data timer; held until the close while the line is under answer. A timer that is not running does not
expire (log 13). -/
def State.expireData (s : State) (t : ReqTag) : State :=
  match s.entry t with
  | none => s
  | some e =>
    if e.phase = .awaitingData ∧ e.timer.isSome = true then
      if s.underAnswer e.line then s.setEntry t { e with timer := none, expiryHeld := true } else s.timeOut t e
    else s

/-- An expiry held for an entry is taken in the close event (R80). -/
def State.takeHeldExpiry (s : State) (t : ReqTag) : State :=
  match s.entry t with
  | some e => if e.expiryHeld then s.timeOut t e else s
  | none => s

/-- Every held expiry is taken. -/
def State.takeHeldExpiries (s : State) : State := allTags.foldl State.takeHeldExpiry s

end Sys2Proof.Machine
end

