-- ==== Sys2Proof/Machine/Snoop.lean ====
section
/-!
DEFINITION. The judgements of R42 at the arrival of a peer's request message, and the changes that the blocks apply at its
close (R31, R32, R46, R54, R75 to R78, R98 to R102, R125, R126, R137).
-/

namespace Sys2Proof.Machine

/-! ### Judgements at arrival -/

/-- The Line Cache's judgement of a line it holds (R31 to R33): the code, the change recorded, and whether it holds an SQ place. -/
def State.cacheJudge (s : State) (k : LineKind) (l : LineNo) : AnswerCode × CacheChange × Bool :=
  match s.held l with
  | none => (.clear, .none, false)
  | some (_, .copy, _) =>
    (match k with
     | .fetch => (.shared, .none, false)
     | .claim | .promote | .recall => (.shared, .toVacant, false))
  | some (_, .sole, _) =>
    if s.pinned l then (.again, .none, false)
    else match k with
      | .fetch => (.shared, .toCopy, false)
      | .promote => (.again, .none, false)
      | .claim | .recall => (.shared, .toVacant, false)
  | some (_, .altered, _) =>
    if s.pinned l then (.again, .none, false)
    else match k with
      | .promote => (.again, .none, false)
      | .fetch => if s.sqFree then (.supply, .toCopy, true) else (.again, .none, false)
      | .claim | .recall => if s.sqFree then (.supply, .toVacant, true) else (.again, .none, false)

/-- The Return Unit's judgement of a line with an RQ entry (R125): the code, and whether it records a takeover and holds a place.
`taken` is the number of places held before it in this window. -/
def State.returnJudge (s : State) (k : LineKind) (l : LineNo) (taken : Nat) : AnswerCode × Bool :=
  match s.findRq l with
  | none => (.clear, false)
  | some _ =>
    match k with
    | .promote => (.again, false)
    | .fetch | .claim | .recall =>
      if s.bus.sq.length + s.sqHeld + taken < Config.sqPlaces then (.supply, true) else (.again, false)

/-- The Pin Table's judgement (R137). -/
def State.pinJudge (s : State) (l : LineNo) : AnswerCode := if s.pinned l then .again else .clear

/-- The Supply Queue's judgement: Again while the line is in transit, for any kind (R54). -/
def State.transitJudge (s : State) (l : LineNo) : AnswerCode := if s.inTransit l then .again else .clear

/-- The Request Engine's judgement of a Fetch, Claim, Promote or Recall (R75). -/
def PrtEntry.judge (e : PrtEntry) (t : ReqTag) (k : LineKind) : AnswerCode × EngineChange :=
  match e.phase with
  | .finishing => (.again, .none)
  | .queued =>
    (match e.kind with
     | .claim => if e.follower.isSome then (.again, .none) else (.clear, .none)
     | .promote =>
       (match k with
        | .fetch => (.shared, .none)
        | .claim | .promote | .recall => (.shared, .convert t))
     | .fetch | .recall | .directRead | .directWrite => (.clear, .none))
  | .awaitingData =>
    (match e.kind with
     | .fetch =>
       (match k with
        | .fetch => (.shared, .downgrade t)
        | .claim | .promote | .recall => (.clear, .drop t))
     | .claim => if e.follower.isSome || e.pinLed then (.again, .none) else (.follow, .follow t)
     | .promote | .recall | .directRead | .directWrite => (.clear, .none))

/-- The Request Engine's judgement of a line (R75). -/
def State.engineJudge (s : State) (k : LineKind) (l : LineNo) : AnswerCode × EngineChange :=
  match s.findEntry l with
  | none => (.clear, .none)
  | some t =>
    match s.entry t with
    | some e => e.judge t k
    | none => (.clear, .none)

/-- The Request Engine's judgement of a Return, Direct Read or Direct Write: Clear but for a Finishing entry (R75). -/
def State.finishingJudge (s : State) (l : LineNo) : AnswerCode :=
  match s.findEntry l with
  | none => .clear
  | some t =>
    match s.entry t with
    | some e => if e.phase = .finishing then .again else .clear
    | none => .clear

/-- A full set with no entry for the line (R98, R99). -/
def State.exportFull (s : State) (l : LineNo) : Bool :=
  (s.findExport l).isNone && Config.exportWays ≤ (s.exportSet l).length

/-- R98: the home cannot act on a Fetch, Claim or Promote now. -/
def State.homeAgain (s : State) (k : LineKind) (l : LineNo) : Bool :=
  (k != .promote && !s.hwqFree) ||
  (match s.findExport l with
   | some x => x.state != .none || x.awaiting.isSome
   | none => false) ||
  s.pinned l || s.exportFull l

/-- The Home Unit's judgement in the home role (R98, R100): the code, whether it judged Clear, and whether it holds an HWQ
place. -/
def State.homeJudge (s : State) (r : Request) : AnswerCode × Bool × Bool :=
  match r with
  | .line .recall _ _ _ => (.again, false, false)
  | .line k _ _ l => if s.homeAgain k l then (.again, false, false) else (.clear, true, k != .promote)
  | .giveBack _ _ => if s.hwqFree then (.clear, true, true) else (.again, false, false)
  | .directRead _ _ _ _ _ => if s.hwqFree then (.clear, true, true) else (.again, false, false)
  | .directWrite _ _ _ _ _ => if s.hwqFree then (.clear, true, true) else (.again, false, false)
  | .announce _ _ => (.clear, false, false)
  | .ready _ => (.clear, false, false)

/-- The Home Unit's judgement, Clear where this station does not home the line (R14). -/
def State.homeRole (s : State) (r : Request) (l : LineNo) : AnswerCode × Bool × Bool :=
  if s.homesLine l then s.homeJudge r else (.clear, false, false)

/-- The six judgements together: the strongest code, and what is recorded (R42). -/
def State.judgeLine (s : State) (r : Request) (k : LineKind) (l : LineNo) : AnswerCode × Recorded :=
  let c := s.cacheJudge k l
  let u := s.returnJudge k l c.2.2.toNat
  let e := s.engineJudge k l
  let h := s.homeRole r l
  (((((c.1.strongest u.1).strongest e.1).strongest h.1).strongest (s.pinJudge l)).strongest (s.transitJudge l),
   { cache := c.2.1, supply := c.2.2, takeover := u.2, engine := e.2, home := h.2.1, homeHold := h.2.2 })

/-- The judgements of a Return, Direct Read or Direct Write: Line Cache, Pin Table and Return Unit judge Clear (R31, R125,
R137). -/
def State.judgeOther (s : State) (r : Request) (l : LineNo) : AnswerCode × Recorded :=
  let h := s.homeRole r l
  (((s.finishingJudge l).strongest h.1).strongest (s.transitJudge l),
   { Recorded.nothing with home := h.2.1, homeHold := h.2.2 })

/-- The station's answer to a sound Operational-phase request from a member (R42). -/
def State.judgeRequest (s : State) (r : Request) : AnswerCode × Recorded :=
  match r with
  | .line k _ _ l => s.judgeLine r k l
  | .giveBack l _ => s.judgeOther r l
  | .directRead _ _ l _ _ => s.judgeOther r l
  | .directWrite _ _ l _ _ => s.judgeOther r l
  | .announce _ _ => (.clear, .nothing)
  | .ready _ => (.clear, .nothing)

/-- The oldest entry of the line's set with recall state none is marked as victim: it becomes wanted and its line joins the
wanted list (R99). -/
def State.markVictim (s : State) (l : LineNo) : State :=
  match (s.exportSet l).find? fun x => x.state == .none with
  | none => s
  | some x =>
    let s' := s.changeExport x.line fun y => { y with state := .wanted }
    { s' with home.wanted := s'.home.wanted ++ [x.line] }

/-- R99 at an arrival: a Fetch, Claim or Promote that finds the set full, whatever else the home judges (log 21). -/
def State.markForRequest (s : State) (r : Request) : State :=
  match r with
  | .line .fetch _ _ l => if s.homesLine l && s.exportFull l then s.markVictim l else s
  | .line .claim _ _ l => if s.homesLine l && s.exportFull l then s.markVictim l else s
  | .line .promote _ _ l => if s.homesLine l && s.exportFull l then s.markVictim l else s
  | .line .recall _ _ _ => s
  | .giveBack _ _ => s
  | .directRead _ _ _ _ _ => s
  | .directWrite _ _ _ _ _ => s
  | .announce _ _ => s
  | .ready _ => s

/-! ### Changes at close -/

/-- The data message of a Supply (R32, R126). -/
def supplyMsg (k : LineKind) (dest : StationNo) (t : ReqTag) (g : Gen) (l : LineNo) (d : LineData) : DataMsg :=
  { dest := dest, tag := t, gen := g, line := l,
    grant := (match k with | .fetch => .copy | .claim => .sole | .promote => .none | .recall => .none),
    homeTake := k == .fetch, status := .good, data := some d }

/-- The Line Cache applies its recorded change, and a held place becomes its SQ entry, only-fresh (R31, R32, R34, R54). -/
def State.closeCache (s : State) (rec : Recorded) (k : LineKind) (dest : StationNo) (t : ReqTag) (g : Gen) (l : LineNo) :
    State :=
  match s.held l with
  | none => s
  | some (w, _, d) =>
    let s := if rec.supply then s.addSq (supplyMsg k dest t g l d) true else s
    match rec.cache with
    | .none => s
    | .toCopy => s.setWay l w (.holding l .copy d)
    | .toVacant => s.setWay l w .empty

/-- A takeover: the RQ entry leaves, its held place becomes an only-fresh SQ entry, its flushes are answered (R126). -/
def State.closeTakeover (s : State) (rec : Recorded) (k : LineKind) (dest : StationNo) (t : ReqTag) (g : Gen) (l : LineNo) :
    State :=
  if rec.takeover then
    match s.findRq l with
    | some e => (s.addSq (supplyMsg k dest t g l e.data) true).removeRq l
    | none => s
  else s

/-- The kind a follower is recorded as (R83). -/
def LineKind.follower : LineKind → FollowerKind
  | .fetch => .fetch
  | .claim => .claim
  | .promote => .claim
  | .recall => .recall

/-- An entry in use is changed. -/
def State.changeEntry (s : State) (t : ReqTag) (f : PrtEntry → PrtEntry) : State :=
  match s.entry t with
  | some e => s.setEntry t (f e)
  | none => s

/-- The Promote becomes a Claim, its emptied way reserved for it (R77). -/
def State.convertPromote (s : State) (t : ReqTag) : State :=
  match s.entry t with
  | some e =>
    let s := s.setEntry t { e with kind := .claim }
    (match e.way with
     | some w => s.setWay e.line w (.reserved e.line)
     | none => s)
  | none => s

/-- The Request Engine applies its recorded change (R76 to R78, R83); a follower is recorded at a close of Follow alone. -/
def State.closeEngine (s : State) (rec : Recorded) (c : AnswerCode) (k : LineKind) (sender : StationNo) (t : ReqTag) (g : Gen) :
    State :=
  match rec.engine with
  | .none => s
  | .downgrade x => s.changeEntry x fun e => { e with downgrade := true }
  | .drop x => s.changeEntry x fun e => { e with dropAfterUse := true }
  | .convert x => s.convertPromote x
  | .follow x =>
    if c = .follow then
      s.changeEntry x fun e => { e with follower := some { station := sender, tag := t, gen := g, kind := k.follower } }
    else s

/-- The line's awaiting-data flag is set and its timer starts for the data timeout (R108). -/
def State.setAwaiting (s : State) (l : LineNo) : State :=
  s.changeExport l fun x => { x with awaiting := some s.ctl.start.dataTimeout }

/-- What a Return's close does to the line's entry (R102). -/
def State.returnSettles (s : State) (l : LineNo) : State :=
  match s.findExport l with
  | none => s
  | some x =>
    match x.state, x.cls with
    | .inFlight, _ => s
    | .none, .soleOut => s.removeExport l
    | .wanted, .soleOut => s.removeExport l
    | .none, .sharedOut => s.clearAwaiting l
    | .wanted, .sharedOut => s.clearAwaiting l

/-- The home's change at a close that is not cancelled (R101). -/
def State.homeChange (s : State) (sender : StationNo) (r : Request) (c : AnswerCode) : State :=
  match r with
  | .line .fetch t g l =>
    (match c with
     | .clear => (s.createOrSet l .soleOut).addLineWork (.supplyRead sender t g l .sole)
     | .shared => (s.createOrSet l .sharedOut).addLineWork (.supplyRead sender t g l .copy)
     | .supply | .follow | .again | .void => (s.createOrSet l .sharedOut).setAwaiting l)
  | .line .claim t g l =>
    (match c with
     | .clear | .shared => (s.createOrSet l .soleOut).addLineWork (.supplyRead sender t g l .sole)
     | .supply | .follow | .again | .void => s.createOrSet l .soleOut)
  | .line .promote _ _ l => s.createOrSet l .soleOut
  | .line .recall _ _ _ => s
  | .giveBack l d => (s.addLineWork (.returnWrite l sender d)).returnSettles l
  | .directRead t g l _ _ => s.addLineWork (.directRead sender t g l)
  | .directWrite _ _ l mask bytes => s.addLineWork (.directWrite l sender mask bytes)
  | .announce _ _ => s
  | .ready _ => s

/-- Every block applies what it recorded for a peer's request, at a close that is not cancelled (R46). -/
def State.applyPeer (s : State) (sender : StationNo) (r : Request) (rec : Recorded) (c : AnswerCode) : State :=
  let s := match r with
    | .line k t g l =>
      ((s.closeCache rec k sender t g l).closeTakeover rec k sender t g l).closeEngine rec c k sender t g
    | .giveBack _ _ | .directRead _ _ _ _ _ | .directWrite _ _ _ _ _ | .announce _ _ | .ready _ => s
  if rec.home then s.homeChange sender r c else s

/-- Is the request cancelled by the combined answer? (R45) -/
def AnswerCode.cancels (c : AnswerCode) : Bool := c == .void || c == .again

/-- This station's own request takes the combined answer (R66 to R70, R124). -/
def State.applyOwn (s : State) (item : SendItem) (c : AnswerCode) : State :=
  match item with
  | .prt t =>
    (match s.entry t with
     | some e => if c.cancels then s.cancelEntry t e else s.ownResult t e c
     | none => s)
  | .rq l => if c.cancels then (if (s.findRq l).isSome then s.enqueue (.rq l) else s) else s.removeRq l
  | .announce => s
  | .ready => s

/-- The medium is idle: the line is no longer under answer, and the places held for the window are released (R45, R46). -/
def State.idle (s : State) : State := { s with bus.medium := .idle }

/-- The close of an Operational-phase window: the changes, then the expiries held until this close (R80). -/
def State.closeWindow (s : State) (w : Window) (c : AnswerCode) : State :=
  let s := match w.own, w.msg with
    | some item, _ => s.applyOwn item c
    | none, some (sender, r) => if c.cancels then s else s.applyPeer sender r w.record c
    | none, none => s
  s.takeHeldExpiries.idle

end Sys2Proof.Machine
end

