-- ==== Sys2Proof/Machine/Bus.lean ====
section
/-!
DEFINITION. The pool bus at this station: arbitration and sending (R39, R40, R52, R66), the arrival of a message in each station
state (R42, R43, R48 to R50, R57, R93, R109, R146, R153) and the closes of its window (R44 to R46, R53 to R56).
-/

namespace Sys2Proof.Machine

/-! ### Arbitration (R39) -/

/-- Does the station's state let it offer data and requests of the Operational phase? -/
def Mode.member : Mode → Bool
  | .operational => true
  | .quiescing => true
  | .quiesced => true
  | .dormant => false
  | .enrolling => false
  | .isolated => false
  | .parked => false

/-- The entry at the head of the SQ's sending order (R52). -/
def State.sqHead (s : State) : Option SqEntry := s.bus.sq.find? fun e => !e.converting

/-- The class this station contends in by its state (R39). -/
def State.contends (s : State) : Option ContenderClass :=
  if s.ctl.mode.member then
    if s.sqHead.isSome then some .data else if s.bus.sendList = [] then none else some .request
  else if s.ctl.mode = .enrolling then (if s.bus.sendList = [] then none else some .request)
  else none

/-- What this station declared: by its state now, or earlier (R39, R40; log 6). A Dormant or Parked station never contends. -/
def State.declares (s : State) (d : Declared) : Option ContenderClass :=
  match d with
  | .current => s.contends
  | .earlier c => if s.ctl.mode = .dormant ∨ s.ctl.mode = .parked then none else c

/-- How far a number is after the last winner, counting upwards and wrapping: 0 for the next number, 15 for the last winner
itself. -/
def distance (last n : StationNo) : Nat := (n - last - 1).toNat

/-- The winner among the contenders that take part: the first number after the last winner (R39). -/
def firstAfter (last : StationNo) : List Contender → Option Contender
  | [] => none
  | c :: cs =>
    match firstAfter last cs with
    | none => some c
    | some b => if distance last b.number < distance last c.number then some b else some c

/-- The winner of a contention: data contenders before request contenders, then by rotation (R39). -/
def winner (last : StationNo) (cs : List Contender) : Option Contender :=
  if cs.any fun c => c.cls == .data then firstAfter last (cs.filter fun c => c.cls == .data) else firstAfter last cs

/-! ### Sending (R40, R52, R66, R123, R144, R149) -/

/-- The byte mask of a Direct Write: a flag for each byte from the offset for the length (R66). -/
def byteMask (off len : Nat) : BitVec 64 := (BitVec.allOnes 64 >>> (64 - len)) <<< off

/-- The request message a PRT entry describes at this moment (R66). -/
def PrtEntry.message (e : PrtEntry) (t : ReqTag) (g : Gen) : Option Request :=
  match e.kind, e.waiting with
  | .fetch, _ => some (.line .fetch t g e.line)
  | .claim, _ => some (.line .claim t g e.line)
  | .promote, _ => some (.line .promote t g e.line)
  | .recall, _ => some (.line .recall t g e.line)
  | .directRead, i :: _ => some (.directRead t g e.line i.offset (BitVec.ofNat 6 (i.len - 1)))
  | .directWrite, i :: _ => some (.directWrite t g e.line (byteMask i.offset.toNat i.len) i.data)
  | .directRead, [] => none
  | .directWrite, [] => none

/-- The request message an item of the send list describes at this moment (R40). -/
def State.itemMessage (s : State) (i : SendItem) : Option Request :=
  match i with
  | .prt t =>
    (match s.entry t with
     | some e => e.message t (look s.engine.prt t).gen
     | none => none)
  | .rq l => (s.findRq l).map fun e => .giveBack l e.data
  | .announce => some s.announceMsg
  | .ready => some s.readyMsg

/-- The station sends the head of its send list, and the item leaves the list; with none it sends nothing (R40). -/
def State.sendRequest (s : State) : State :=
  match s.bus.sendList with
  | [] => s
  | i :: rest =>
    match s.itemMessage i with
    | some r =>
      { s with bus.sendList := rest, bus.medium := .sent (.request i r), out.sent := some (encodeRequest s.number r) }
    | none => { s with bus.sendList := rest }

/-- The data message of an SQ entry's next try: it carries home-take only while the home is owed (R52). -/
def SqEntry.tryMsg (e : SqEntry) : DataMsg := { e.msg with homeTake := e.msg.homeTake && e.homeState == .owed }

/-- The entry at the head of the sending order is changed. -/
def State.changeSqHead (s : State) (f : SqEntry → SqEntry) : State :=
  let rec go : List SqEntry → List SqEntry
    | [] => []
    | e :: es => if e.converting then e :: go es else f e :: es
  { s with bus.sq := go s.bus.sq }

/-- The station sends the head of its sending order and counts a try; with none it sends nothing (R40, R52). -/
def State.sendData (s : State) : State :=
  match s.sqHead with
  | some e =>
    let s' := s.changeSqHead fun e => { e with tries := e.tries + 1 }
    { s' with bus.medium := .sent (.data e.tryMsg.homeTake), out.sent := some (encodeData s.number e.tryMsg) }
  | none => s

/-- The winner sends what it won for, if its state still lets it contend (R40). -/
def State.send (s : State) (c : ContenderClass) : State :=
  match c with
  | .data => if s.ctl.mode.member then s.sendData else s
  | .request => if s.ctl.mode.member || s.ctl.mode == .enrolling then s.sendRequest else s

/-- A contention at a station that is not Parked: every such station sets its last-winner number, and the winner sends (R39,
R40). -/
def State.contend (s : State) (peers : List Contender) (d : Declared) : State :=
  let own := s.declares d
  let mine : List Contender := match own with | some c => [{ number := s.number, cls := c }] | none => []
  match winner s.bus.lastWinner (mine ++ peers) with
  | none => s
  | some w =>
    let s := { s with bus.lastWinner := w.number }
    if w.number = s.number ∧ own = some w.cls then s.send w.cls else s

/-! ### Arrival of a request message (R42, R43) -/

/-- A window opens here. -/
def State.openWindow (s : State) (w : Window) : State := { s with bus.medium := .answering w }

/-- A window in which this station drives a code, or nothing, and has recorded nothing. -/
def plainWindow (msg : Option (StationNo × Request)) (drives : Option AnswerCode) : Window :=
  { msg := msg, own := none, drives := drives, record := .nothing }

/-- The gap flag of a Dormant station (R146). -/
def State.setGap (s : State) : State := { s with ctl.roll.gap := true }

/-- A sound Operational-phase request at a member station (R42, R43). -/
def State.judgeArrival (s : State) (sender : StationNo) (r : Request) : State :=
  if s.ctl.enrolled.has sender then
    let j := s.judgeRequest r
    (s.markForRequest r).openWindow { msg := some (sender, r), own := none, drives := some j.1, record := j.2 }
  else s.openWindow (plainWindow (some (sender, r)) (some .again))

/-- A sound request at a member station: Enrolment-phase messages are ignored and noted (R57). -/
def State.memberArrival (s : State) (sender : StationNo) (r : Request) : State :=
  if r.enrolment then (s.notePeer sender).openWindow (plainWindow (some (sender, r)) (some .clear))
  else s.judgeArrival sender r

/-- The arrival of a peer's request message, sound (`some`) or damaged (`none`), by the table of R43. -/
def State.peerArrival (s : State) (msg : Option (StationNo × Request)) : State :=
  match s.ctl.mode with
  | .parked => s
  | .dormant =>
    (match msg with
     | none => s.setGap.openWindow (plainWindow none none)
     | some (n, r) => (if r.enrolment then s else s.setGap).openWindow (plainWindow (some (n, r)) none))
  | .enrolling =>
    (match msg with
     | none => s.openWindow (plainWindow none (some .void))
     | some (n, r) =>
       (if r.enrolment then s else s.isolate (lateJoin (some n))).openWindow (plainWindow (some (n, r)) (some .clear)))
  | .isolated => s.openWindow (plainWindow msg (some .clear))
  | .operational | .quiescing | .quiesced =>
    (match msg with
     | none => s.openWindow (plainWindow none (some .void))
     | some (n, r) => s.memberArrival n r)

/-- The arrival of this station's own request message: its position is silent, and its line is under answer (R28, R43). -/
def State.ownArrival (s : State) (item : SendItem) (r : Request) : State :=
  s.openWindow { msg := some (s.number, r), own := some item, drives := none, record := .nothing }

/-! ### Arrival of a data message (R48 to R50) -/

/-- An acknowledgement window opens here. -/
def State.openAck (s : State) (own homeTake : Bool) (dest home : Option AckCode) : State :=
  { s with bus.medium := .acking { own := own, homeTake := homeTake, dest := dest, home := home } }

/-- The home's answer to a sound home-take message and its effect (R109). -/
def State.homeTakes (s : State) (sender : StationNo) (m : DataMsg) : AckCode × State :=
  if s.ctl.enrolled.has sender = false then (.stale, s)
  else if s.awaitingSet m.line then
    if s.hwqFree then
      (.taken, (s.addLineWork (.absorbWrite m.line (m.data.getD (fill 6 0)))).clearAwaiting m.line)
    else (.refused, s)
  else (.stale, s)

/-- A sound Abandoned message naming a line this station homes clears its awaiting-data flag (R93). -/
def State.abandonedAtHome (s : State) (m : DataMsg) : State :=
  if m.status = .abandoned ∧ s.homesLine m.line = true then s.clearAwaiting m.line else s

/-- The home's part of a sound data message (R50, R93). -/
def State.homePart (s : State) (sender : StationNo) (m : DataMsg) : Option AckCode × State :=
  if m.homeTake && s.homesLine m.line then
    let h := s.homeTakes sender m
    (some h.1, h.2)
  else (none, s.abandonedAtHome m)

/-- The destination's part of a sound data message (R49). -/
def State.destPart (s : State) (sender : StationNo) (m : DataMsg) : Option AckCode × State :=
  if m.dest = s.number then
    let d := s.destinationTakes sender m
    (some d.1, d.2)
  else (none, s)

/-- A sound data message at a member station (R49, R50, R93); then what follows in the same event. The arrival is by itself an event of R25
where the message is for this station, and not one of R111 (log 20). -/
def State.memberData (s : State) (sender : StationNo) (m : DataMsg) : State :=
  let d := s.destPart sender m
  let h := d.2.homePart sender m
  (h.2.openAck false m.homeTake d.1 h.1).settle s { remote := m.dest == s.number, home := false }

/-- The arrival of a peer's data message, sound or damaged (R48, R49, R146, R153, R154). -/
def State.peerData (s : State) (msg : Option (StationNo × DataMsg)) : State :=
  match s.ctl.mode with
  | .parked => s
  | .dormant => s.setGap.openAck false false none none
  | .enrolling =>
    (match msg with
     | none => s.openAck false false (some .garbled) (some .garbled)
     | some (n, _) => (s.isolate (lateJoin (some n))).openAck false false none none)
  | .isolated => s.openAck false false none none
  | .operational | .quiescing | .quiesced =>
    (match msg with
     | none => s.openAck false false (some .garbled) (some .garbled)
     | some (n, m) => s.memberData n m)

/-! ### The close of an acknowledgement window (R53 to R56) -/

/-- The delivery state of a party after a window in which it was read (R53). -/
def Delivery.after (d : Delivery) (read : Bool) (code : Option AckCode) : Delivery :=
  match d with
  | .owed =>
    if read then
      match code with
      | some .taken => .taken
      | some .stale => .stale
      | some .refused => .owed
      | some .garbled => .owed
      | none => .owed
    else .owed
  | .taken => .taken
  | .stale => .stale
  | .failed => .failed

/-- A party still owed after the fourth try becomes failed (R53). -/
def Delivery.fail (d : Delivery) : Delivery :=
  match d with
  | .owed => .failed
  | .taken => .taken
  | .stale => .stale
  | .failed => .failed

/-- Is a party still owed? The home is a party only when home-take is set (R51). -/
def SqEntry.anyOwed (e : SqEntry) : Bool := e.destState == .owed || (e.msg.homeTake && e.homeState == .owed)

/-- The entry with what its window's two positions read (R53). -/
def SqEntry.read (e : SqEntry) (homeRead : Bool) (dest home : Option AckCode) : SqEntry :=
  { e with destState := e.destState.after true dest, homeState := e.homeState.after homeRead home }

/-- The entry with the parties still owed failed (R53). -/
def SqEntry.failOwed (e : SqEntry) : SqEntry :=
  { e with destState := e.destState.fail, homeState := if e.msg.homeTake then e.homeState.fail else e.homeState }

/-- The head of the sending order leaves the SQ (R53). -/
def State.dropSqHead (s : State) : State := { s with bus.sq := s.bus.sq.eraseP fun e => !e.converting }

/-- The records of an entry without the mark: one for each party that is failed (R56, R89, R165). DESIGN CHOICE (log 37): where both are, the
destination's record is added before the home's. -/
def State.failedRecords (s : State) (e : SqEntry) : State :=
  let record (s : State) (p : Option StationNo) : State :=
    s.addFault { kind := .resendExhausted, line := some e.msg.line, peer := p }
  let s := if e.destState = .failed then record s (some e.msg.dest) else s
  if e.msg.homeTake ∧ e.homeState = .failed then record s (s.homeOf e.msg.line) else s

/-- The end of an entry's delivery: an only-fresh entry whose fresh party has not taken it waits for its conversion (R55), every
other entry leaves the SQ (R53, R56; log 24). -/
def State.endDelivery (s : State) (e : SqEntry) : State :=
  if e.onlyFresh then
    if e.freshState = .taken then s.dropSqHead
    else s.changeSqHead fun _ => { e with converting := true }
  else s.dropSqHead.failedRecords e

/-- The entry at the head of the sending order ends its delivery at this close: no party is owed any more, or the tries are used up
(R53). -/
def SqEntry.ends (e : SqEntry) : Bool := !e.anyOwed || Config.tryLimit ≤ e.tries

/-- The head of the sending order with what its window reads, where this station sent the message. -/
def State.ackRead (s : State) (a : AckWindow) (dest home : Option AckCode) : Option SqEntry :=
  if a.own then s.sqHead.map fun e => e.read a.homeTake dest home else none

/-- The sender's part of the close (R53); the flag says whether delivery ended. -/
def State.senderAck (s : State) (read : Option SqEntry) : State × Bool :=
  match read with
  | none => (s, false)
  | some e => if e.ends then (s.endDelivery e.failOwed, true) else (s.changeSqHead fun _ => e, false)

/-- What a position reads: the greatest of what the others and this station drive (R169). -/
def ackReads (driven : BitVec 3) (own : Option AckCode) : Option AckCode :=
  AckCode.ofValue (maxValue driven (match own with | some c => c.value | none => 0))

/-- The close of an acknowledgement window (R53); then what follows in the same event. The end of an entry's delivery is an event of R25, and
the close is not by itself one of R111 (log 20). -/
def State.closeAck (s : State) (a : AckWindow) (dest home : BitVec 3) : State :=
  let r := s.senderAck (s.ackRead a (ackReads dest a.dest) (ackReads home a.home))
  r.1.idle.settle s { remote := r.2, home := false }

end Sys2Proof.Machine
end

