-- ==== Sys2Proof/Machine/BusEvents.lean ====
section
/-!
DEFINITION. The rows of the pool bus: CONTENTION, REQUEST_ARRIVAL, ANSWER_WINDOW_CLOSE, ANNOUNCE_CLOSE, READY_CLOSE,
DATA_MESSAGE_ARRIVAL, ACKNOWLEDGEMENT_WINDOW_CLOSE. A unit that begins while another is in progress here stops by name (R37,
log 4); a close with no unit open here has no effect (log 5).
-/

namespace Sys2Proof.Machine

/-! ### Enrolment windows (R46, R147, R150) -/

/-- A cancelled Announce or Ready of this station rejoins its send list while the station is still Enrolling (R45, R154). -/
def State.requeueOwn (s : State) (own : Option SendItem) : State :=
  match own with
  | some i => if s.ctl.mode = .enrolling then s.enqueue i else s
  | none => s

/-- The close of an Announce's window (R45, R46, R147; log 22). -/
def State.closeAnnounce (s : State) (own : Option SendItem) (n : StationNo) (expectedField : BitVec 4) (claims : List Claim)
    (c : AnswerCode) : State :=
  match c with
  | .clear => s.takeAnnounce n expectedField claims own.isSome
  | .void | .again => s.requeueOwn own
  | .shared | .supply | .follow => s

/-- The close of a Ready's window (R45, R46, R150; log 22). -/
def State.closeReady (s : State) (own : Option SendItem) (n : StationNo) (set : StationSet) (c : AnswerCode) : State :=
  match c with
  | .clear => s.takeReady n set
  | .void | .again => s.requeueOwn own
  | .shared | .supply | .follow => s

/-! ### Which kind of window is open -/

/-- The kinds of window that the close rows tell apart. A message found damaged here shows no kind. -/
inductive WindowKind where
  | operational
  | announce
  | ready
  | damaged
  deriving DecidableEq, Repr

/-- The kind of an open answer window. -/
def Window.kind (w : Window) : WindowKind :=
  match w.msg with
  | none => .damaged
  | some (_, .announce _ _) => .announce
  | some (_, .ready _) => .ready
  | some (_, .line _ _ _ _) | some (_, .giveBack _ _) | some (_, .directRead _ _ _ _ _) | some (_, .directWrite _ _ _ _ _) =>
    .operational

/-- What the close of an answer window does before what follows in the same event. -/
def State.closeAny (s : State) (w : Window) (c : AnswerCode) : State :=
  match w.msg with
  | some (n, .announce e cs) => (s.closeAnnounce w.own n e cs c).idle
  | some (n, .ready set) => (s.closeReady w.own n set c).idle
  | some (_, .line _ _ _ _) | some (_, .giveBack _ _) | some (_, .directRead _ _ _ _ _)
  | some (_, .directWrite _ _ _ _ _) | none => s.closeWindow w c

/-- The close of the open answer window, by a row that closes windows of one kind; one whose message was damaged here is closed by any
of the three (R38, R45, R46). -/
def State.closeAnswer (s : State) (kind : WindowKind) (driven : Table (BitVec 3) 4) : Host.Outcome State Fault Refusal :=
  match s.bus.medium with
  | .idle => .next s
  | .answering w =>
    if w.kind = kind ∨ w.kind = .damaged then .next ((s.closeAny w (combine driven w.drives)).settle s .all)
    else .refused .closeOfOtherKind
  | .sent _ => .refused .closeOfOtherKind
  | .acking _ => .refused .closeOfOtherKind

/-! ### The rows -/

/-- CONTENTION (R39, R40, R52, R66): a Parked station takes no part. -/
def execContention (peers : List Contender) (own : Declared) (s : State) : Host.Outcome State Fault Refusal :=
  if s.ctl.mode = .parked then .next s.begin
  else if s.bus.medium = .idle then .next (s.begin.contend peers own)
  else .fault .unitOverlap

/-- REQUEST_ARRIVAL (R38, R42, R43, R28): this station's own request, or a peer's. -/
def execRequestArrival (bytes : List Byte) (s : State) : Host.Outcome State Fault Refusal :=
  if s.ctl.mode = .parked then .next s.begin
  else match s.bus.medium with
    | .sent (.request item r) => .next (s.begin.ownArrival item r)
    | .idle => .next ((s.begin.peerArrival (parseRequest bytes)).settle s.begin .byChange)
    | .sent (.data _) => .fault .unitOverlap
    | .answering _ => .fault .unitOverlap
    | .acking _ => .fault .unitOverlap

/-- ANSWER_WINDOW_CLOSE (R44 to R46): the close of an Operational-phase request's window. -/
def execAnswerWindowClose (driven : Table (BitVec 3) 4) (s : State) : Host.Outcome State Fault Refusal :=
  s.begin.closeAnswer .operational driven

/-- ANNOUNCE_CLOSE (R147). -/
def execAnnounceClose (driven : Table (BitVec 3) 4) (s : State) : Host.Outcome State Fault Refusal :=
  s.begin.closeAnswer .announce driven

/-- READY_CLOSE (R150). -/
def execReadyClose (driven : Table (BitVec 3) 4) (s : State) : Host.Outcome State Fault Refusal :=
  s.begin.closeAnswer .ready driven

/-- DATA_MESSAGE_ARRIVAL (R38, R48 to R50): this station's own data message, or a peer's. -/
def execDataMessageArrival (bytes : List Byte) (s : State) : Host.Outcome State Fault Refusal :=
  if s.ctl.mode = .parked then .next s.begin
  else match s.bus.medium with
    | .sent (.data homeTake) => .next (s.begin.openAck true homeTake none none)
    | .idle => .next (s.begin.peerData (parseData bytes))
    | .sent (.request _ _) => .fault .unitOverlap
    | .answering _ => .fault .unitOverlap
    | .acking _ => .fault .unitOverlap

/-- ACKNOWLEDGEMENT_WINDOW_CLOSE (R53 to R56). -/
def execAcknowledgementWindowClose (dest home : BitVec 3) (s : State) : Host.Outcome State Fault Refusal :=
  match s.bus.medium with
  | .idle => .next s.begin
  | .acking a => .next (s.begin.closeAck a dest home)
  | .sent _ => .refused .closeOfOtherKind
  | .answering _ => .refused .closeOfOtherKind

end Sys2Proof.Machine
end

