-- ==== Sys2Proof/Machine/Control.lean ====
section
/-!
DEFINITION. The rows of the control window: JOIN, QUIESCE, RESUME, CLEAR_LOG, FAULT_LOG_POP, STATION_STATUS_READ, EVENT_ENABLE_WRITE,
REGISTER_WRITE. Each is refused TAG_IN_USE while its processor tag is in use (R162).
-/

namespace Sys2Proof.Machine

/-- JOIN (R143). -/
def execJoin (tag : PTag) (s : State) : Host.Outcome State Fault Refusal :=
  .next (s.begin.control tag fun s => s.doJoin tag)

/-- QUIESCE (R128). -/
def execQuiesce (tag : PTag) (s : State) : Host.Outcome State Fault Refusal :=
  .next (s.begin.control tag fun s => s.doQuiesce tag)

/-- RESUME (R132). -/
def execResume (tag : PTag) (s : State) : Host.Outcome State Fault Refusal :=
  .next (s.begin.control tag fun s => s.doResume tag)

/-- CLEAR_LOG (R164, R166). -/
def execClearLog (tag : PTag) (s : State) : Host.Outcome State Fault Refusal :=
  .next (s.begin.control tag fun s => s.clearLog tag)

/-- FAULT_LOG_POP (R166, R171). -/
def execFaultLogPop (tag : PTag) (s : State) : Host.Outcome State Fault Refusal :=
  .next (s.begin.control tag fun s => s.popLog tag)

/-- STATION_STATUS_READ (R163, R167, R170). -/
def execStationStatusRead (tag : PTag) (s : State) : Host.Outcome State Fault Refusal :=
  .next (s.begin.control tag fun s => s.readStatus tag)

/-- EVENT_ENABLE_WRITE (R163, R167). -/
def execEventEnableWrite (tag : PTag) (value : BitVec 64) (s : State) : Host.Outcome State Fault Refusal :=
  .next (s.begin.control tag fun s => s.writeEnables tag value)

/-- REGISTER_WRITE (R142, R162, R163, R170). -/
def execRegisterWrite (tag : PTag) (offset : BitVec 12) (value : BitVec 64) (s : State) : Host.Outcome State Fault Refusal :=
  .next (s.begin.control tag fun s => s.controlWrite tag offset value)

end Sys2Proof.Machine
end

