-- ==== Sys2Proof/Machine/Home.lean ====
section
/-!
DEFINITION. The memory port: MEMORY_COMPLETION (R104 to R106, R136).
-/

namespace Sys2Proof.Machine

/-- Is the pending home pin of a local-read the one its Pinned Read made? (R136) -/
def PinEntry.madeBy (p : PinEntry) (l : LineNo) (tag : PTag) : Bool :=
  p.line == l && p.tag == tag && !p.held && p.path == .home

/-- Did a Pinned Read make this local-read? -/
def State.pinWaits (s : State) (l : LineNo) (tag : PTag) : Bool := s.cache.pins.any fun p => p.madeBy l tag

/-- A pinned local-read completes: its pin becomes held (R136). -/
def State.pinCompletes (s : State) (l : LineNo) (tag : PTag) : State := if s.pinWaits l tag then s.holdPin l else s

/-- A pinned local-read fails: its pending pin is removed, with no record (R136). -/
def State.pinFails (s : State) (l : LineNo) (tag : PTag) : State := if s.pinWaits l tag then s.removePin l else s

/-- Bytes written to the home memory. -/
def State.writeHome (s : State) (ps : List Host.Cell) : State := { s with home.mem := Memory.writeAll s.home.mem ps }

/-- The head keeps its read's result and asks for an SQ place (R105). -/
def State.holdResult (s : State) (r : Option LineData) : State :=
  ({ s with home.port := .holding r } : State).ask .home

/-- The 64 bytes of memory from an entry's address. -/
def State.lineRead (s : State) (e : HwqEntry) : LineData := .ofBytes (Memory.readBytes s.home.mem e.addr.toNat 64)

/-- A successful completion (R104, R136). -/
def State.memorySuccess (s : State) (e : HwqEntry) : State :=
  match e.work with
  | .supplyRead _ _ _ _ _ => s.holdResult (some (s.lineRead e))
  | .directRead _ _ _ _ => s.holdResult (some (s.lineRead e))
  | .localRead l tag _ len =>
    ((s.answer tag .ok (.bytes (Memory.readBytes s.home.mem e.addr.toNat len))).pinCompletes l tag).popHwq
  | .localWrite _ tag _ _ _ => ((s.writeHome e.stores).answer tag .ok .none).popHwq
  | .absorbWrite _ _ => (s.writeHome e.stores).popHwq
  | .returnWrite _ _ _ => (s.writeHome e.stores).popHwq
  | .recallWrite _ _ => (s.writeHome e.stores).popHwq
  | .directWrite _ _ _ _ => (s.writeHome e.stores).popHwq

/-- The peer station of a MEMORY_ERROR record (R106). -/
def HwqWork.errorPeer : HwqWork → Option StationNo
  | .supplyRead dest _ _ _ _ => some dest
  | .directRead dest _ _ _ => some dest
  | .returnWrite _ sender _ => some sender
  | .directWrite _ sender _ _ => some sender
  | .absorbWrite _ _ => none
  | .recallWrite _ _ => none
  | .localRead _ _ _ _ => none
  | .localWrite _ _ _ _ _ => none

/-- The processor tag of a MEMORY_ERROR record (R106). -/
def HwqWork.errorTag : HwqWork → Option PTag
  | .localRead _ tag _ _ => some tag
  | .localWrite _ tag _ _ _ => some tag
  | .supplyRead _ _ _ _ _ => none
  | .directRead _ _ _ _ => none
  | .returnWrite _ _ _ => none
  | .directWrite _ _ _ _ => none
  | .absorbWrite _ _ => none
  | .recallWrite _ _ => none

/-- The MEMORY_ERROR record (R106). -/
def HwqWork.errorRecord (w : HwqWork) : FaultRecord :=
  { kind := .memoryError, line := some w.line, segment := some (segmentOf w.line), peer := w.errorPeer, tag := w.errorTag }

/-- What a failed write leaves at the addresses where memory is fitted: free values (R106; log 9). -/
def HwqEntry.failedStores (e : HwqEntry) (fitted n : Nat) : List Host.Cell :=
  (e.stores.filter fun p => decide (p.1 < fitted)).map fun p => (p.1, Config.failedWriteByte n p.1)

/-- A write that fails: its bytes are unknown (R106). -/
def State.failWrite (s : State) (e : HwqEntry) : State :=
  { s.writeHome (e.failedStores s.home.fitted s.fresh) with fresh := s.fresh + 1 }

/-- The further effect of a memory error (R106, R136). -/
def State.errorEffect (s : State) (e : HwqEntry) : State :=
  match e.work with
  | .supplyRead _ _ _ _ _ => s.holdResult none
  | .directRead _ _ _ _ => s.holdResult none
  | .localRead l tag _ _ => ((s.answer tag .dataError .none).pinFails l tag).popHwq
  | .localWrite _ tag _ _ _ => ((s.failWrite e).answer tag .dataError .none).popHwq
  | .absorbWrite _ _ => (s.failWrite e).popHwq
  | .returnWrite _ _ _ => (s.failWrite e).popHwq
  | .recallWrite _ _ => (s.failWrite e).popHwq
  | .directWrite _ _ _ _ => (s.failWrite e).popHwq

/-- An error completion (R106). -/
def State.memoryError (s : State) (e : HwqEntry) : State := (s.addFault e.work.errorRecord).errorEffect e

/-- Every address the entry reaches has memory fitted (R5). -/
def State.reachesFitted (s : State) (e : HwqEntry) : Bool := e.reaches.all fun a => decide (a < s.home.fitted)

/-- The completion of the head's operation; none is in progress while the port is not busy (R104). -/
def State.completeMemory (s : State) (ok : Bool) : State :=
  match s.home.port, s.home.hwq with
  | .busy, e :: _ => if ok && s.reachesFitted e then s.memorySuccess e else s.memoryError e
  | .busy, [] => s
  | .idle, _ => s
  | .holding _, _ => s

/-- MEMORY_COMPLETION (R104 to R106). -/
def execMemoryCompletion (ok : Bool) (s : State) : Host.Outcome State Fault Refusal :=
  .next ((s.begin.completeMemory ok).settle s.begin { remote := false, home := true })

end Sys2Proof.Machine
end

