-- ==== Sys2Proof/Machine/Internal.lean ====
section
/-!
DEFINITION. The station's own internal steps as rows: SQ_PLACE_GIVEN (R51), CONVERSION_TO_RETURN (R55), VICTIM_RECALL (R117),
QUIESCE_WALK (R130), QUIESCED_ENTRY (R131). Each happens in the event that brings about its condition (log 2); a row given
while its condition stands does it, and given otherwise has no effect.
-/

namespace Sys2Proof.Machine

/-- SQ_PLACE_GIVEN (R51). -/
def execSqPlaceGiven (s : State) : Host.Outcome State Fault Refusal := .next (s.begin.giveOne.settle s.begin .byChange)

/-- CONVERSION_TO_RETURN (R55). -/
def execConversionToReturn (s : State) : Host.Outcome State Fault Refusal := .next (s.begin.convertOne.settle s.begin .byChange)

/-- VICTIM_RECALL (R117). -/
def execVictimRecall (s : State) : Host.Outcome State Fault Refusal := .next (s.begin.victimOne.settle s.begin .byChange)

/-- QUIESCE_WALK (R129, R130). -/
def execQuiesceWalk (s : State) : Host.Outcome State Fault Refusal := .next (s.begin.runWalk.settle s.begin .byChange)

/-- QUIESCED_ENTRY (R131). -/
def execQuiescedEntry (s : State) : Host.Outcome State Fault Refusal := .next s.begin.enterQuiesced

end Sys2Proof.Machine
end

