-- ==== Sys2Proof/Machine/LocalPort.lean ====
section
/-!
DEFINITION. The local port's requests: LOCAL_REQUEST_ACCEPTANCE (R156, R157, R162), and the LRQ head judged again,
HEAD_JUDGED_AGAIN (R25, R111).
-/

namespace Sys2Proof.Machine

/-- A request joins the tail of the LRQ, and its tag enters the set of tags in use (R157). -/
def State.joinLrq (s : State) (r : LocalReq) : State :=
  ({ s with lpu.lrq := s.lpu.lrq ++ [r] } : State).useTag r.tag

/-- The status with which a pool request is refused at acceptance, by checks 1 to 4 of R157. -/
def State.acceptRefusal (s : State) (tag : PTag) : Option Status :=
  if s.ctl.mode = .parked then some .wrongState
  else if s.ctl.mode = .isolated then some .isolated
  else if s.tagInUse tag then some .tagInUse
  else if Config.lrqPlaces ≤ s.lpu.lrq.length then some .full
  else none

/-- The acceptance of a pool request (R157): it becomes the head, and is decoded, where the LRQ was empty. -/
def State.acceptPool (s : State) (r : LocalReq) : State :=
  match s.acceptRefusal r.tag with
  | some st => s.reply r.tag st .none
  | none => if s.lpu.lrq = [] then (s.joinLrq r).settle s .all else s.joinLrq r

/-- A local request by its class (R156). -/
def State.acceptLocal (s : State) (tag : PTag) (code : BitVec 3) (addr : LocalAddr) (lenField : BitVec 6) (data : List Byte) :
    State :=
  match classify s.ctl.start.base code addr, LocalOp.ofCode code with
  | .control offset, _ => s.controlRequest tag code offset lenField data
  | .pool a, some op => s.acceptPool { tag := tag, op := op, addr := a, len := lenField.toNat + 1, data := data }
  | .pool _, none => s.reply tag .access .none
  | .noOperation, _ => s.reply tag .access .none
  | .neither, _ => s.reply tag .access .none

/-- LOCAL_REQUEST_ACCEPTANCE (R156, R157, R162). -/
def execLocalRequestAcceptance (tag : PTag) (code : BitVec 3) (addr : LocalAddr) (lenField : BitVec 6) (data : List Byte)
    (s : State) : Host.Outcome State Fault Refusal :=
  .next (s.begin.acceptLocal tag code addr lenField data)

/-- HEAD_JUDGED_AGAIN (R25, R111). -/
def execHeadJudgedAgain (s : State) : Host.Outcome State Fault Refusal := .next (s.begin.settle s.begin .all)

end Sys2Proof.Machine
end

