-- ==== Sys2Proof/Machine/Reset.lean ====
section
/-!
DEFINITION. The resets: POOL_RESET, POWER_ON and STATION_RESET (R155, and each block's own reset rule: R4, R17, R39, R40, R51, R57, R59,
R97, R107, R120, R133, R142, R146, R158, R159, R163, R165, R167).
-/

namespace Sys2Proof.Machine

/-- The bytes of a memory write in progress that land at a reset: free values (R107, R161; log 10). `n` numbers the free value. -/
def HwqEntry.landing (e : HwqEntry) (n : Nat) : List Host.Cell :=
  match e.work with
  | .localWrite _ _ _ _ _ => e.stores.filter fun p => Config.resetByteLands n p.1
  | .supplyRead _ _ _ _ _ | .directRead _ _ _ _ | .absorbWrite _ _ | .returnWrite _ _ _ | .recallWrite _ _
  | .directWrite _ _ _ _ | .localRead _ _ _ _ => if Config.resetWriteLands n then e.stores else []

/-- The home memory after a reset: its contents are kept, but for a write in progress (R107). -/
def State.memAfterReset (s : State) : List Host.Cell :=
  match s.home.port, s.home.hwq with
  | .busy, e :: _ =>
    Memory.writeAll s.home.mem ((e.landing s.fresh).filter fun p => decide (p.1 < s.home.fitted))
  | .busy, [] => s.home.mem
  | .idle, _ => s.home.mem
  | .holding _, _ => s.home.mem

/-- The station after a reset that leaves it in `mode`: every block at its reset value, the home memory kept, and the accepted
requests not yet answered discarded without a response (R155, R161). -/
def State.resetTo (s : State) (mode : Mode) : State :=
  { State.reset with
    home := HomeUnit.reset s.memAfterReset s.home.fitted
    ctl := Controller.reset mode
    fresh := if s.home.port = .busy then s.fresh + 1 else s.fresh
    pending := s.pending }

/-- POOL_RESET (R155): the station becomes Dormant. -/
def execPoolReset (s : State) : Host.Outcome State Fault Refusal := .next (s.resetTo .dormant)

/-- POWER_ON (R155): as a pool reset. -/
def execPowerOn (s : State) : Host.Outcome State Fault Refusal := .next (s.resetTo .dormant)

/-- STATION_RESET (R155): the station becomes Parked. -/
def execStationReset (s : State) : Host.Outcome State Fault Refusal := .next (s.resetTo .parked)

end Sys2Proof.Machine
end

