-- ==== Sys2Proof/Machine/Timers.lean ====
section
/-!
DEFINITION. The station's own timers: DATA_TIMER_EXPIRY (R80), AWAITING_DATA_TIMER_EXPIRY (R110), PIN_TIMER_EXPIRY (R140),
ENROLMENT_TIMER_EXPIRY (R149, R151). A timer that is not running does not expire (log 13).
-/

namespace Sys2Proof.Machine

/-- The ABSORB_LOST record (R110). -/
def absorbLost (l : LineNo) : FaultRecord := { kind := .absorbLost, line := some l, segment := some (segmentOf l) }

/-- The expiry of a line's awaiting-data timer (R110). -/
def State.expireAwaiting (s : State) (l : LineNo) : State :=
  if s.awaitingSet l then (s.clearAwaiting l).addFault (absorbLost l) else s

/-- The PIN_EXPIRED record (R140): the line's home is given for a remote pin. -/
def State.pinExpired (s : State) (p : PinEntry) : FaultRecord :=
  { kind := .pinExpired, line := some p.line, segment := some (segmentOf p.line),
    peer := (match p.path with | .remote => s.homeOf p.line | .home => none), tag := some p.tag }

/-- The expiry of a line's pin timer (R140). -/
def State.expirePin (s : State) (l : LineNo) : State :=
  match s.findPin l with
  | some p => if p.held && p.timer.isSome then (s.removePin l).addFault (s.pinExpired p) else s
  | none => s

/-- DATA_TIMER_EXPIRY (R80). -/
def execDataTimerExpiry (tag : ReqTag) (s : State) : Host.Outcome State Fault Refusal :=
  .next ((s.begin.expireData tag).settle s.begin .byChange)

/-- AWAITING_DATA_TIMER_EXPIRY (R110). -/
def execAwaitingDataTimerExpiry (line : LineNo) (s : State) : Host.Outcome State Fault Refusal :=
  .next ((s.begin.expireAwaiting line).settle s.begin .byChange)

/-- PIN_TIMER_EXPIRY (R140). -/
def execPinTimerExpiry (line : LineNo) (s : State) : Host.Outcome State Fault Refusal :=
  .next ((s.begin.expirePin line).settle s.begin .byChange)

/-- ENROLMENT_TIMER_EXPIRY (R149, R151). -/
def execEnrolmentTimerExpiry (s : State) : Host.Outcome State Fault Refusal := .next s.begin.expireEnrolment

end Sys2Proof.Machine
end

