-- ==== Sys2Proof/Machine/Dispatch.lean ====
section
/-!
DEFINITION. One arm per command: its meaning.
-/

namespace Sys2Proof.Machine

def exec (i : Instr) (s : State) : Host.Outcome State Fault Refusal :=
  match i with
  -- the resets
  | .poolReset => Sys2Proof.Machine.execPoolReset s
  | .powerOn => Sys2Proof.Machine.execPowerOn s
  | .stationReset => Sys2Proof.Machine.execStationReset s
  -- the local port
  | .localRequestAcceptance tag code addr lenField data => Sys2Proof.Machine.execLocalRequestAcceptance tag code addr lenField data s
  | .join tag => Sys2Proof.Machine.execJoin tag s
  | .quiesce tag => Sys2Proof.Machine.execQuiesce tag s
  | .resume tag => Sys2Proof.Machine.execResume tag s
  | .clearLog tag => Sys2Proof.Machine.execClearLog tag s
  | .faultLogPop tag => Sys2Proof.Machine.execFaultLogPop tag s
  | .stationStatusRead tag => Sys2Proof.Machine.execStationStatusRead tag s
  | .eventEnableWrite tag value => Sys2Proof.Machine.execEventEnableWrite tag value s
  | .registerWrite tag offset value => Sys2Proof.Machine.execRegisterWrite tag offset value s
  -- the pool bus
  | .contention peers own => Sys2Proof.Machine.execContention peers own s
  | .requestArrival bytes => Sys2Proof.Machine.execRequestArrival bytes s
  | .answerWindowClose driven => Sys2Proof.Machine.execAnswerWindowClose driven s
  | .announceClose driven => Sys2Proof.Machine.execAnnounceClose driven s
  | .readyClose driven => Sys2Proof.Machine.execReadyClose driven s
  | .dataMessageArrival bytes => Sys2Proof.Machine.execDataMessageArrival bytes s
  | .acknowledgementWindowClose dest home => Sys2Proof.Machine.execAcknowledgementWindowClose dest home s
  -- the memory port and the timers
  | .memoryCompletion ok => Sys2Proof.Machine.execMemoryCompletion ok s
  | .dataTimerExpiry tag => Sys2Proof.Machine.execDataTimerExpiry tag s
  | .awaitingDataTimerExpiry line => Sys2Proof.Machine.execAwaitingDataTimerExpiry line s
  | .pinTimerExpiry line => Sys2Proof.Machine.execPinTimerExpiry line s
  | .enrolmentTimerExpiry => Sys2Proof.Machine.execEnrolmentTimerExpiry s
  -- the station's own steps
  | .headJudgedAgain => Sys2Proof.Machine.execHeadJudgedAgain s
  | .sqPlaceGiven => Sys2Proof.Machine.execSqPlaceGiven s
  | .conversionToReturn => Sys2Proof.Machine.execConversionToReturn s
  | .victimRecall => Sys2Proof.Machine.execVictimRecall s
  | .quiesceWalk => Sys2Proof.Machine.execQuiesceWalk s
  | .quiescedEntry => Sys2Proof.Machine.execQuiescedEntry s

end Sys2Proof.Machine
end

