-- ==== Sys2Proof/Safety.lean ====
section
/-!
DEFINITION. The invariants that statements are made about (the device's laws as far as one station keeps them), and the conditions
under which an event has nothing to bring about beyond its own effect.
-/

namespace Sys2Proof.Machine

/-! ### Invariants -/

/-- The home memory is in its canonical form. -/
def State.memoryCanonical (s : State) : Bool := Memory.wf s.home.mem

/-- The LRQ holds at most 8 requests and the Fault Log at most 8 records (R159, R165). -/
def State.portBounded (s : State) : Bool := s.lpu.lrq.length ≤ 8 && s.lpu.log.length ≤ 8

/-- SQ entries and held places together number at most 8 (R51). -/
def State.sqBounded (s : State) : Bool := s.bus.sq.length + s.sqHeld ≤ 8

/-- The RQ holds at most 4 entries, the Pin Table at most 2, and every waiting list at most 4 requests (R120, R133, R61). -/
def State.tablesBounded (s : State) : Bool :=
  s.ret.rq.length ≤ 4 && s.cache.pins.length ≤ 2 &&
    s.engine.prt.toList.all fun x => match x.entry with
      | some e => decide (e.waiting.length ≤ 4)
      | none => true

/-- Where the home judged Clear for a request whose close queues work, it holds the place (R98, R100). -/
def Window.homeHolds (w : Window) : Bool :=
  match w.msg with
  | some (_, .line .promote _ _ _) => true
  | some (_, .line .recall _ _ _) => true
  | some (_, .announce _ _) => true
  | some (_, .ready _) => true
  | some (_, .line .fetch _ _ _) => !w.record.home || w.record.homeHold
  | some (_, .line .claim _ _ _) => !w.record.home || w.record.homeHold
  | some (_, .giveBack _ _) => !w.record.home || w.record.homeHold
  | some (_, .directRead _ _ _ _ _) => !w.record.home || w.record.homeHold
  | some (_, .directWrite _ _ _ _ _) => !w.record.home || w.record.homeHold
  | none => true

/-- HWQ entries and held places together number at most 16 (R103), and an open window holds the place its close may fill. -/
def State.hwqBounded (s : State) : Bool :=
  s.home.hwq.length + s.hwqHeld ≤ 16 &&
    match s.bus.medium with
    | .answering w => w.homeHolds
    | .idle => true
    | .sent _ => true
    | .acking _ => true

/-- Outside Operational, Quiescing and Quiesced the Segment Table is all unmapped and the enrolled set empty (R4, R145). -/
def State.outsideUnmapped (s : State) : Bool :=
  s.ctl.mode.member || ((s.segments.toList.all fun x => x == .unmapped) && s.ctl.enrolled == 0)

/-! ### Nothing left to happen -/

/-- The quiesce walk, in Quiescing, stays where it is: it may not begin, it must wait at its way, or it is done and the station may not
yet be Quiesced (R129 to R131). -/
def State.walkStays (s : State) : Bool :=
  match s.ret.walk with
  | .notBegun => !s.walkMayBegin
  | .atWay p =>
    p < 2048 && match s.walkAt p with
      | .empty => false
      | .reserved _ => true
      | .holding l st _ => s.underAnswer l || s.inTransit l || (st == .altered && !s.rqFree)
  | .done => !s.mayBeQuiesced

/-- Nothing waits that an event would bring about: no conversion or asker that could be given its place, no memory operation or victim
recall that could begin, and no quiesce walk that could move. -/
def State.calm (s : State) : Bool :=
  !(s.bus.sq.any (·.converting) && s.rqFree) && (s.bus.askers.isEmpty || !s.sqFree) &&
    (s.home.port != .idle || s.home.hwq.isEmpty) && (s.nextVictim.isNone || s.freeTag.isNone) &&
    (s.ctl.mode != .quiescing || s.walkStays)

/-- No local request waits in the LRQ. -/
def State.portEmpty (s : State) : Bool := s.lpu.lrq.isEmpty && s.lpu.head.isNone && s.lpu.pinRecall.isNone

/-- Nothing is left to happen in the station before the next command. -/
def State.still (s : State) : Bool := s.calm && s.portEmpty

/-- No PRT entry holds a timer expiry back (R80). -/
def State.noHeldExpiry (s : State) : Bool :=
  s.engine.prt.toList.all fun x => match x.entry with
    | some e => !e.expiryHeld
    | none => true

/-! ### A local request that meets a station with nothing left to happen -/

/-- The request that a local request in the pool window becomes in the LRQ, with its pool address (R156, R157). -/
def poolRequest (base : BitVec 40) (tag : PTag) (code : BitVec 3) (addr : LocalAddr) (lenField : BitVec 6) (data : List Byte) :
    Option LocalReq :=
  match classify base code addr, LocalOp.ofCode code with
  | .pool a, some op => some { tag := tag, op := op, addr := a, len := lenField.toNat + 1, data := data }
  | .pool _, none => none
  | .noOperation, _ => none
  | .control _, _ => none
  | .neither, _ => none

/-- The station would accept a pool request with this tag by checks 1 to 3 of R157. -/
def State.takesPool (s : State) (tag : PTag) : Bool :=
  s.ctl.mode != .parked && s.ctl.mode != .isolated && !s.tagInUse tag

/-- A local request is accepted at a station with nothing left to happen, and becomes the head as `r`. -/
def State.accepts (s : State) (tag : PTag) (code : BitVec 3) (addr : LocalAddr) (lenField : BitVec 6) (data : List Byte)
    (r : LocalReq) : Bool :=
  s.still && s.takesPool tag && poolRequest s.ctl.start.base tag code addr lenField data == some r

/-- A local request is accepted at a station with nothing left to happen, becomes the head, and passes on by check 6 of R7. -/
def State.passesOn (s : State) (tag : PTag) (code : BitVec 3) (addr : LocalAddr) (lenField : BitVec 6) (data : List Byte)
    (d : Decoded) : Bool :=
  s.still && s.takesPool tag &&
    match poolRequest s.ctl.start.base tag code addr lenField data with
    | some r => s.decode r == .pass d
    | none => false

/-- The tags in use once a request with this tag has been accepted (R158). -/
def State.tagsWith (s : State) (tag : PTag) : BitVec 32 := s.lpu.tags ||| (1#32 <<< tag.toNat)

/-- The tags in use once a request with this tag has been answered (R158). -/
def State.tagsWithout (s : State) (tag : PTag) : BitVec 32 := s.lpu.tags &&& ~~~(1#32 <<< tag.toNat)

/-- No PRT entry, RQ entry, in-transit SQ entry or open window concerns the line (R19, R122). -/
def State.lineFree (s : State) (l : LineNo) : Bool :=
  (s.findEntry l).isNone && (s.findRq l).isNone && !s.inTransit l && !s.underAnswer l

/-! ### What a command leaves -/

/-- A data message as it stands in the SQ when it has just been placed: no try made, its parties owed (R51). -/
def newSqEntry (m : DataMsg) (onlyFresh : Bool) : SqEntry :=
  { msg := m, onlyFresh := onlyFresh, tries := 0, destState := .owed, homeState := .owed, converting := false }

/-- The acknowledgement window of a peer's message that this station has answered Taken in the destination position (R48, R49). -/
def ackTaken (m : DataMsg) : Medium := .acking { own := false, homeTake := m.homeTake, dest := some .taken, home := none }

/-- The memory port once the entries before these have left the HWQ: it is busy with the first of them, or idle (R104). -/
def portOver (hwq : List HwqEntry) : MemPort := if hwq = [] then .idle else .busy

/-- The set of a home line once its entry is created or set with a class, its awaiting-data flag set where a timeout is given (R101,
R108). -/
def State.exportSetAs (s : State) (l : LineNo) (c : ExportClass) (timeout : Option (BitVec 11)) : List ExportEntry :=
  if s.findExport l = none then s.exportSet l ++ [{ line := l, cls := c, state := .none, awaiting := timeout }]
  else (s.exportSet l).map fun x => if x.line = l then { x with cls := c, awaiting := timeout.or x.awaiting } else x

/-- The station once a close has left a home line's set as `es`, work on the line has joined the tail of the HWQ, and an idle memory port
has begun it (R101, R102, R104). -/
def State.afterHomeClose (s : State) (l : LineNo) (es : List ExportEntry) (work : List HwqWork) : State :=
  { s with
    home :=
      { s.home with
        exports := put s.home.exports (exportIndex l) es
        hwq := s.home.hwq ++ work.map fun w => { addr := s.memAddr l 0, work := w }
        port := if s.home.port = .idle ∧ work ≠ [] then .busy else s.home.port }
    bus.medium := .idle
    out := { responses := [], sent := none } }

/-! ### What a command gives out -/

/-- What a command gives out when it gives one response and sends nothing. -/
def oneResponse (tag : PTag) (st : Status) (p : Payload) : Outputs :=
  { responses := [{ tag := tag, status := st, payload := p }], sent := none }

/-- What a command gives out when it answers requests with OK and no data (R124, R126). -/
def allOk (tags : List PTag) : Outputs :=
  { responses := tags.map fun t => { tag := t, status := .ok, payload := .none }, sent := none }

/-- The tags in use once requests with these tags have been answered (R158). -/
def State.tagsWithoutAll (s : State) (tags : List PTag) : BitVec 32 := tags.foldl (fun v t => v &&& ~~~(1#32 <<< t.toNat)) s.lpu.tags

/-- What a command gives out when it answers requests with one status and no data (R70, R73, R80, R118). -/
def allAnswered (tags : List PTag) (st : Status) : Outputs :=
  { responses := tags.map fun t => { tag := t, status := st, payload := .none }, sent := none }

/-- What a command gives out when it gives nothing. -/
def noOutput : Outputs := { responses := [], sent := none }

/-! ### A waiting list served, and one that fails -/

/-- What a waiting list has left of its line and of the pins, and the responses given, at some place of the list. -/
structure Served where
  line      : LineData
  /-- Has a Write or a Pinned Write been merged? -/
  altered   : Bool
  pins      : List PinEntry
  responses : List Response
  deriving DecidableEq, Repr

/-- A response with status OK. -/
def okResponse (tag : PTag) (p : Payload) : Response := { tag := tag, status := .ok, payload := p }

/-- One request of the list at its turn (R68, R71, R135, R138): a read kind gets its bytes as the line stands after those before it, a
Pinned Read makes its line's pin held, a Write is merged, a Pinned Write is merged and ends a held pin, or is PIN_LOST. -/
def Served.next (limit : BitVec 8) (l : LineNo) (q : Served) (i : Item) : Served :=
  let bytes : Payload := .bytes ((q.line.toList.drop i.offset.toNat).take i.len)
  let merged := q.line.merge i.offset.toNat i.data
  match i.op with
  | .read => { q with responses := q.responses ++ [okResponse i.tag bytes] }
  | .write => { q with line := merged, altered := true, responses := q.responses ++ [okResponse i.tag .none] }
  | .pinnedRead =>
    { q with
      pins := q.pins.map fun p => if p.line = l then { p with held := true, timer := some limit } else p
      responses := q.responses ++ [okResponse i.tag bytes] }
  | .pinnedWrite =>
    if ∃ p, q.pins.find? (·.line == l) = some p ∧ p.held = true then
      { line := merged, altered := true, pins := q.pins.filter fun p => p.line != l
        responses := q.responses ++ [okResponse i.tag .none] }
    else { q with responses := q.responses ++ [{ tag := i.tag, status := .pinLost, payload := .none }] }
  | .flushLine => q

/-- A waiting list served in its order against a line (R61). -/
def servedBy (limit : BitVec 8) (l : LineNo) (pins : List PinEntry) (x : LineData) (items : List Item) : Served :=
  items.foldl (Served.next limit l) { line := x, altered := false, pins := pins, responses := [] }

/-- The station once every request of an entry's list has been answered with a failing status: a reserved way is empty, a pending pin of
the list is removed, and the records are added (R70, R73, R80, R135). -/
def State.afterFailing (s : State) (e : PrtEntry) (st : Status) (records : List FaultRecord) : State :=
  { s with
    lpu := { s.lpu with tags := s.tagsWithoutAll (e.waiting.map (·.tag)), log := s.lpu.log ++ records }
    cache :=
      { sets := (match e.way with
          | some v => if e.kind = .fetch ∨ e.kind = .claim then s.setWay e.line v .empty else s
          | none => s : State).cache.sets
        pins := if e.waiting.any fun i => i.op == .pinnedRead then s.cache.pins.filter fun p => p.line != e.line else s.cache.pins }
    out := allAnswered (e.waiting.map (·.tag)) st }

/-- The Fault Log record of an entry that ends by its timer or its retries (R70, R80): a recall made for a victim or a pin has no tag. -/
def State.endRecord (s : State) (e : PrtEntry) (kind : FaultKind) : FaultRecord :=
  { kind := kind, line := some e.line, segment := some (segmentOf e.line), peer := s.homeOf e.line
    tag := if e.origin = .request then e.waiting.head?.map (·.tag) else none }

/-- The sets of the Export Table once an entry has ended without completing: a recall leaves its line's recall state none (R118). -/
def State.exportsAfterEnd (s : State) (e : PrtEntry) : Table (List ExportEntry) 7 :=
  if e.kind = .recall then
    put s.home.exports (exportIndex e.line)
      ((s.exportSet e.line).map fun x => if x.line = e.line then { x with state := .none } else x)
  else s.home.exports

/-- The message that tells a follower that no data will come (R90). -/
def abandonedFor (f : Follower) (l : LineNo) : DataMsg :=
  { dest := f.station, tag := f.tag, gen := f.gen, line := l, grant := .none, homeTake := false, status := .abandoned, data := none }

/-- An entry that has ended and waits for an SQ place for its follower's Abandoned message (R65, R90). -/
def PrtEntry.ended (e : PrtEntry) : PrtEntry :=
  { e with phase := .finishing, timer := none, expiryHeld := false, expected := none, waiting := [], way := none, owes := .abandoned }

/-- The station once a local request has been accepted and waits at the LRQ head (R157, R159). -/
def State.headWaiting (s : State) (tag : PTag) (r : LocalReq) (d : Decoded) : State :=
  { s with lpu := { s.lpu with lrq := [r], head := some d, tags := s.tagsWith tag }, out := noOutput }

end Sys2Proof.Machine
end

