-- ==== Sys2Proof/Certificates/Slice0/Obligations.lean ====
section
/-!
DEFINITION. The statements for the provers. A statement that gives a command's result says that `exec` answers a next state, and gives
that whole state: what it does not write over is unchanged. Such a statement holds where nothing is left to happen beyond the
command's own effect (`State.still`, `State.calm`); what may follow in the same event is stated apart.
-/

open Sys2Proof Sys2Proof.Machine

/-! ### The machine -/

/-- The reset state satisfies every invariant stated below. -/
def Obligations.ResetSatisfiesInvariants : Prop :=
  State.reset.memoryCanonical = true ∧ State.reset.portBounded = true ∧ State.reset.sqBounded = true ∧
    State.reset.tablesBounded = true ∧ State.reset.hwqBounded = true ∧ State.reset.outsideUnmapped = true

/-- A step runs the command at the front of the queue on the state with the queue's rest; with an empty queue the station idles (the
model's choice, log 3). -/
def Obligations.StepRunsFrontCommand : Prop :=
  (∀ (c : Instr) (rest : List Instr) (s : State),
    step { s with pending := c :: rest } = exec c { s with pending := rest }) ∧
  ∀ s : State, step { s with pending := [] } = .next { s with pending := [] }

/-- Every step keeps the home memory in its canonical form. -/
def Obligations.StepKeepsMemoryCanonical : Prop :=
  ∀ s t : State, s.memoryCanonical = true → step s = .next t → t.memoryCanonical = true

/-- Every step keeps the LRQ and the Fault Log within their 8 places each (R159, R165), and the RQ within 4 entries, the Pin Table within 2
and every waiting list within 4 (R120, R133, R61). -/
def Obligations.StepKeepsTablesBounded : Prop :=
  (∀ s t : State, s.portBounded = true → step s = .next t → t.portBounded = true) ∧
  (∀ s t : State, s.tablesBounded = true → step s = .next t → t.tablesBounded = true)

/-- Every step keeps SQ entries and held places together within 8 (R51). -/
def Obligations.StepKeepsSqBounded : Prop :=
  ∀ s t : State, s.sqBounded = true → step s = .next t → t.sqBounded = true

/-- Every step keeps HWQ entries and held places together within 16 (R103). -/
def Obligations.StepKeepsHwqBounded : Prop :=
  ∀ s t : State, s.hwqBounded = true → step s = .next t → t.hwqBounded = true

/-- Every step keeps the Segment Table unmapped and the enrolled set empty outside Operational, Quiescing and Quiesced (R4, R145). -/
def Obligations.StepKeepsOutsideUnmapped : Prop :=
  ∀ s t : State, s.outsideUnmapped = true → step s = .next t → t.outsideUnmapped = true

/-! ### The resets -/

/-- A pool reset and power-on leave every block at its reset value and the station Dormant, a station reset the same and the station
Parked; the home memory keeps every byte but those of a memory write in progress, and the memory fitted and the waiting commands are as
they were (R155, R107). Of a write in progress each byte is old or new, and no byte of it is new where no memory is fitted; the bytes of a
whole-line or masked write are all old or all new (R107), those of a local-write each for itself (R161). Which of these it is, is a free
value (log 10). -/
def Obligations.ResetResults : Prop :=
  ∀ s : State, ∃ (m : List Host.Cell) (n : Nat) (t : State),
    t = { State.reset with
          home := { State.reset.home with mem := m, fitted := s.home.fitted }
          fresh := n, pending := s.pending } ∧
    exec .poolReset s = .next t ∧ exec .powerOn s = .next t ∧ exec .stationReset s = .next { t with ctl.mode := .parked } ∧
    (∀ a : Nat, (s.home.port = .busy → ∀ e ∈ s.home.hwq.head?, ∀ p ∈ e.stores, p.1 ≠ a) →
      Memory.read m a = Memory.read s.home.mem a) ∧
    ∀ e ∈ s.home.hwq.head?, s.home.port = .busy → s.memoryCanonical = true →
      (∀ p ∈ e.stores,
        Memory.read m p.1 = Memory.read s.home.mem p.1 ∨ (p.1 < s.home.fitted ∧ Memory.read m p.1 = p.2)) ∧
      ((∀ l tag off n bs, e.work ≠ .localWrite l tag off n bs) →
        (∀ p ∈ e.stores, Memory.read m p.1 = Memory.read s.home.mem p.1) ∨
          ∀ p ∈ e.stores, p.1 < s.home.fitted → Memory.read m p.1 = p.2)

/-- A Parked station stays Parked until a pool reset or power-on, and never changes its last-winner number (R145, R155, R39). -/
def Obligations.ParkedUntilPoolReset : Prop :=
  ∀ (c : Instr) (s t : State), s.ctl.mode = .parked → c ≠ .poolReset → c ≠ .powerOn → exec c s = .next t →
    t.ctl.mode = .parked ∧ (c ≠ .stationReset → t.bus.lastWinner = s.bus.lastWinner)

/-! ### The local port: addresses and acceptance -/

/-- R1: how a pool address is split. R156: the operation code is judged first, then the control window, then the pool window at the base;
a request that names no operation, or whose address lies in neither window, is refused ACCESS in every station state, and nothing else
changes; what a request in the pool window becomes. R7, R13: a request that passes the checks of its decode carries its line, segment,
home, kind, path, home memory address (R5), offset, length and bytes, the path being home where this station is the home, and else the
segment's kind; a Flush Line on the home path or the remote direct path is answered OK at decode. -/
def Obligations.LocalRequestClassifiedAndDecoded : Prop :=
  (∀ (base : BitVec 40) (code : BitVec 3) (addr : LocalAddr),
      (5 ≤ code.toNat → classify base code addr = .noOperation) ∧
      (code.toNat < 5 → 0xFFFFFFF000 ≤ addr.toNat →
        ∃ o : BitVec 12, classify base code addr = .control o ∧ o.toNat = addr.toNat - 0xFFFFFFF000) ∧
      (code.toNat < 5 → addr.toNat < 0xFFFFFFF000 → base.toNat ≤ addr.toNat → addr.toNat < base.toNat + 2 ^ 34 →
        ∃ a : PoolAddr, classify base code addr = .pool a ∧ a.toNat = addr.toNat - base.toNat) ∧
      (code.toNat < 5 → addr.toNat < 0xFFFFFFF000 → (addr.toNat < base.toNat ∨ base.toNat + 2 ^ 34 ≤ addr.toNat) →
        classify base code addr = .neither)) ∧
  (∀ (s : State) (tag : PTag) (code : BitVec 3) (addr : LocalAddr) (len : BitVec 6) (data : List Byte),
      (classify s.ctl.start.base code addr = .noOperation ∨ classify s.ctl.start.base code addr = .neither) →
      exec (.localRequestAcceptance tag code addr len data) s = .next { s with out := oneResponse tag .access .none }) ∧
  (∀ (base : BitVec 40) (tag : PTag) (code : BitVec 3) (addr : LocalAddr) (len : BitVec 6) (data : List Byte) (a : PoolAddr),
      classify base code addr = .pool a →
      poolRequest base tag code addr len data =
        some
          { tag := tag, addr := a, len := len.toNat + 1, data := data
            op := if code = 0 then .read else if code = 1 then .write else if code = 2 then .pinnedRead
              else if code = 3 then .pinnedWrite else .flushLine }) ∧
  (∀ (s : State) (r : LocalReq) (home : StationNo) (acc : Access) (k : SegKind) (i : BitVec 4) (path : Path) (m : MemAddr),
      (r.op = .flushLine ∨ (offsetOfAddr r.addr).toNat + r.len ≤ 64) →
      s.segmentEntry (lineOfAddr r.addr) = .mapped home acc k i → acc.permits r.op = true →
      ¬((r.op = .pinnedRead ∨ r.op = .pinnedWrite) ∧ k = .direct) →
      ((s.ctl.mode ≠ .quiescing ∧ s.ctl.mode ≠ .quiesced) ∨
        ¬(r.op = .pinnedRead ∨
          (home ≠ s.number ∧ ¬(r.op = .pinnedWrite ∧ ∃ p ∈ s.cache.pins, p.line = lineOfAddr r.addr)))) →
      path = (if home = s.number then .home else if k = .cached then .cached else .direct) →
      m.toNat = i.toNat * 2 ^ 26 + r.addr.toNat % 2 ^ 26 →
      ((r.op ≠ .flushLine ∨ path = .cached) →
        s.decode r = .pass
          { item := { tag := r.tag, op := r.op, offset := offsetOfAddr r.addr, len := r.len, data := r.data.take r.len }
            line := lineOfAddr r.addr, segment := segmentOf (lineOfAddr r.addr), home := home, kind := k, path := path
            memAddr := m }) ∧
      (r.op = .flushLine → path ≠ .cached →
        s.decode r = .flushOk ∧
        ∀ (tag : PTag) (code : BitVec 3) (addr : LocalAddr) (len : BitVec 6) (data : List Byte),
          s.accepts tag code addr len data r = true →
          exec (.localRequestAcceptance tag code addr len data) s = .next { s with out := oneResponse tag .ok .none })) ∧
  ∀ a : PoolAddr,
      (offsetOfAddr a).toNat = a.toNat % 64 ∧
      (lineOfAddr a).toNat = a.toNat / 64 ∧
      (segmentOf (lineOfAddr a)).toNat = a.toNat / 2 ^ 26 ∧
      (segmentOf (lineOfAddr a)).toNat = (lineOfAddr a).toNat / 2 ^ 20 ∧
      (lineInSegment (lineOfAddr a)).toNat = (lineOfAddr a).toNat % 2 ^ 20 ∧
      (lineInSegment (lineOfAddr a)).toNat * 64 + (offsetOfAddr a).toNat = a.toNat % 2 ^ 26 ∧
      (rlcIndex (lineOfAddr a)).toNat = (lineOfAddr a).toNat % 256 ∧
      (exportIndex (lineOfAddr a)).toNat = (lineOfAddr a).toNat % 128

/-- R157: a pool request refused at acceptance by checks 1 to 4 is answered, and nothing else changes; one accepted behind other requests
joins the tail of the LRQ, its tag enters the set of tags in use, and nothing else changes. R162: a control command or control request
whose tag is in use is refused TAG_IN_USE, and nothing else changes. -/
def Obligations.AcceptanceOutcomes : Prop :=
  (∀ (s : State) (tag : PTag) (code : BitVec 3) (addr : LocalAddr) (len : BitVec 6) (data : List Byte) (a : PoolAddr),
      classify s.ctl.start.base code addr = .pool a →
      (s.ctl.mode = .parked →
        exec (.localRequestAcceptance tag code addr len data) s = .next { s with out := oneResponse tag .wrongState .none }) ∧
      (s.ctl.mode = .isolated →
        exec (.localRequestAcceptance tag code addr len data) s = .next { s with out := oneResponse tag .isolated .none }) ∧
      (s.ctl.mode ≠ .parked → s.ctl.mode ≠ .isolated → s.tagInUse tag = true →
        exec (.localRequestAcceptance tag code addr len data) s = .next { s with out := oneResponse tag .tagInUse .none }) ∧
      (s.takesPool tag = true → 8 ≤ s.lpu.lrq.length →
        exec (.localRequestAcceptance tag code addr len data) s = .next { s with out := oneResponse tag .full .none })) ∧
  (∀ (s : State) (tag : PTag) (code : BitVec 3) (addr : LocalAddr) (len : BitVec 6) (data : List Byte) (r : LocalReq),
      poolRequest s.ctl.start.base tag code addr len data = some r → s.takesPool tag = true →
      s.lpu.lrq ≠ [] → s.lpu.lrq.length < 8 →
      exec (.localRequestAcceptance tag code addr len data) s = .next
        { s with
          lpu := { s.lpu with lrq := s.lpu.lrq ++ [r], tags := s.tagsWith tag }
          out := noOutput }) ∧
  ∀ (s : State) (tag : PTag), s.tagInUse tag = true →
    (∀ c ∈ [Instr.join tag, .quiesce tag, .resume tag, .clearLog tag, .faultLogPop tag, .stationStatusRead tag],
      exec c s = .next { s with out := oneResponse tag .tagInUse .none }) ∧
    (∀ v, exec (.eventEnableWrite tag v) s = .next { s with out := oneResponse tag .tagInUse .none }) ∧
    (∀ o v, exec (.registerWrite tag o v) s = .next { s with out := oneResponse tag .tagInUse .none }) ∧
    ∀ (code : BitVec 3) (addr : LocalAddr) (len : BitVec 6) (data : List Byte) (o : BitVec 12),
      classify s.ctl.start.base code addr = .control o →
      exec (.localRequestAcceptance tag code addr len data) s = .next { s with out := oneResponse tag .tagInUse .none }

/-! ### Decode -/

/-- R8: MISALIGNED, at decode and at the acceptance of a request that becomes the head. -/
def Obligations.MisalignedRequestAnswered : Prop :=
  (∀ (s : State) (r : LocalReq),
    (r.op ≠ .flushLine ∧ 64 < (offsetOfAddr r.addr).toNat + r.len → s.decode r = .refuse .misaligned .none) ∧
    (¬(r.op ≠ .flushLine ∧ 64 < (offsetOfAddr r.addr).toNat + r.len) → ∀ p, s.decode r ≠ .refuse .misaligned p)) ∧
  (∀ (s : State) (r : LocalReq) (rest : List LocalReq),
    s.lpu.lrq = r :: rest → s.lpu.head = none → r.op ≠ .flushLine → 64 < (offsetOfAddr r.addr).toNat + r.len →
    s.headOnce =
      ({ s with
         lpu := { s.lpu with lrq := rest, head := none, pinRecall := none, tags := s.tagsWithout r.tag }
         out := { s.out with responses := s.out.responses ++ [{ tag := r.tag, status := .misaligned, payload := .none }] } },
       true)) ∧
  ∀ (s : State) (tag : PTag) (code : BitVec 3) (addr : LocalAddr) (len : BitVec 6) (data : List Byte) (r : LocalReq),
    s.accepts tag code addr len data r = true → r.op ≠ .flushLine → 64 < (offsetOfAddr r.addr).toNat + r.len →
    exec (.localRequestAcceptance tag code addr len data) s = .next { s with out := oneResponse tag .misaligned .none }

/-- R9: UNMAPPED, its zero bytes, and its record, at decode and at the acceptance of a request that becomes the head. -/
def Obligations.UnmappedRequestAnswered : Prop :=
  (∀ (s : State) (r : LocalReq) (rest : List LocalReq),
    s.lpu.lrq = r :: rest → s.lpu.head = none → (r.op = .flushLine ∨ (offsetOfAddr r.addr).toNat + r.len ≤ 64) →
    (s.segmentEntry (lineOfAddr r.addr) = .unmapped ∨ s.segmentEntry (lineOfAddr r.addr) = .contested) →
    s.headOnce =
      ({ s with
         lpu :=
           { s.lpu with
             lrq := rest, head := none, pinRecall := none, tags := s.tagsWithout r.tag
             log :=
               if s.lpu.log.length < 8 then
                 s.lpu.log ++ [{ kind := .unmappedAccess, line := some (lineOfAddr r.addr),
                                 segment := some (segmentOf (lineOfAddr r.addr)), peer := none, tag := some r.tag }]
               else s.lpu.log
             overflow := if s.lpu.log.length < 8 then s.lpu.overflow else true }
         out :=
           { s.out with
             responses := s.out.responses ++
               [{ tag := r.tag, status := .unmapped,
                  payload := if r.op = .read ∨ r.op = .pinnedRead then .bytes (List.replicate r.len 0) else .none }] } },
       true)) ∧
  ∀ (s : State) (tag : PTag) (code : BitVec 3) (addr : LocalAddr) (len : BitVec 6) (data : List Byte) (r : LocalReq),
    s.accepts tag code addr len data r = true → (r.op = .flushLine ∨ (offsetOfAddr r.addr).toNat + r.len ≤ 64) →
    (s.segmentEntry (lineOfAddr r.addr) = .unmapped ∨ s.segmentEntry (lineOfAddr r.addr) = .contested) →
    exec (.localRequestAcceptance tag code addr len data) s = .next
      { s with
        lpu :=
          { s.lpu with
            log :=
              if s.lpu.log.length < 8 then
                s.lpu.log ++ [{ kind := .unmappedAccess, line := some (lineOfAddr r.addr),
                                segment := some (segmentOf (lineOfAddr r.addr)), peer := none, tag := some tag }]
              else s.lpu.log
            overflow := if s.lpu.log.length < 8 then s.lpu.overflow else true }
        out := oneResponse tag .unmapped
          (if r.op = .read ∨ r.op = .pinnedRead then .bytes (List.replicate r.len 0) else .none) }

/-- R10: which kinds an access permits, and the answer to the others, at decode and at the acceptance of a request that becomes the head. -/
def Obligations.AccessCheckAnswered : Prop :=
  (∀ (a : Access),
    (a.permits .read = true ↔ a = .readOnly ∨ a = .readWrite) ∧
    (a.permits .write = true ↔ a = .writeOnly ∨ a = .readWrite) ∧
    (a.permits .pinnedRead = true ↔ a = .readWrite) ∧
    (a.permits .pinnedWrite = true ↔ a = .readWrite) ∧
    (a.permits .flushLine = true ↔ a = .readOnly ∨ a = .writeOnly ∨ a = .readWrite)) ∧
  (∀ (s : State) (r : LocalReq) (rest : List LocalReq) (home : StationNo) (a : Access) (k : SegKind) (i : BitVec 4),
    s.lpu.lrq = r :: rest → s.lpu.head = none → (r.op = .flushLine ∨ (offsetOfAddr r.addr).toNat + r.len ≤ 64) →
    s.segmentEntry (lineOfAddr r.addr) = .mapped home a k i →
    (a.permits r.op = false →
      s.headOnce =
        ({ s with
           lpu := { s.lpu with lrq := rest, head := none, pinRecall := none, tags := s.tagsWithout r.tag }
           out := { s.out with responses := s.out.responses ++ [{ tag := r.tag, status := .access, payload := .none }] } },
         true)) ∧
    (a.permits r.op = true → ∀ p, s.decode r ≠ .refuse .access p)) ∧
  ∀ (s : State) (tag : PTag) (code : BitVec 3) (addr : LocalAddr) (len : BitVec 6) (data : List Byte) (r : LocalReq)
    (home : StationNo) (a : Access) (k : SegKind) (i : BitVec 4),
    s.accepts tag code addr len data r = true → (r.op = .flushLine ∨ (offsetOfAddr r.addr).toNat + r.len ≤ 64) →
    s.segmentEntry (lineOfAddr r.addr) = .mapped home a k i → a.permits r.op = false →
    exec (.localRequestAcceptance tag code addr len data) s = .next { s with out := oneResponse tag .access .none }

/-- R11: NOT_CACHEABLE, at decode and at the acceptance of a request that becomes the head. -/
def Obligations.PinnedRequestToDirectSegment : Prop :=
  (∀ (s : State) (r : LocalReq) (rest : List LocalReq) (home : StationNo) (a : Access) (k : SegKind) (i : BitVec 4),
    s.lpu.lrq = r :: rest → s.lpu.head = none → (r.op = .flushLine ∨ (offsetOfAddr r.addr).toNat + r.len ≤ 64) →
    s.segmentEntry (lineOfAddr r.addr) = .mapped home a k i → a.permits r.op = true →
    ((r.op = .pinnedRead ∨ r.op = .pinnedWrite) ∧ k = .direct →
      s.headOnce =
        ({ s with
           lpu := { s.lpu with lrq := rest, head := none, pinRecall := none, tags := s.tagsWithout r.tag }
           out := { s.out with responses := s.out.responses ++ [{ tag := r.tag, status := .notCacheable, payload := .none }] } },
         true)) ∧
    (¬((r.op = .pinnedRead ∨ r.op = .pinnedWrite) ∧ k = .direct) → ∀ p, s.decode r ≠ .refuse .notCacheable p)) ∧
  ∀ (s : State) (tag : PTag) (code : BitVec 3) (addr : LocalAddr) (len : BitVec 6) (data : List Byte) (r : LocalReq)
    (home : StationNo) (a : Access) (i : BitVec 4),
    s.accepts tag code addr len data r = true → (offsetOfAddr r.addr).toNat + r.len ≤ 64 →
    s.segmentEntry (lineOfAddr r.addr) = .mapped home a .direct i → a.permits r.op = true →
    (r.op = .pinnedRead ∨ r.op = .pinnedWrite) →
    exec (.localRequestAcceptance tag code addr len data) s = .next { s with out := oneResponse tag .notCacheable .none }

/-! ### The local port: what a request comes to -/

/-- R20: a Read hit. R21: a Write hit on a Sole or Altered line. -/
def Obligations.CachedHitOutcomes : Prop :=
  (∀ (s : State) (tag : PTag) (code : BitVec 3) (addr : LocalAddr) (len : BitVec 6) (data : List Byte) (d : Decoded) (w : WayNo)
      (st : LineState) (x : LineData),
      s.passesOn tag code addr len data d = true → d.path = .cached → d.item.op = .read →
      s.findEntry d.line = none → s.findRq d.line = none → s.inTransit d.line = false → s.held d.line = some (w, st, x) →
      exec (.localRequestAcceptance tag code addr len data) s = .next
        { s with
          cache := (s.touch d.line w).cache
          out := oneResponse tag .ok (.bytes ((x.toList.drop d.item.offset.toNat).take d.item.len)) }) ∧
  (∀ (s : State) (tag : PTag) (code : BitVec 3) (addr : LocalAddr) (len : BitVec 6) (data : List Byte) (d : Decoded) (w : WayNo)
      (st : LineState) (x : LineData),
      s.passesOn tag code addr len data d = true → d.path = .cached → d.item.op = .write →
      s.lineFree d.line = true → s.held d.line = some (w, st, x) → st ≠ .copy →
      exec (.localRequestAcceptance tag code addr len data) s = .next
        { s with
          cache := ((s.setWay d.line w (.holding d.line .altered (x.merge d.item.offset.toNat d.item.data))).touch d.line w).cache
          out := oneResponse tag .ok .none })

/-- R22 to R24, R28, R62: a miss makes a Fetch or Claim entry at the lowest-numbered free tag, reserves the victim's way, and moves an
Altered victim to the tail of the RQ; a Read starts also while its line is under answer. That the RQ entry joins the send list before the
new PRT entry is the model's (log 33). R23: the victim is the lowest-numbered empty way, and where there is none a replaceable way least
recently used. R19, R24, R62, R122: a request whose line has an RQ entry or is in transit, a Write whose line is under answer, and a miss
or a Promote for which a way, an RQ entry or a PRT entry is wanting wait at the head. -/
def Obligations.MissMakesEntry : Prop :=
  (∀ (s : State) (tag : PTag) (code : BitVec 3) (addr : LocalAddr) (len : BitVec 6) (data : List Byte) (d : Decoded) (w : WayNo)
    (t : ReqTag),
    s.passesOn tag code addr len data d = true → d.path = .cached →
    (d.item.op = .read ∨ (d.item.op = .write ∧ s.underAnswer d.line = false)) →
    s.findEntry d.line = none → s.findRq d.line = none → s.inTransit d.line = false →
    s.held d.line = none → s.victim d.line = some w → s.freeTag = some t →
    ((∃ k x, s.wayAt d.line w = .holding k .altered x) → s.rqFree = true) →
    exec (.localRequestAcceptance tag code addr len data) s = .next
      { s with
        lpu.tags := s.tagsWith tag
        cache := ((s.setWay d.line w (.reserved d.line)).touch d.line w).cache
        engine := (s.setEntry t (.fresh (if d.item.op = .read then .fetch else .claim) d.line (some w) [d.item] .request)).engine
        ret := (match s.wayAt d.line w with | .holding k .altered x => s.addRq k x [] | _ => s).ret
        bus := ((match s.wayAt d.line w with | .holding k .altered x => s.addRq k x [] | _ => s).enqueue (.prt t)).bus
        out := noOutput }) ∧
  (∀ (s : State) (l : LineNo),
    (∀ v, s.wayAt l v = .empty → (∀ u : WayNo, u.toNat < v.toNat → s.wayAt l u ≠ .empty) → s.victim l = some v) ∧
    ((∀ v, s.wayAt l v ≠ .empty) →
      (∀ v, s.victim l = some v → s.replaceable l v = true ∧
        ∀ u, s.replaceable l u = true → (s.setOf l).use.idxOf u ≤ (s.setOf l).use.idxOf v) ∧
      (s.victim l = none → ∀ u, s.replaceable l u = false)) ∧
    (∀ v k, s.wayAt l v = .reserved k → s.replaceable l v = false) ∧
    ∀ v k st x, s.wayAt l v = .holding k st x →
      (s.replaceable l v = true ↔
        s.findEntry k = none ∧ s.pinned k = false ∧ s.underAnswer k = false ∧ s.inTransit k = false)) ∧
  ∀ (s : State) (tag : PTag) (code : BitVec 3) (addr : LocalAddr) (len : BitVec 6) (data : List Byte) (r : LocalReq) (d : Decoded),
    s.passesOn tag code addr len data d = true → s.accepts tag code addr len data r = true → d.path = .cached →
    (d.item.op = .read ∨ d.item.op = .write) → s.findEntry d.line = none →
    ((s.findRq d.line ≠ none ∨ s.inTransit d.line = true ∨ (d.item.op = .write ∧ s.underAnswer d.line = true)) →
      exec (.localRequestAcceptance tag code addr len data) s = .next (s.headWaiting tag r d)) ∧
    (s.findRq d.line = none → s.held d.line = none →
      ((s.freeTag = none ∨ s.victim d.line = none) →
        exec (.localRequestAcceptance tag code addr len data) s = .next (s.headWaiting tag r d)) ∧
      ∀ (w : WayNo) (k : LineNo) (x : LineData), s.victim d.line = some w → s.wayAt d.line w = .holding k .altered x →
        s.rqFree = false →
        exec (.localRequestAcceptance tag code addr len data) s = .next (s.headWaiting tag r d)) ∧
    ∀ (w : WayNo) (x : LineData), s.findRq d.line = none → s.held d.line = some (w, .copy, x) → d.item.op = .write → s.freeTag = none →
      exec (.localRequestAcceptance tag code addr len data) s = .next (s.headWaiting tag r d)

/-- R22, R62: a Write to a line held as Copy makes a Promote entry; a request on the remote direct path makes a direct entry, a Read also
while its line is under answer (the model's reading of R28, log 15). R62: a request on that path with no free PRT entry waits at the head;
R28: a Write on it waits there while its line is under answer. -/
def Obligations.PromoteAndDirectEntries : Prop :=
  (∀ (s : State) (tag : PTag) (code : BitVec 3) (addr : LocalAddr) (len : BitVec 6) (data : List Byte) (d : Decoded) (w : WayNo)
      (x : LineData) (t : ReqTag),
      s.passesOn tag code addr len data d = true → d.path = .cached → d.item.op = .write →
      s.lineFree d.line = true → s.held d.line = some (w, .copy, x) → s.freeTag = some t →
      exec (.localRequestAcceptance tag code addr len data) s = .next
        { s with
          lpu.tags := s.tagsWith tag
          cache := (s.touch d.line w).cache
          engine := (s.setEntry t (.fresh .promote d.line (some w) [d.item] .request)).engine
          bus := (s.enqueue (.prt t)).bus
          out := noOutput }) ∧
  (∀ (s : State) (tag : PTag) (code : BitVec 3) (addr : LocalAddr) (len : BitVec 6) (data : List Byte) (d : Decoded) (t : ReqTag),
      s.passesOn tag code addr len data d = true → d.path = .direct →
      (d.item.op = .read ∨ (d.item.op = .write ∧ s.underAnswer d.line = false)) →
      s.findEntry d.line = none → s.freeTag = some t →
      exec (.localRequestAcceptance tag code addr len data) s = .next
        { s with
          lpu.tags := s.tagsWith tag
          engine := (s.setEntry t (.fresh (if d.item.op = .read then .directRead else .directWrite) d.line none [d.item] .request)).engine
          bus := (s.enqueue (.prt t)).bus
          out := noOutput }) ∧
  (∀ (s : State) (tag : PTag) (code : BitVec 3) (addr : LocalAddr) (len : BitVec 6) (data : List Byte) (d : Decoded) (r : LocalReq),
      s.passesOn tag code addr len data d = true → s.accepts tag code addr len data r = true → d.path = .direct →
      (d.item.op = .read ∨ d.item.op = .write) →
      (s.freeTag = none ∨ (d.item.op = .write ∧ s.underAnswer d.line = true)) →
      exec (.localRequestAcceptance tag code addr len data) s = .next
        { s with lpu := { s.lpu with lrq := [r], head := some d, tags := s.tagsWith tag }, out := noOutput })

/-- R111 to R113: a Read or Write of a home line with no Export Table entry, or a Read of one that is shared-out, joins the HWQ, and an
idle memory port begins it (R104); a Write of a home line recorded as held outside, and a Read of one that is sole-out, makes a Recall
entry, and the recall state becomes in-flight. Where the line is under answer or awaits data, or no HWQ place or, for a recall, no PRT
entry is free, the request waits at the head; a wanted line is one that waits for a PRT entry (R117). R63, R113: where a Read or Write of
a wanted line and the line's own victim recall have both waited for a PRT entry, the party whose turn it is takes the freed one and the
turn passes, and the recall that results carries the request either way. -/
def Obligations.HomeRequestOutcomes : Prop :=
  (∀ (s : State) (tag : PTag) (code : BitVec 3) (addr : LocalAddr) (len : BitVec 6) (data : List Byte) (d : Decoded),
      s.passesOn tag code addr len data d = true → d.path = .home → (d.item.op = .read ∨ d.item.op = .write) →
      s.underAnswer d.line = false → s.hwqFree = true →
      (s.findExport d.line = none ∨
        (d.item.op = .read ∧ s.findExport d.line = some { line := d.line, cls := .sharedOut, state := .none, awaiting := none })) →
      exec (.localRequestAcceptance tag code addr len data) s = .next
        { s with
          lpu.tags := s.tagsWith tag
          home.hwq := s.home.hwq ++
            [{ addr := s.memAddr d.line d.item.offset
               work := if d.item.op = .read then .localRead d.line tag d.item.offset d.item.len
                       else .localWrite d.line tag d.item.offset d.item.len d.item.data }]
          home.port := if s.home.port = .idle then .busy else s.home.port
          out := noOutput }) ∧
  (∀ (s : State) (tag : PTag) (code : BitVec 3) (addr : LocalAddr) (len : BitVec 6) (data : List Byte) (d : Decoded) (t : ReqTag)
      (x : ExportEntry),
      s.passesOn tag code addr len data d = true → d.path = .home → (d.item.op = .read ∨ d.item.op = .write) →
      s.underAnswer d.line = false → s.hwqFree = true → s.freeTag = some t →
      s.findExport d.line = some x → x.awaiting = none → x.state = .none → (d.item.op = .write ∨ x.cls = .soleOut) →
      exec (.localRequestAcceptance tag code addr len data) s = .next
        { s with
          lpu.tags := s.tagsWith tag
          engine := (s.setEntry t (.fresh .recall d.line none [d.item] .request)).engine
          bus := (s.enqueue (.prt t)).bus
          home := (s.recallStarts d.line).home
          out := noOutput }) ∧
  (∀ (s : State) (tag : PTag) (code : BitVec 3) (addr : LocalAddr) (len : BitVec 6) (data : List Byte) (r : LocalReq) (d : Decoded),
      s.passesOn tag code addr len data d = true → s.accepts tag code addr len data r = true → d.path = .home →
      (d.item.op = .read ∨ d.item.op = .write) →
      (s.underAnswer d.line = true ∨ (s.findExport d.line = none ∧ s.hwqFree = false) ∨
        ∃ x, s.findExport d.line = some x ∧
          (x.awaiting.isSome = true ∨ (x.state ≠ .inFlight ∧ s.hwqFree = false) ∨
            ((x.state = .wanted ∨ (x.state = .none ∧ (d.item.op = .write ∨ x.cls = .soleOut))) ∧ s.freeTag = none))) →
      exec (.localRequestAcceptance tag code addr len data) s = .next (s.headWaiting tag r d)) ∧
  ∀ (s : State) (r : LocalReq) (d : Decoded) (x : ExportEntry) (u : ReqTag) (e : PrtEntry) (i : Item),
    s.calm = true → s.lpu.lrq = [r] → s.lpu.head = some d → d.path = .home → (d.item.op = .read ∨ d.item.op = .write) →
    s.underAnswer d.line = false → s.findExport d.line = some x → x.awaiting = none → x.state = .wanted →
    s.home.wanted = [d.line] → s.hwqFree = true → s.findEntry d.line = none → (∀ t, s.entry t ≠ none) →
    s.entry u = some e → e.kind = .directRead → e.phase = .awaitingData → e.timer.isSome = true → e.waiting = [i] →
    i.op = .read → e.origin = .request → e.follower = none → s.underAnswer e.line = false → s.lpu.log.length < 8 →
    s.ctl.mode ≠ .quiescing →
    exec (.dataTimerExpiry u) s = .next
      { s with
        lpu :=
          { s.lpu with
            lrq := [], head := none, pinRecall := none, tags := s.tagsWithout i.tag
            log := s.lpu.log ++ [s.endRecord e .dataTimeout] }
        engine :=
          { ((s.freeEntry u).setEntry u
              (.fresh .recall d.line none [d.item] (if s.engine.turn = .lrq then .request else .victim))).engine with
            turn := if s.engine.turn = .lrq then .victim else .lrq }
        home := (s.recallStarts d.line).home
        bus := ((s.freeEntry u).enqueue (.prt u)).bus
        out := oneResponse i.tag .dataTimeout .none }

/-- R134: a Pinned Read on the remote cached path is refused PIN_HELD or PIN_LIMIT (steps 1, 2), waits (steps 3, 5, 6), attaches to a
Claim or Promote entry with a pending pin or waits (step 4), is a pinned hit, answered with its bytes, a held pin made and its timer
started (step 7), or makes a Promote or a Claim entry with a pending pin (steps 8, 9), where it waits for what R22 to R24 and R62 want; of
an Altered victim the RQ entry joins the send list before the new PRT entry (the model's reading, log 33). R138, R139: a Pinned Write with
no pin is refused PIN_LOST and writes nothing, also where its line has an RQ entry (the model's reading of R138, R19 and R122, log 14). On
the remote cached path one with a pin waits while its line has an RQ entry (R122); one with a held pin waits while its line is under
answer and else writes its bytes and ends the pin, and in Quiescing the walk that may then begin runs in the same event (R129); one with a
pending pin attaches to the entry or waits. -/
def Obligations.PinnedRequestOutcomes : Prop :=
  (∀ (s : State) (tag : PTag) (code : BitVec 3) (addr : LocalAddr) (len : BitVec 6) (data : List Byte) (d : Decoded),
      s.passesOn tag code addr len data d = true → d.path = .cached → d.item.op = .pinnedRead →
      ((∃ p ∈ s.cache.pins, p.line = d.line) →
        exec (.localRequestAcceptance tag code addr len data) s = .next { s with out := oneResponse tag .pinHeld .none }) ∧
      ((∀ p ∈ s.cache.pins, p.line ≠ d.line) → 2 ≤ s.cache.pins.length →
        exec (.localRequestAcceptance tag code addr len data) s = .next { s with out := oneResponse tag .pinLimit .none }) ∧
      (∀ (w : WayNo) (st : LineState) (x : LineData),
        (∀ p ∈ s.cache.pins, p.line ≠ d.line) → s.cache.pins.length < 2 → s.lineFree d.line = true →
        s.held d.line = some (w, st, x) → st ≠ .copy →
        exec (.localRequestAcceptance tag code addr len data) s = .next
          { s with
            cache :=
              { sets := (s.touch d.line w).cache.sets
                pins := s.cache.pins ++
                  [{ line := d.line, path := .remote, held := true, timer := some s.ctl.start.pinLimit, tag := tag }] }
            out := oneResponse tag .ok (.bytes ((x.toList.drop d.item.offset.toNat).take d.item.len)) })) ∧
  (∀ (s : State) (tag : PTag) (code : BitVec 3) (addr : LocalAddr) (len : BitVec 6) (data : List Byte) (r : LocalReq) (d : Decoded),
      s.passesOn tag code addr len data d = true → s.accepts tag code addr len data r = true → d.path = .cached →
      d.item.op = .pinnedRead → (∀ p ∈ s.cache.pins, p.line ≠ d.line) → s.cache.pins.length < 2 →
      (s.findRq d.line ≠ none → exec (.localRequestAcceptance tag code addr len data) s = .next (s.headWaiting tag r d)) ∧
      (∀ (t : ReqTag) (e : PrtEntry) (attaches : Prop), s.findRq d.line = none → s.findEntry d.line = some t → s.entry t = some e →
        (attaches ↔ (e.phase ≠ .finishing ∧ e.waiting.length < 4 ∧ (e.kind = .claim ∨ e.kind = .promote) ∧
          s.underAnswer d.line = false ∧ e.follower = none)) →
        (attaches →
          exec (.localRequestAcceptance tag code addr len data) s = .next
            { s with
              lpu.tags := s.tagsWith tag
              engine := (s.setEntry t { e with waiting := e.waiting ++ [d.item] }).engine
              cache.pins := s.cache.pins ++ [{ line := d.line, path := .remote, held := false, timer := none, tag := tag }]
              out := noOutput }) ∧
        (¬attaches → exec (.localRequestAcceptance tag code addr len data) s = .next (s.headWaiting tag r d))) ∧
      (s.findRq d.line = none → s.findEntry d.line = none → (s.inTransit d.line = true ∨ s.underAnswer d.line = true) →
        exec (.localRequestAcceptance tag code addr len data) s = .next (s.headWaiting tag r d)) ∧
      (∀ (w : WayNo) (x : LineData) (t : ReqTag), s.lineFree d.line = true → s.held d.line = some (w, .copy, x) → s.freeTag = some t →
        exec (.localRequestAcceptance tag code addr len data) s = .next
          { s with
            lpu.tags := s.tagsWith tag
            cache :=
              { sets := (s.touch d.line w).cache.sets
                pins := s.cache.pins ++ [{ line := d.line, path := .remote, held := false, timer := none, tag := tag }] }
            engine := (s.setEntry t (.fresh .promote d.line (some w) [d.item] .request)).engine
            bus := (s.enqueue (.prt t)).bus
            out := noOutput }) ∧
      (∀ (w : WayNo) (t : ReqTag), s.lineFree d.line = true → s.held d.line = none → s.victim d.line = some w → s.freeTag = some t →
        ((∃ k x, s.wayAt d.line w = .holding k .altered x) → s.rqFree = true) →
        exec (.localRequestAcceptance tag code addr len data) s = .next
          { s with
            lpu.tags := s.tagsWith tag
            cache :=
              { sets := ((s.setWay d.line w (.reserved d.line)).touch d.line w).cache.sets
                pins := s.cache.pins ++ [{ line := d.line, path := .remote, held := false, timer := none, tag := tag }] }
            engine := (s.setEntry t (.fresh .claim d.line (some w) [d.item] .request)).engine
            ret := (match s.wayAt d.line w with | .holding k .altered x => s.addRq k x [] | _ => s).ret
            bus := ((match s.wayAt d.line w with | .holding k .altered x => s.addRq k x [] | _ => s).enqueue (.prt t)).bus
            out := noOutput }) ∧
      (∀ (w : WayNo) (x : LineData), s.lineFree d.line = true → s.held d.line = some (w, .copy, x) → s.freeTag = none →
        exec (.localRequestAcceptance tag code addr len data) s = .next (s.headWaiting tag r d)) ∧
      (s.lineFree d.line = true → s.held d.line = none →
        ((s.freeTag = none ∨ s.victim d.line = none) →
          exec (.localRequestAcceptance tag code addr len data) s = .next (s.headWaiting tag r d)) ∧
        ∀ (w : WayNo) (k : LineNo) (x : LineData), s.victim d.line = some w → s.wayAt d.line w = .holding k .altered x →
          s.rqFree = false → exec (.localRequestAcceptance tag code addr len data) s = .next (s.headWaiting tag r d))) ∧
  (∀ (s : State) (tag : PTag) (code : BitVec 3) (addr : LocalAddr) (len : BitVec 6) (data : List Byte) (r : LocalReq) (d : Decoded)
      (p : PinEntry),
      s.passesOn tag code addr len data d = true → s.accepts tag code addr len data r = true → d.path = .cached →
      d.item.op = .pinnedWrite → s.findPin d.line = some p →
      (s.findRq d.line ≠ none → exec (.localRequestAcceptance tag code addr len data) s = .next (s.headWaiting tag r d)) ∧
      (p.held = true → s.underAnswer d.line = true →
        exec (.localRequestAcceptance tag code addr len data) s = .next (s.headWaiting tag r d)) ∧
      (p.held = false → s.findEntry d.line = none → exec (.localRequestAcceptance tag code addr len data) s = .next (s.headWaiting tag r d)) ∧
      (∀ (t : ReqTag) (e : PrtEntry) (attaches : Prop),
        s.findRq d.line = none → p.held = false → s.findEntry d.line = some t → s.entry t = some e →
        (attaches ↔ (e.phase ≠ .finishing ∧ e.waiting.length < 4 ∧ (e.kind = .claim ∨ e.kind = .promote) ∧
          s.underAnswer d.line = false)) →
        (attaches →
          exec (.localRequestAcceptance tag code addr len data) s = .next
            { s with
              lpu.tags := s.tagsWith tag
              engine := (s.setEntry t { e with waiting := e.waiting ++ [d.item] }).engine
              out := noOutput }) ∧
        (¬attaches → exec (.localRequestAcceptance tag code addr len data) s = .next (s.headWaiting tag r d)))) ∧
  (∀ (s : State) (tag : PTag) (code : BitVec 3) (addr : LocalAddr) (len : BitVec 6) (data : List Byte) (d : Decoded),
      s.passesOn tag code addr len data d = true → d.item.op = .pinnedWrite →
      (d.path ≠ .direct → (∀ p ∈ s.cache.pins, p.line ≠ d.line) →
        exec (.localRequestAcceptance tag code addr len data) s = .next { s with out := oneResponse tag .pinLost .none }) ∧
      (∀ (p : PinEntry) (w : WayNo) (st : LineState) (x : LineData) (released : State),
        d.path = .cached → s.findPin d.line = some p → p.held = true → s.findRq d.line = none → s.underAnswer d.line = false →
        s.held d.line = some (w, st, x) →
        released =
          { s with
            cache :=
              { sets := ((s.setWay d.line w (.holding d.line .altered (x.merge d.item.offset.toNat d.item.data))).touch d.line w).cache.sets
                pins := s.cache.pins.filter fun q => q.line != d.line }
            out := oneResponse tag .ok .none } →
        (s.ctl.mode ≠ .quiescing → exec (.localRequestAcceptance tag code addr len data) s = .next released) ∧
        (s.ctl.mode = .quiescing → ∃ v, exec .quiesceWalk released = .next v ∧
          exec (.localRequestAcceptance tag code addr len data) s = .next { v with out := released.out })))

/-- R136: a Pinned Read on the home path is refused PIN_HELD or PIN_LIMIT, waits while its line is under answer, awaits data or is
recalled, joins the HWQ as a pinned local-read with a pending pin where the line has no Export Table entry and the HWQ has a place, and
else makes a pin recall where a PRT entry is free, staying the head with the recall's tag noted; of a wanted line, which waits for a PRT
entry (R117), it takes the freed one at its turn, and waits on where the victim recall takes it (R63). The recall that completes at its
close has it judged again and go on as a local-read; one that times out answers it DATA_TIMEOUT, and its record has no tag. R139: a Pinned
Write with a pin waits while the line is under answer, the pin is pending or the HWQ is full, and else ends the pin and joins the HWQ as a
local-write. R129: in Quiescing the walk that may begin when the pin has ended runs in the same event. -/
def Obligations.HomePinnedRequestOutcomes : Prop :=
  (∀ (s : State) (tag : PTag) (code : BitVec 3) (addr : LocalAddr) (len : BitVec 6) (data : List Byte) (r : LocalReq) (d : Decoded),
      s.passesOn tag code addr len data d = true → s.accepts tag code addr len data r = true → d.path = .home →
      d.item.op = .pinnedRead →
      ((∃ p ∈ s.cache.pins, p.line = d.line) →
        exec (.localRequestAcceptance tag code addr len data) s = .next { s with out := oneResponse tag .pinHeld .none }) ∧
      ((∀ p ∈ s.cache.pins, p.line ≠ d.line) → 2 ≤ s.cache.pins.length →
        exec (.localRequestAcceptance tag code addr len data) s = .next { s with out := oneResponse tag .pinLimit .none }) ∧
      ((∀ p ∈ s.cache.pins, p.line ≠ d.line) → s.cache.pins.length < 2 →
        ((s.underAnswer d.line = true ∨ ∃ x, s.findExport d.line = some x ∧ (x.awaiting.isSome = true ∨ x.state = .inFlight)) →
          exec (.localRequestAcceptance tag code addr len data) s = .next (s.headWaiting tag r d)) ∧
        (s.underAnswer d.line = false → s.findExport d.line = none →
          (s.hwqFree = true →
            exec (.localRequestAcceptance tag code addr len data) s = .next
              { s with
                lpu.tags := s.tagsWith tag
                cache.pins := s.cache.pins ++ [{ line := d.line, path := .home, held := false, timer := none, tag := tag }]
                home.hwq := s.home.hwq ++
                  [{ addr := s.memAddr d.line d.item.offset, work := .localRead d.line tag d.item.offset d.item.len }]
                home.port := if s.home.port = .idle then .busy else s.home.port
                out := noOutput }) ∧
          (s.hwqFree = false → exec (.localRequestAcceptance tag code addr len data) s = .next (s.headWaiting tag r d))) ∧
        (∀ x, s.underAnswer d.line = false → s.findExport d.line = some x → x.awaiting = none →
          (∀ t, x.state = .none → s.freeTag = some t →
            exec (.localRequestAcceptance tag code addr len data) s = .next
              { s with
                lpu := { s.lpu with lrq := [r], head := some d, pinRecall := some t, tags := s.tagsWith tag }
                engine := (s.setEntry t (.fresh .recall d.line none [] .pin)).engine
                bus := (s.enqueue (.prt t)).bus
                home := (s.recallStarts d.line).home
                out := noOutput }) ∧
          (x.state ≠ .inFlight → s.freeTag = none →
            exec (.localRequestAcceptance tag code addr len data) s = .next (s.headWaiting tag r d))))) ∧
  (∀ (s : State) (tag : PTag) (code : BitVec 3) (addr : LocalAddr) (len : BitVec 6) (data : List Byte) (r : LocalReq) (d : Decoded)
      (p : PinEntry),
      s.passesOn tag code addr len data d = true → s.accepts tag code addr len data r = true → d.path = .home →
      d.item.op = .pinnedWrite → s.findPin d.line = some p →
      ((s.underAnswer d.line = true ∨ p.held = false ∨ s.hwqFree = false) →
        exec (.localRequestAcceptance tag code addr len data) s = .next (s.headWaiting tag r d)) ∧
      (∀ released : State, s.underAnswer d.line = false → p.held = true → s.hwqFree = true →
        released =
          { s with
            lpu.tags := s.tagsWith tag
            cache.pins := s.cache.pins.filter fun q => q.line != d.line
            home.hwq := s.home.hwq ++
              [{ addr := s.memAddr d.line d.item.offset, work := .localWrite d.line tag d.item.offset d.item.len d.item.data }]
            home.port := if s.home.port = .idle then .busy else s.home.port
            out := noOutput } →
        (s.ctl.mode ≠ .quiescing → exec (.localRequestAcceptance tag code addr len data) s = .next released) ∧
        (s.ctl.mode = .quiescing → exec (.localRequestAcceptance tag code addr len data) s = exec .quiesceWalk released))) ∧
  (∀ (s : State) (r : LocalReq) (d : Decoded) (x : ExportEntry) (u : ReqTag) (e : PrtEntry) (i : Item),
    s.calm = true → s.lpu.lrq = [r] → s.lpu.head = some d → s.lpu.pinRecall = none → d.path = .home → d.item.op = .pinnedRead →
    (∀ p ∈ s.cache.pins, p.line ≠ d.line) → s.cache.pins.length < 2 →
    s.underAnswer d.line = false → s.findExport d.line = some x → x.awaiting = none → x.state = .wanted →
    s.home.wanted = [d.line] → s.findEntry d.line = none → (∀ t, s.entry t ≠ none) →
    s.entry u = some e → e.kind = .directRead → e.phase = .awaitingData → e.timer.isSome = true → e.waiting = [i] →
    i.op = .read → e.origin = .request → e.follower = none → s.underAnswer e.line = false → s.lpu.log.length < 8 →
    s.ctl.mode ≠ .quiescing →
    exec (.dataTimerExpiry u) s = .next
      { s with
        lpu :=
          { s.lpu with
            pinRecall := if s.engine.turn = .lrq then some u else none, tags := s.tagsWithout i.tag
            log := s.lpu.log ++ [s.endRecord e .dataTimeout] }
        engine :=
          { ((s.freeEntry u).setEntry u (.fresh .recall d.line none [] (if s.engine.turn = .lrq then .pin else .victim))).engine with
            turn := if s.engine.turn = .lrq then .victim else .lrq }
        home := (s.recallStarts d.line).home
        bus := ((s.freeEntry u).enqueue (.prt u)).bus
        out := oneResponse i.tag .dataTimeout .none }) ∧
  ∀ (s : State) (t : ReqTag) (e : PrtEntry) (r : LocalReq) (d : Decoded),
    s.entry t = some e → e.kind = .recall → e.line = d.line → e.waiting = [] → s.lpu.lrq = [r] → s.lpu.head = some d →
    s.lpu.pinRecall = some t → d.path = .home → d.item.op = .pinnedRead → s.home.wanted = [] → s.ctl.mode ≠ .quiescing →
    (∀ (driven : Table (BitVec 3) 4) (w : Window) (n : StationNo) (q : Request),
      s.bus.medium = .answering w → w.own = some (.prt t) → w.msg = some (n, q) → q.enrolment = false → s.noHeldExpiry = true →
      (combine driven w.drives = .clear ∨ combine driven w.drives = .shared) → ({ s with bus.medium := .idle } : State).calm = true →
      (∀ p ∈ s.cache.pins, p.line ≠ d.line) → s.cache.pins.length < 2 → ({ s with bus.medium := .idle } : State).hwqFree = true →
      exec (.answerWindowClose driven) s = .next
        { s with
          lpu := { s.lpu with lrq := [], head := none, pinRecall := none }
          cache.pins := s.cache.pins ++ [{ line := d.line, path := .home, held := false, timer := none, tag := d.item.tag }]
          engine := (s.freeEntry t).engine
          home :=
            { s.home with
              exports := put s.home.exports (exportIndex d.line) ((s.exportSet d.line).filter fun y => y.line != d.line)
              hwq := s.home.hwq ++
                [{ addr := s.memAddr d.line d.item.offset, work := .localRead d.line d.item.tag d.item.offset d.item.len }]
              port := if s.home.port = .idle then .busy else s.home.port }
          bus := { (s.freeEntry t).bus with medium := .idle }
          out := noOutput }) ∧
    (s.calm = true → e.phase = .awaitingData → e.timer.isSome = true → e.origin = .pin → e.follower = none →
      s.underAnswer e.line = false → s.lpu.log.length < 8 →
      exec (.dataTimerExpiry t) s = .next
        { s with
          lpu :=
            { s.lpu with
              lrq := [], head := none, pinRecall := none, tags := s.tagsWithout d.item.tag
              log := s.lpu.log ++
                [{ kind := .dataTimeout, line := some e.line, segment := some (segmentOf e.line), peer := s.homeOf e.line }] }
          engine := (s.freeEntry t).engine
          home.exports := s.exportsAfterEnd e
          bus := (s.freeEntry t).bus
          out := oneResponse d.item.tag .dataTimeout .none })

/-- R64: a Read or Write on the remote cached path whose line has a PRT entry joins the tail of its waiting list where the entry is not
Finishing, the list has room and the operation suits the kind, a Write while the line is not under answer; otherwise it waits at the head,
as it does on the remote direct path. R114: a Read or Write of a home line whose recall is in flight joins the Recall entry's list where
the HWQ has a place too. -/
def Obligations.RequestsThatAttach : Prop :=
  ∀ (s : State) (tag : PTag) (code : BitVec 3) (addr : LocalAddr) (len : BitVec 6) (data : List Byte) (r : LocalReq) (d : Decoded) (t : ReqTag)
    (e : PrtEntry) (attaches : Prop),
    s.passesOn tag code addr len data d = true → s.accepts tag code addr len data r = true →
    (d.item.op = .read ∨ d.item.op = .write) → s.findEntry d.line = some t → s.entry t = some e →
    (d.path = .direct → exec (.localRequestAcceptance tag code addr len data) s = .next (s.headWaiting tag r d)) ∧
    (((d.path = .cached ∧ s.findRq d.line = none ∧
          (attaches ↔ (e.phase ≠ .finishing ∧ e.waiting.length < 4 ∧
            ((d.item.op = .read ∧ (e.kind = .fetch ∨ e.kind = .claim ∨ e.kind = .promote)) ∨
              (d.item.op = .write ∧ (e.kind = .claim ∨ e.kind = .promote) ∧ s.underAnswer d.line = false))))) ∨
        (d.path = .home ∧ s.underAnswer d.line = false ∧
          (∃ x, s.findExport d.line = some x ∧ x.awaiting = none ∧ x.state = .inFlight) ∧ e.kind = .recall ∧
          (attaches ↔ (e.phase ≠ .finishing ∧ e.waiting.length < 4 ∧ s.hwqFree = true)))) →
      (attaches →
        exec (.localRequestAcceptance tag code addr len data) s = .next
          { s with
            lpu.tags := s.tagsWith tag
            engine := (s.setEntry t { e with waiting := e.waiting ++ [d.item] }).engine
            out := noOutput }) ∧
      (¬attaches → exec (.localRequestAcceptance tag code addr len data) s = .next (s.headWaiting tag r d)))

/-- R127: a Flush Line moves an Altered line to the RQ and waits there, drops a Copy or Sole line, and is answered OK at once where the
station holds no copy; where the line has an RQ entry it joins the tail of that entry's waiting flushes; it waits at the head where the
line has a PRT entry, is under answer, in transit or pinned, or is Altered with the RQ full. -/
def Obligations.FlushLineOutcomes : Prop :=
  (∀ (s : State) (tag : PTag) (code : BitVec 3) (addr : LocalAddr) (len : BitVec 6) (data : List Byte) (d : Decoded),
    s.passesOn tag code addr len data d = true → d.path = .cached → d.item.op = .flushLine →
    s.lineFree d.line = true → s.pinned d.line = false →
    (∀ (w : WayNo) (x : LineData), s.held d.line = some (w, .altered, x) → s.rqFree = true →
      exec (.localRequestAcceptance tag code addr len data) s = .next
        { s with
          lpu.tags := s.tagsWith tag
          cache := (s.setWay d.line w .empty).cache
          ret.rq := s.ret.rq ++ [{ line := d.line, data := x, flushes := [tag] }]
          bus := (s.enqueue (.rq d.line)).bus
          out := noOutput }) ∧
    (∀ (w : WayNo) (st : LineState) (x : LineData), s.held d.line = some (w, st, x) → st ≠ .altered →
      exec (.localRequestAcceptance tag code addr len data) s = .next
        { s with cache := (s.setWay d.line w .empty).cache, out := oneResponse tag .ok .none }) ∧
    (s.held d.line = none →
      exec (.localRequestAcceptance tag code addr len data) s = .next { s with out := oneResponse tag .ok .none })) ∧
  ∀ (s : State) (tag : PTag) (code : BitVec 3) (addr : LocalAddr) (len : BitVec 6) (data : List Byte) (r : LocalReq) (d : Decoded),
    s.passesOn tag code addr len data d = true → s.accepts tag code addr len data r = true → d.path = .cached →
    d.item.op = .flushLine →
    (s.findEntry d.line = none → s.underAnswer d.line = false → s.inTransit d.line = false → s.pinned d.line = false →
      s.findRq d.line ≠ none →
      exec (.localRequestAcceptance tag code addr len data) s = .next
        { s with
          lpu.tags := s.tagsWith tag
          ret.rq := s.ret.rq.map fun q => if q.line = d.line then { q with flushes := q.flushes ++ [tag] } else q
          out := noOutput }) ∧
    ((s.findEntry d.line ≠ none ∨ s.underAnswer d.line = true ∨ s.inTransit d.line = true ∨ s.pinned d.line = true) →
      exec (.localRequestAcceptance tag code addr len data) s = .next (s.headWaiting tag r d)) ∧
    ∀ (w : WayNo) (x : LineData), s.findRq d.line = none → s.held d.line = some (w, .altered, x) → s.rqFree = false →
      exec (.localRequestAcceptance tag code addr len data) s = .next (s.headWaiting tag r d)

/-! ### What the named updates do -/

/-- What the updates do that the statements name. R21: byte i of a merge. R18: the way used is the first in its set's order of use, the
others keep their order, and nothing else changes. R16, R26: a way written. R81: freeing: the tag is free, its generation one higher
modulo 4, and the entry is on no list. R59, R62: an entry written; the values a new entry starts with. R40: an item at the tail of the
send list. R113, R117: a recall that starts. R108: a flag cleared. R121: a line at the tail of the RQ. R55, R130: a Copy dropped; a way
emptied by the walk. R158: the tags in use. R5: a home memory address. R103: a list item's work. -/
def Obligations.NamedUpdateResults : Prop :=
  (∀ (x : LineData) (off : Nat) (bs : List Byte) (i : Offset),
    look (x.merge off bs) i = (if off ≤ i.toNat ∧ i.toNat < off + bs.length then bs.getD (i.toNat - off) 0 else look x i) ∧
    look (LineData.ofBytes bs) i = bs.getD i.toNat 0) ∧
  (∀ (s : State) (l : LineNo) (w : WayNo),
    (s.touch l w = { s with cache.sets := (s.touch l w).cache.sets }) ∧
    (∀ k v, (s.touch l w).wayAt k v = s.wayAt k v) ∧ (∀ k, rlcIndex k ≠ rlcIndex l → (s.touch l w).setOf k = s.setOf k) ∧
    ((s.touch l w).setOf l).age w = 0 ∧ (∀ v, v ≠ w → 0 < ((s.touch l w).setOf l).age v) ∧
    ∀ u v, u ≠ w → v ≠ w →
      (((s.touch l w).setOf l).age u ≤ ((s.touch l w).setOf l).age v ↔ (s.setOf l).age u ≤ (s.setOf l).age v)) ∧
  (∀ (s : State) (l : LineNo) (w : WayNo) (x : Way),
    (s.setWay l w x = { s with cache.sets := (s.setWay l w x).cache.sets }) ∧
    (∀ k v, (s.setWay l w x).wayAt k v = if rlcIndex k = rlcIndex l ∧ v = w then x else s.wayAt k v) ∧
    ∀ k v, ((s.setWay l w x).setOf k).age v = (s.setOf k).age v) ∧
  (∀ (s : State) (t : ReqTag) (e : PrtEntry),
    ((s.freeEntry t).entry t = none ∧ (look (s.freeEntry t).engine.prt t).gen.toNat = ((look s.engine.prt t).gen.toNat + 1) % 4 ∧
      (∀ u, u ≠ t → look (s.freeEntry t).engine.prt u = look s.engine.prt u) ∧
      s.freeEntry t =
        { s with
          engine.prt := (s.freeEntry t).engine.prt
          bus := { s.bus with sendList := s.bus.sendList.filter (· != .prt t), askers := s.bus.askers.filter (· != .prt t) } }) ∧
    ((s.setEntry t e).entry t = some e ∧ (look (s.setEntry t e).engine.prt t).gen = (look s.engine.prt t).gen ∧
      (∀ u, u ≠ t → look (s.setEntry t e).engine.prt u = look s.engine.prt u) ∧
      s.setEntry t e = { s with engine.prt := (s.setEntry t e).engine.prt }) ∧
    (∀ (k : PrtKind) (l : LineNo) (w : Option WayNo) (is : List Item) (o : Origin),
      PrtEntry.fresh k l w is o =
        { kind := k, line := l, way := w, phase := .queued, expected := none, retry := 0, timer := none, expiryHeld := false
          downgrade := false, dropAfterUse := false, waiting := is, follower := none, owes := .nothing, filledByHome := false
          wrote := false, origin := o })) ∧
  (∀ (s : State) (i : SendItem), s.enqueue i = { s with bus.sendList := s.bus.sendList.filter (· != i) ++ [i] }) ∧
  (∀ (s : State) (l : LineNo),
    s.recallStarts l =
      { s with
        home.exports := put s.home.exports (exportIndex l)
          ((s.exportSet l).map fun x => if x.line = l then { x with state := .inFlight } else x)
        home.wanted := s.home.wanted.filter (· != l) } ∧
    s.clearAwaiting l =
      { s with
        home.exports := put s.home.exports (exportIndex l)
          ((s.exportSet l).map fun x => if x.line = l then { x with awaiting := none } else x) } ∧
    (∀ (x : LineData) (fs : List PTag),
      s.addRq l x fs =
        { s with
          ret.rq := s.ret.rq ++ [{ line := l, data := x, flushes := fs }]
          bus.sendList := s.bus.sendList.filter (· != .rq l) ++ [.rq l] }) ∧
    (∀ w x, s.held l = some (w, .copy, x) → s.emptyCopy l = s.setWay l w .empty) ∧
    ((∀ w x, s.held l ≠ some (w, .copy, x)) → s.emptyCopy l = s)) ∧
  (∀ (s : State) (p : Nat), p < 2048 →
    s.walkEmpty p = { s with cache.sets := (s.walkEmpty p).cache.sets } ∧ (s.walkEmpty p).walkAt p = .empty ∧
      ∀ q, q < 2048 → q ≠ p → (s.walkEmpty p).walkAt q = s.walkAt q) ∧
  (∀ (s : State) (tag : PTag) (tags : List PTag) (u : PTag),
    (s.tagsWith tag).getLsbD u.toNat = (s.lpu.tags.getLsbD u.toNat || u == tag) ∧
    (s.tagsWithout tag).getLsbD u.toNat = (s.lpu.tags.getLsbD u.toNat && u != tag) ∧
    (s.tagsWithoutAll tags).getLsbD u.toNat = (s.lpu.tags.getLsbD u.toNat && !tags.contains u)) ∧
  (∀ (s : State) (l : LineNo) (off : Offset) (h : StationNo) (a : Access) (k : SegKind) (i : BitVec 4),
    s.segmentEntry l = .mapped h a k i →
    (s.memAddr l off).toNat = i.toNat * 2 ^ 26 + l.toNat % 2 ^ 20 * 64 + off.toNat) ∧
  ∀ (i : Item) (l : LineNo),
    ((i.op = .read ∨ i.op = .pinnedRead) → i.hwqWork l = .localRead l i.tag i.offset i.len) ∧
    (i.op = .write ∨ i.op = .pinnedWrite → i.hwqWork l = .localWrite l i.tag i.offset i.len i.data)

/-! ### The control window -/

/-- R143: the outcomes of Join, and what makes a Start Record bad. -/
def Obligations.JoinOutcomes : Prop :=
  (∀ (s : State) (tag : PTag), s.tagInUse tag = false →
    (s.ctl.mode ≠ .dormant → exec (.join tag) s = .next { s with out := oneResponse tag .wrongState .none }) ∧
    (s.ctl.mode = .dormant → s.ctl.start.bad = true →
      exec (.join tag) s = .next { s with out := oneResponse tag .badStart .none }) ∧
    (s.ctl.mode = .dormant → s.ctl.start.bad = false → s.ctl.roll.closed = false → s.ctl.roll.gap = false →
      look s.ctl.roll.announced s.number = none → s.ctl.roll.contested.has s.number = false →
      exec (.join tag) s = .next
        { s with
          ctl.mode := .enrolling
          ctl.roll.timer := some s.ctl.start.enrolLimit
          ctl.roll.limitPassed := false
          lpu.stateChange := true
          bus.sendList := s.bus.sendList.filter (· != .announce) ++ [.announce]
          out := oneResponse tag .ok .none }) ∧
    (s.ctl.mode = .dormant → s.ctl.start.bad = false → s.lpu.log.length < 8 →
      (s.ctl.roll.closed = true ∨ s.ctl.roll.gap = true) →
      exec (.join tag) s = .next
        { s with
          ctl.mode := .isolated
          ctl.roll.timer := none
          lpu.stateChange := true
          lpu.log := s.lpu.log ++ [{ kind := .lateJoin }]
          bus.sendList := (s.bus.sendList.filter (· != .announce)).filter (· != .ready)
          out := oneResponse tag .ok .none }) ∧
    (s.ctl.mode = .dormant → s.ctl.start.bad = false → s.lpu.log.length < 8 →
      s.ctl.roll.closed = false → s.ctl.roll.gap = false →
      ((look s.ctl.roll.announced s.number).isSome = true ∨ s.ctl.roll.contested.has s.number = true) →
      exec (.join tag) s = .next
        { s with
          ctl.mode := .isolated
          ctl.roll.timer := none
          lpu.stateChange := true
          lpu.log := s.lpu.log ++ [{ kind := .numberContested, peer := some s.number }]
          bus.sendList := (s.bus.sendList.filter (· != .announce)).filter (· != .ready)
          out := oneResponse tag .ok .none })) ∧
  ∀ r : StartRecord, r.bad = true ↔
    (r.expected.toNat < 1 ∨ 16 < r.expected.toNat ∨
     r.dataTimeout.toNat < 8 ∨ 2040 < r.dataTimeout.toNat ∨ r.dataTimeout.toNat % 8 ≠ 0 ∨
     r.pinLimit.toNat < 1 ∨ r.enrolLimit.toNat < 1 ∨ r.base.toNat % 2 ^ 34 ≠ 0 ∨
     (∃ i j : BitVec 4, i.toNat < j.toNat ∧ (look r.slots i).valid = true ∧ (look r.slots j).valid = true ∧
       (look r.slots i).segment = (look r.slots j).segment) ∨
     ∃ i : BitVec 4, (look r.slots i).valid = true ∧ 2 ≤ (look r.slots i).kind.toNat)

/-- R128: Quiesce is refused WRONG_STATE but in Operational; taken there, the station becomes Quiescing (or, where all is empty, Quiesced in
the same event, R131), the command is answered OK first, and the state-change flag is set; where the walk may not begin yet nothing else
changes. R132: Resume. R12: check 5 of R7, the station state, at decode and at acceptance; and the head checked again when Quiesce is
taken: it is answered QUIESCING and leaves, or stays as it is. -/
def Obligations.QuiesceAndResumeOutcomes : Prop :=
  (∀ (s : State) (tag : PTag), s.tagInUse tag = false →
    (s.ctl.mode ≠ .operational → exec (.quiesce tag) s = .next { s with out := oneResponse tag .wrongState .none }) ∧
    (s.ctl.mode = .operational → ∃ t, exec (.quiesce tag) s = .next t ∧
      (t.ctl.mode = .quiescing ∨ t.ctl.mode = .quiesced) ∧ t.lpu.stateChange = true ∧
      t.out.responses.head? = some { tag := tag, status := .ok, payload := .none }) ∧
    (s.ctl.mode = .operational → s.still = true → s.ret.walk = .notBegun → s.walkMayBegin = false →
      exec (.quiesce tag) s = .next
        { s with ctl.mode := .quiescing, lpu.stateChange := true, out := oneResponse tag .ok .none }) ∧
    ((s.ctl.mode = .quiescing ∨ s.ctl.mode = .quiesced) →
      exec (.resume tag) s = .next
        { s with ctl.mode := .operational, lpu.stateChange := true, ret.walk := .notBegun, out := oneResponse tag .ok .none }) ∧
    (s.ctl.mode ≠ .quiescing → s.ctl.mode ≠ .quiesced →
      exec (.resume tag) s = .next { s with out := oneResponse tag .wrongState .none })) ∧
  (∀ (s : State) (r : LocalReq) (home : StationNo) (a : Access) (k : SegKind) (i : BitVec 4) (closed : Prop),
    (r.op = .flushLine ∨ (offsetOfAddr r.addr).toNat + r.len ≤ 64) →
    s.segmentEntry (lineOfAddr r.addr) = .mapped home a k i → a.permits r.op = true →
    ¬((r.op = .pinnedRead ∨ r.op = .pinnedWrite) ∧ k = .direct) →
    (closed ↔ (r.op = .pinnedRead ∨
      (home ≠ s.number ∧ ¬(r.op = .pinnedWrite ∧ ∃ p ∈ s.cache.pins, p.line = lineOfAddr r.addr)))) →
    (closed → s.ctl.mode = .quiescing → s.decode r = .refuse .quiescing .none) ∧
    (closed → s.ctl.mode = .quiesced → s.decode r = .refuse .quiesced .none) ∧
    ((¬closed ∨ (s.ctl.mode ≠ .quiescing ∧ s.ctl.mode ≠ .quiesced)) →
      ∀ p, s.decode r ≠ .refuse .quiescing p ∧ s.decode r ≠ .refuse .quiesced p) ∧
    ∀ (tag : PTag) (code : BitVec 3) (addr : LocalAddr) (len : BitVec 6) (data : List Byte),
      s.accepts tag code addr len data r = true → closed →
      (s.ctl.mode = .quiescing →
        exec (.localRequestAcceptance tag code addr len data) s = .next { s with out := oneResponse tag .quiescing .none }) ∧
      (s.ctl.mode = .quiesced →
        exec (.localRequestAcceptance tag code addr len data) s = .next { s with out := oneResponse tag .quiesced .none })) ∧
  ∀ (s : State) (tag : PTag) (r : LocalReq) (d : Decoded) (closed : Prop),
    s.tagInUse tag = false → s.ctl.mode = .operational → s.calm = true → s.lpu.lrq = [r] → s.lpu.head = some d →
    s.ret.walk = .notBegun → s.walkMayBegin = false →
    (closed ↔ (d.item.op = .pinnedRead ∨
      (d.path ≠ .home ∧ d.home ≠ s.number ∧ ¬(d.item.op = .pinnedWrite ∧ ∃ p ∈ s.cache.pins, p.line = d.line)))) →
    (closed →
      exec (.quiesce tag) s = .next
        { s with
          ctl.mode := .quiescing
          lpu := { s.lpu with lrq := [], head := none, pinRecall := none, tags := s.tagsWithout d.item.tag, stateChange := true }
          out :=
            { responses :=
                [{ tag := tag, status := .ok, payload := .none }, { tag := d.item.tag, status := .quiescing, payload := .none }]
              sent := none } }) ∧
    (¬closed →
      exec (.quiesce tag) s = .next
        { s with ctl.mode := .quiescing, lpu.stateChange := true, out := oneResponse tag .ok .none })

/-- R166, R171, R164: Fault Log Pop removes and returns the oldest record, or returns zeros and changes nothing; Clear Log empties the log
and clears the overflow flag; the layout of a record, its kinds numbered 1 to 15. -/
def Obligations.FaultLogPopAndClear : Prop :=
  (∀ (s : State) (tag : PTag), s.tagInUse tag = false →
      (∀ r rest, s.lpu.log = r :: rest →
        exec (.faultLogPop tag) s = .next { s with lpu.log := rest, out := oneResponse tag .ok (.word r.word) }) ∧
      (s.lpu.log = [] → exec (.faultLogPop tag) s = .next { s with out := oneResponse tag .ok (.word 0) }) ∧
      exec (.clearLog tag) s = .next { s with lpu.log := [], lpu.overflow := false, out := oneResponse tag .ok .none }) ∧
  (∀ r : FaultRecord,
      r.word.extractLsb' 56 8 = (match r.kind with
        | .dataTimeout => 1 | .retryExhausted => 2 | .strayData => 3 | .resendExhausted => 4 | .staleData => 5
        | .absorbLost => 6 | .memoryError => 7 | .pinExpired => 8 | .unmappedAccess => 9 | .latePeer => 10
        | .segmentContested => 11 | .numberContested => 12 | .lateJoin => 13 | .readyTimeout => 14 | .enrolMismatch => 15) ∧
      r.word.getLsbD 55 = r.tag.isSome ∧ r.word.getLsbD 54 = r.peer.isSome ∧ r.word.getLsbD 53 = r.segment.isSome ∧
      r.word.getLsbD 52 = r.line.isSome ∧
      r.word.extractLsb' 48 4 = r.peer.getD 0 ∧ r.word.extractLsb' 40 8 = r.segment.getD 0 ∧
      r.word.extractLsb' 37 3 = 0 ∧ r.word.extractLsb' 32 5 = r.tag.getD 0 ∧ r.word.extractLsb' 28 4 = 0 ∧
      r.word.extractLsb' 0 28 = r.line.getD 0)

/-- R163, R167, R170: a Station Status read returns the state, 0 to 6, the number, the enrolled set, the log's count and the overflow
flag, every other bit 0, and clears the state-change flag. R163, R167: a write of Event Enable sets both enables, and the event line
follows. -/
def Obligations.StatusReadAndEventEnableWrite : Prop :=
  (∀ (s : State) (tag : PTag), s.tagInUse tag = false → s.lpu.log.length ≤ 8 → ∃ w : BitVec 64,
      exec (.stationStatusRead tag) s = .next { s with lpu.stateChange := false, out := oneResponse tag .ok (.word w) } ∧
      w.extractLsb' 0 3 = (match s.ctl.mode with
        | .dormant => 0 | .enrolling => 1 | .operational => 2 | .quiescing => 3 | .quiesced => 4 | .isolated => 5
        | .parked => 6) ∧
      w.extractLsb' 3 5 = 0 ∧ w.extractLsb' 8 4 = s.number ∧ w.extractLsb' 12 4 = 0 ∧
      w.extractLsb' 16 16 = s.ctl.enrolled ∧ (w.extractLsb' 32 4).toNat = s.lpu.log.length ∧ w.getLsbD 36 = s.lpu.overflow ∧
      w.extractLsb' 37 27 = 0) ∧
  (∀ (s : State) (tag : PTag) (v : BitVec 64), s.tagInUse tag = false →
      exec (.eventEnableWrite tag v) s = .next
        { s with lpu.faultEnable := v.getLsbD 0, lpu.stateEnable := v.getLsbD 1, out := oneResponse tag .ok .none } ∧
      ∀ t, exec (.eventEnableWrite tag v) s = .next t →
        (t.eventLine = true ↔
          (v.getLsbD 0 = true ∧ s.lpu.log ≠ []) ∨ (v.getLsbD 1 = true ∧ s.lpu.stateChange = true)))

/-- R142, R163, R170: a register write in Dormant gives a Start Record field the written bits; in every other state it is refused
WRONG_STATE; a write of a read-only register or of no register is answered ACCESS. R6, R162, R170: an 8-byte read of the Segment Table
view returns the entry, in every station state, and changes nothing; so does a read of a Start Record field or of Event Enable; a read of
Station Status or of Fault Log Pop is the row of that name; a read of the write-only Command or of no register, a length other than 8, and
a Pinned Read, Pinned Write or Flush Line are answered ACCESS (R162, R163). An 8-byte Write is a register write of its value, the first
byte the most significant (the byte order is the model's choice, log 12). R164: a write of 1 to 4 to Command is the command of that
number, and of any other value is answered ACCESS. -/
def Obligations.RegisterWritesAndReads : Prop :=
  (∀ (s : State) (tag : PTag) (v : BitVec 64), s.tagInUse tag = false →
    (s.ctl.mode = .dormant →
      exec (.registerWrite tag 0x040 v) s = .next { s with ctl.start.station := v.extractLsb' 0 4, out := oneResponse tag .ok .none } ∧
      exec (.registerWrite tag 0x048 v) s = .next { s with ctl.start.expected := v.extractLsb' 0 5, out := oneResponse tag .ok .none } ∧
      exec (.registerWrite tag 0x050 v) s =
        .next { s with ctl.start.dataTimeout := v.extractLsb' 0 11, out := oneResponse tag .ok .none } ∧
      exec (.registerWrite tag 0x058 v) s = .next { s with ctl.start.pinLimit := v.extractLsb' 0 8, out := oneResponse tag .ok .none } ∧
      exec (.registerWrite tag 0x060 v) s = .next { s with ctl.start.enrolLimit := v.extractLsb' 0 8, out := oneResponse tag .ok .none } ∧
      exec (.registerWrite tag 0x068 v) s = .next { s with ctl.start.base := v.extractLsb' 0 40, out := oneResponse tag .ok .none } ∧
      ∀ i : BitVec 4, exec (.registerWrite tag (BitVec.ofNat 12 (0x080 + 8 * i.toNat)) v) s = .next
        { s with
          ctl.start.slots := put s.ctl.start.slots i
            { segment := v.extractLsb' 0 8, access := v.extractLsb' 8 2, kind := v.extractLsb' 10 2, valid := v.getLsbD 15 }
          out := oneResponse tag .ok .none }) ∧
    (s.ctl.mode ≠ .dormant →
      (∀ o ∈ [0x040#12, 0x048#12, 0x050#12, 0x058#12, 0x060#12, 0x068#12],
        exec (.registerWrite tag o v) s = .next { s with out := oneResponse tag .wrongState .none }) ∧
      ∀ i : BitVec 4, exec (.registerWrite tag (BitVec.ofNat 12 (0x080 + 8 * i.toNat)) v) s =
        .next { s with out := oneResponse tag .wrongState .none }) ∧
    (∀ o : BitVec 12,
      (o = 0x000#12 ∨ o = 0x010#12 ∨ 0x800 ≤ o.toNat ∨ o.toNat % 8 ≠ 0 ∨ (0x018 < o.toNat ∧ o.toNat < 0x040) ∨
        (0x068 < o.toNat ∧ o.toNat < 0x080) ∨ (0x0F8 < o.toNat ∧ o.toNat < 0x800)) →
      exec (.registerWrite tag o v) s = .next { s with out := oneResponse tag .access .none })) ∧
  (∀ (s : State) (tag : PTag) (n : SegNo) (data : List Byte), s.tagInUse tag = false → ∃ w : BitVec 64,
    exec (.localRequestAcceptance tag 0 (0xFFFFFFF800#40 + 8 * n.setWidth 40) 7 data) s =
      .next { s with out := oneResponse tag .ok (.word w) } ∧
    (look s.segments n = .unmapped → w = 0) ∧ (look s.segments n = .contested → w = 2) ∧
    ∀ h a k i, look s.segments n = .mapped h a k i →
      w.extractLsb' 0 2 = 1 ∧ w.extractLsb' 2 2 = 0 ∧ w.extractLsb' 4 4 = h ∧
      w.extractLsb' 8 2 = (match a with | .none => 0 | .readOnly => 1 | .writeOnly => 2 | .readWrite => 3) ∧
      w.extractLsb' 10 2 = 0 ∧ w.getLsbD 12 = (k == .direct) ∧ w.extractLsb' 13 3 = 0 ∧ w.extractLsb' 16 4 = i ∧
      w.extractLsb' 20 44 = 0) ∧
  (∀ (s : State) (tag : PTag) (data : List Byte) (o : BitVec 12) (v : BitVec 64), s.tagInUse tag = false →
    (∀ c : ClaimSlot, c = look s.ctl.start.slots (BitVec.ofNat 4 ((o.toNat - 0x080) / 8)) →
      ((o = 0x018 ∧ v.getLsbD 0 = s.lpu.faultEnable ∧ v.getLsbD 1 = s.lpu.stateEnable ∧ v.extractLsb' 2 62 = 0) ∨
        (o = 0x040 ∧ v = s.ctl.start.station.setWidth 64) ∨ (o = 0x048 ∧ v = s.ctl.start.expected.setWidth 64) ∨
        (o = 0x050 ∧ v = s.ctl.start.dataTimeout.setWidth 64) ∨ (o = 0x058 ∧ v = s.ctl.start.pinLimit.setWidth 64) ∨
        (o = 0x060 ∧ v = s.ctl.start.enrolLimit.setWidth 64) ∨ (o = 0x068 ∧ v = s.ctl.start.base.setWidth 64) ∨
        (0x080 ≤ o.toNat ∧ o.toNat ≤ 0x0F8 ∧ o.toNat % 8 = 0 ∧ v.extractLsb' 0 8 = c.segment ∧ v.extractLsb' 8 2 = c.access ∧
          v.extractLsb' 10 2 = c.kind ∧ v.extractLsb' 12 3 = 0 ∧ v.getLsbD 15 = c.valid ∧ v.extractLsb' 16 48 = 0)) →
      exec (.localRequestAcceptance tag 0 (0xFFFFFFF000#40 + o.setWidth 40) 7 data) s =
        .next { s with out := oneResponse tag .ok (.word v) }) ∧
    (o = 0x000 →
      exec (.localRequestAcceptance tag 0 (0xFFFFFFF000#40 + o.setWidth 40) 7 data) s = exec (.stationStatusRead tag) s) ∧
    (o = 0x010 →
      exec (.localRequestAcceptance tag 0 (0xFFFFFFF000#40 + o.setWidth 40) 7 data) s = exec (.faultLogPop tag) s) ∧
    ((o = 0x008 ∨ o.toNat % 8 ≠ 0 ∨ (0x018 < o.toNat ∧ o.toNat < 0x040) ∨ (0x068 < o.toNat ∧ o.toNat < 0x080) ∨
        (0x0F8 < o.toNat ∧ o.toNat < 0x800)) →
      exec (.localRequestAcceptance tag 0 (0xFFFFFFF000#40 + o.setWidth 40) 7 data) s =
        .next { s with out := oneResponse tag .access .none }) ∧
    (data = [v.extractLsb' 56 8, v.extractLsb' 48 8, v.extractLsb' 40 8, v.extractLsb' 32 8,
        v.extractLsb' 24 8, v.extractLsb' 16 8, v.extractLsb' 8 8, v.extractLsb' 0 8] →
      exec (.localRequestAcceptance tag 1 (0xFFFFFFF000#40 + o.setWidth 40) 7 data) s = exec (.registerWrite tag o v) s) ∧
    ∀ (code : BitVec 3) (len : BitVec 6), (len ≠ 7 ∨ code = 2 ∨ code = 3 ∨ code = 4) →
      exec (.localRequestAcceptance tag code (0xFFFFFFF000#40 + o.setWidth 40) len data) s =
        .next { s with out := oneResponse tag .access .none }) ∧
  ∀ (s : State) (tag : PTag) (v : BitVec 64), s.tagInUse tag = false →
    (v.extractLsb' 0 8 = 1 → exec (.registerWrite tag 0x008 v) s = exec (.join tag) s) ∧
    (v.extractLsb' 0 8 = 2 → exec (.registerWrite tag 0x008 v) s = exec (.quiesce tag) s) ∧
    (v.extractLsb' 0 8 = 3 → exec (.registerWrite tag 0x008 v) s = exec (.resume tag) s) ∧
    (v.extractLsb' 0 8 = 4 → exec (.registerWrite tag 0x008 v) s = exec (.clearLog tag) s) ∧
    (v.extractLsb' 0 8 = 0 ∨ 4 < (v.extractLsb' 0 8).toNat →
      exec (.registerWrite tag 0x008 v) s = .next { s with out := oneResponse tag .access .none }) ∧
    exec (.registerWrite tag 0x018 v) s = exec (.eventEnableWrite tag v) s

/-! ### The pool bus: arbitration and sending -/

/-- R39: the winner is, among the data contenders if there is one and else among all, the first number after the last winner. R39, R40: at
a contention every station that is not Parked sets its last-winner number to the winner's; a station that does not win changes nothing
else; a Parked one changes nothing. R52: the winner of a data contention sends the head of its sending order and counts a try; home-take
is carried only while the home is owed. -/
def Obligations.ContentionOutcomes : Prop :=
  (∀ (last : StationNo) (cs : List Contender),
      (cs ≠ [] → (winner last cs).isSome = true) ∧
      ∀ w, winner last cs = some w →
        w ∈ cs ∧ ((∃ c ∈ cs, c.cls = .data) → w.cls = .data) ∧
        ∀ c ∈ cs, ((∃ c ∈ cs, c.cls = .data) → c.cls = .data) →
          (w.number - last - 1).toNat ≤ (c.number - last - 1).toNat) ∧
  (∀ (s : State) (peers : List Contender) (own : Declared),
      (s.ctl.mode = .parked → exec (.contention peers own) s = .next { s with out := noOutput }) ∧
      (∀ w, s.ctl.mode ≠ .parked → s.bus.medium = .idle →
        winner s.bus.lastWinner
          ((match s.declares own with | some c => [{ number := s.number, cls := c }] | none => []) ++ peers) = some w →
        w.number ≠ s.number →
        exec (.contention peers own) s = .next { s with bus.lastWinner := w.number, out := noOutput })) ∧
  ∀ (s : State) (peers : List Contender) (e : SqEntry) (rest : List SqEntry),
    s.ctl.mode.member = true → s.bus.medium = .idle → s.bus.sq = e :: rest → e.converting = false →
    winner s.bus.lastWinner ({ number := s.number, cls := .data } :: peers) = some { number := s.number, cls := .data } →
    exec (.contention peers .current) s = .next
      { s with
        bus.lastWinner := s.number
        bus.sq := { e with tries := e.tries + 1 } :: rest
        bus.medium := .sent (.data (e.msg.homeTake && e.homeState == .owed))
        out := { responses := [], sent := some (encodeData s.number { e.msg with homeTake := e.msg.homeTake && e.homeState == .owed }) } }

/-- R39: what a station contends for by its state: nothing in Dormant, Isolated and Parked; in Enrolling as a request contender, where its
send list holds an item; as a member as a data contender, where the SQ's sending order holds an entry, and else as a request contender,
where the send list holds an item. R40, R41, R66: the winner of a request contention sends the request that the head of its send list
describes; the item leaves the list. What the items describe: a PRT entry (R66), an RQ entry (R123), the Announce (R144) and the Ready
(R149). -/
def Obligations.RequestContenderSendsHead : Prop :=
  (∀ (s : State) (peers : List Contender) (i : SendItem) (rest : List SendItem) (r : Request),
    s.ctl.mode ≠ .parked → s.bus.medium = .idle → s.contends = some .request → s.bus.sendList = i :: rest →
    s.itemMessage i = some r →
    winner s.bus.lastWinner ({ number := s.number, cls := .request } :: peers) = some { number := s.number, cls := .request } →
    exec (.contention peers .current) s = .next
      { s with
        bus.lastWinner := s.number, bus.sendList := rest, bus.medium := .sent (.request i r)
        out := { responses := [], sent := some (encodeRequest s.number r) } }) ∧
  (∀ (s : State) (t : ReqTag) (e : PrtEntry), s.entry t = some e →
    (∀ k : LineKind,
      ((e.kind = .fetch ∧ k = .fetch) ∨ (e.kind = .claim ∧ k = .claim) ∨ (e.kind = .promote ∧ k = .promote) ∨
        (e.kind = .recall ∧ k = .recall)) →
      s.itemMessage (.prt t) = some (.line k t (look s.engine.prt t).gen e.line)) ∧
    (∀ i rest, e.kind = .directRead → e.waiting = i :: rest → 1 ≤ i.len → i.len ≤ 64 →
      ∃ n : BitVec 6, n.toNat + 1 = i.len ∧
        s.itemMessage (.prt t) = some (.directRead t (look s.engine.prt t).gen e.line i.offset n)) ∧
    (∀ i rest, e.kind = .directWrite → e.waiting = i :: rest → 1 ≤ i.len → i.offset.toNat + i.len ≤ 64 →
      ∃ m : BitVec 64,
        (∀ j : Nat, j < 64 → m.getLsbD j = (decide (i.offset.toNat ≤ j) && decide (j < i.offset.toNat + i.len))) ∧
        s.itemMessage (.prt t) = some (.directWrite t (look s.engine.prt t).gen e.line m i.data))) ∧
  (∀ s : State,
    (∀ (l : LineNo) (q : RqEntry), s.findRq l = some q → s.itemMessage (.rq l) = some (.giveBack l q.data)) ∧
    (1 ≤ s.ctl.start.expected.toNat → s.ctl.start.expected.toNat ≤ 16 →
      ∃ f : BitVec 4, f.toNat + 1 = s.ctl.start.expected.toNat ∧
        s.itemMessage .announce = some (.announce f ((s.ctl.start.slots.toList.filter (·.valid)).map fun (c : ClaimSlot) =>
          { segment := c.segment
            access := if c.access = 0 then .none else if c.access = 1 then .readOnly else if c.access = 2 then .writeOnly
              else .readWrite
            kind := if c.kind.getLsbD 0 then .direct else .cached }))) ∧
    ∃ v : StationSet, (∀ n : StationNo, v.has n = (look s.ctl.roll.announced n).isSome) ∧ s.itemMessage .ready = some (.ready v)) ∧
  ∀ s : State,
    s.declares .current = s.contends ∧
    (s.ctl.mode = .dormant ∨ s.ctl.mode = .isolated ∨ s.ctl.mode = .parked → s.contends = none) ∧
    (s.ctl.mode = .enrolling → s.contends = if s.bus.sendList = [] then none else some .request) ∧
    (s.ctl.mode = .operational ∨ s.ctl.mode = .quiescing ∨ s.ctl.mode = .quiesced →
      ((∃ e ∈ s.bus.sq, e.converting = false) → s.contends = some .data) ∧
      ((∀ e ∈ s.bus.sq, e.converting = true) → s.contends = if s.bus.sendList = [] then none else some .request))

/-! ### The pool bus: messages -/

/-- R41, R168, 11.1: every request message within its ranges that is sent is found sound, with every field as it was sent. R38, R168:
every other run of bytes is found damaged: one whose check is wrong, one with a set bit where the header's bits 7 to 5 must be zero, and
any that is not byte for byte a request message within its ranges. -/
def Obligations.RequestMessageSoundOrDamaged : Prop :=
  (∀ (n : StationNo) (r : Request), r.wf = true → parseRequest (encodeRequest n r) = some (n, r)) ∧
  (∀ (bytes : List Byte) (hi lo : Byte), (hi ++ lo : BitVec 16) ≠ crc16 bytes → parseRequest (bytes ++ [hi, lo]) = none) ∧
  (∀ (kind header : Byte) (rest : List Byte), header.extractLsb' 5 3 ≠ 0 → parseRequest (kind :: header :: rest) = none) ∧
  ∀ (bytes : List Byte) (n : StationNo) (r : Request),
    parseRequest bytes = some (n, r) → r.wf = true ∧ bytes = encodeRequest n r

/-- R47, R168, 11.1: every data message that keeps its constraints is found sound, with every field as it was sent. R38, R168: every other
run of bytes is found damaged: one whose check is wrong, one with a set bit where the header's bits 7 to 5 must be zero, and any that is
not byte for byte a data message that keeps its constraints. -/
def Obligations.DataMessageSoundOrDamaged : Prop :=
  (∀ (n : StationNo) (m : DataMsg), m.wf = true → parseData (encodeData n m) = some (n, m)) ∧
  (∀ (bytes : List Byte) (hi lo : Byte), (hi ++ lo : BitVec 16) ≠ crc16 bytes → parseData (bytes ++ [hi, lo]) = none) ∧
  (∀ (kind header : Byte) (rest : List Byte), header.extractLsb' 5 3 ≠ 0 → parseData (kind :: header :: rest) = none) ∧
  ∀ (bytes : List Byte) (n : StationNo) (m : DataMsg),
    parseData bytes = some (n, m) → m.wf = true ∧ bytes = encodeData n m

/-- R43: what a station drives at the arrival of a peer's request, by its state, and the change of state an Enrolling station makes. R48,
R49, R146, R153: the same for a data message: a damaged one is Garbled in both positions at every station from Enrolling to Quiesced; a
sound one takes an Enrolling station to Isolated with LATE_JOIN; a Dormant station notes the gap; a station that is no party drives
nothing and changes nothing. -/
def Obligations.ArrivalByState : Prop :=
  (∀ (s : State) (bytes : List Byte), s.bus.medium = .idle → ∀ msg, parseRequest bytes = msg →
    (s.ctl.mode = .parked → exec (.requestArrival bytes) s = .next { s with out := noOutput }) ∧
    (s.ctl.mode = .dormant → ∃ t, exec (.requestArrival bytes) s = .next t ∧
      t.bus.medium = .answering (plainWindow msg none) ∧
      t.ctl.roll.gap = (s.ctl.roll.gap || match msg with | none => true | some (_, r) => !r.enrolment)) ∧
    (s.ctl.mode = .enrolling → ∃ t, exec (.requestArrival bytes) s = .next t ∧
      t.bus.medium = .answering (plainWindow msg (some (if msg = none then .void else .clear))) ∧
      (∀ n r, msg = some (n, r) → r.enrolment = false → t.ctl.mode = .isolated) ∧
      ((∀ n r, msg = some (n, r) → r.enrolment = true) → t.ctl.mode = .enrolling)) ∧
    (s.ctl.mode = .isolated → ∃ t, exec (.requestArrival bytes) s = .next t ∧
      t.bus.medium = .answering (plainWindow msg (some .clear))) ∧
    (s.ctl.mode.member = true → ∃ t, exec (.requestArrival bytes) s = .next t ∧
      (msg = none → t.bus.medium = .answering (plainWindow none (some .void))) ∧
      (∀ n r, msg = some (n, r) → r.enrolment = true →
        t.bus.medium = .answering (plainWindow msg (some .clear)) ∧ t.bus.latePeers.has n = true) ∧
      (∀ n r, msg = some (n, r) → r.enrolment = false → s.ctl.enrolled.has n = false →
        t.bus.medium = .answering (plainWindow msg (some .again))) ∧
      (∀ n r, msg = some (n, r) → r.enrolment = false → s.ctl.enrolled.has n = true →
        t.bus.medium = .answering
          { msg := msg, own := none, drives := some (s.judgeRequest r).1, record := (s.judgeRequest r).2 }))) ∧
  ∀ (s : State) (bytes : List Byte),
    (∀ homeTake, s.ctl.mode ≠ .parked → s.bus.medium = .sent (.data homeTake) →
      exec (.dataMessageArrival bytes) s = .next
        { s with bus.medium := .acking { own := true, homeTake := homeTake, dest := none, home := none }, out := noOutput }) ∧
    (s.ctl.mode = .parked → exec (.dataMessageArrival bytes) s = .next { s with out := noOutput }) ∧
    (s.bus.medium = .idle →
      (s.ctl.mode = .dormant →
        exec (.dataMessageArrival bytes) s = .next
          { s with
            ctl.roll.gap := true
            bus.medium := .acking { own := false, homeTake := false, dest := none, home := none }
            out := noOutput }) ∧
      (s.ctl.mode = .isolated →
        exec (.dataMessageArrival bytes) s = .next
          { s with bus.medium := .acking { own := false, homeTake := false, dest := none, home := none }, out := noOutput }) ∧
      (parseData bytes = none → (s.ctl.mode = .enrolling ∨ s.ctl.mode.member = true) →
        exec (.dataMessageArrival bytes) s = .next
          { s with
            bus.medium := .acking { own := false, homeTake := false, dest := some .garbled, home := some .garbled }
            out := noOutput }) ∧
      (∀ n m, parseData bytes = some (n, m) →
        (s.ctl.mode = .enrolling → s.lpu.log.length < 8 →
          exec (.dataMessageArrival bytes) s = .next
            { s with
              ctl.mode := .isolated
              ctl.roll.timer := none
              lpu.stateChange := true
              lpu.log := s.lpu.log ++ [{ kind := .lateJoin, peer := some n }]
              bus :=
                { s.bus with
                  sendList := (s.bus.sendList.filter (· != .announce)).filter (· != .ready)
                  medium := .acking { own := false, homeTake := false, dest := none, home := none } }
              out := noOutput }) ∧
        (s.ctl.mode.member = true → m.dest ≠ s.number → s.still = true →
          (s.homesLine m.line = false ∨ (m.homeTake = false ∧ m.status ≠ .abandoned)) →
          exec (.dataMessageArrival bytes) s = .next
            { s with
              bus.medium := .acking { own := false, homeTake := m.homeTake, dest := none, home := none }
              out := noOutput })))

/-- R42, R43: the arrival of an enrolled peer's request at a member opens its window and changes nothing else, but where R99 marks a victim;
a waiting head is not judged at it (R25, R111, R159). R28, R43: the arrival of the station's own request opens its window with its position
silent. R99: a Fetch, Claim or Promote that finds its set full marks the oldest entry with recall state none; R63, R117: where a PRT entry
is free its victim recall is made at once. -/
def Obligations.RequestArrivalOpensWindow : Prop :=
  (∀ (s : State) (bytes : List Byte) (n : StationNo) (r : Request),
      s.calm = true → (s.portEmpty = true ∨ ∃ d, s.lpu.head = some d) → s.ctl.mode.member = true → s.bus.medium = .idle →
      parseRequest bytes = some (n, r) →
      r.enrolment = false → s.ctl.enrolled.has n = true →
      (∀ l, r.line? = some l → s.homesLine l = true → s.exportFull l = false) →
      exec (.requestArrival bytes) s = .next
        { s with
          bus.medium := .answering
            { msg := some (n, r), own := none, drives := some (s.judgeRequest r).1, record := (s.judgeRequest r).2 }
          out := noOutput }) ∧
  (∀ (s : State) (bytes : List Byte) (i : SendItem) (r : Request),
      s.ctl.mode ≠ .parked → s.bus.medium = .sent (.request i r) →
      exec (.requestArrival bytes) s = .next
        { s with
          bus.medium := .answering { msg := some (s.number, r), own := some i, drives := none, record := .nothing }
          out := noOutput }) ∧
  ∀ (s : State) (bytes : List Byte) (n : StationNo) (k : LineKind) (t : ReqTag) (g : Gen) (l : LineNo),
    s.still = true → s.ctl.mode.member = true → s.ctl.mode ≠ .quiescing → s.bus.medium = .idle →
    parseRequest bytes = some (n, .line k t g l) → k ≠ .recall → s.ctl.enrolled.has n = true →
    s.homesLine l = true → s.exportFull l = true →
    ((∀ x ∈ s.exportSet l, x.state ≠ .none) →
      exec (.requestArrival bytes) s = .next
        { s with
          bus.medium := .answering
            { msg := some (n, .line k t g l), own := none, drives := some (s.judgeRequest (.line k t g l)).1
              record := (s.judgeRequest (.line k t g l)).2 }
          out := noOutput }) ∧
    ∀ (older newer : List ExportEntry) (x : ExportEntry),
      s.exportSet l = older ++ x :: newer → (∀ y ∈ older, y.state ≠ .none) → x.state = .none →
      (s.freeTag = none →
        exec (.requestArrival bytes) s = .next
          { s with
            home :=
              { s.home with
                exports := put s.home.exports (exportIndex x.line)
                  ((s.exportSet x.line).map fun y => if y.line = x.line then { y with state := .wanted } else y)
                wanted := s.home.wanted ++ [x.line] }
            bus.medium := .answering
              { msg := some (n, .line k t g l), own := none, drives := some (s.judgeRequest (.line k t g l)).1
                record := (s.judgeRequest (.line k t g l)).2 }
            out := noOutput }) ∧
      (∀ u, s.freeTag = some u → s.home.wanted = [] → s.findExport x.line = some x → x.awaiting = none →
        exec (.requestArrival bytes) s = .next
          { s with
            engine := (s.setEntry u (.fresh .recall x.line none [] .victim)).engine
            home.exports := put s.home.exports (exportIndex x.line)
              ((s.exportSet x.line).map fun y => if y.line = x.line then { y with state := .inFlight } else y)
            bus :=
              { s.bus with
                sendList := s.bus.sendList.filter (· != .prt u) ++ [.prt u]
                medium := .answering
                  { msg := some (n, .line k t g l), own := none, drives := some (s.judgeRequest (.line k t g l)).1
                    record := (s.judgeRequest (.line k t g l)).2 } }
            out := noOutput })

/-! ### The pool bus: judgements -/

/-- R31, R32: the Line Cache's judgement and recorded change, for each state and kind. -/
def Obligations.LineCacheSnoopTable : Prop :=
  ∀ (s : State) (l : LineNo) (w : WayNo) (x : LineData),
    (s.held l = none → ∀ k, s.cacheJudge k l = (.clear, .none, false)) ∧
    (s.held l = some (w, .copy, x) →
      s.cacheJudge .fetch l = (.shared, .none, false) ∧
      ∀ k ∈ [LineKind.claim, .promote, .recall], s.cacheJudge k l = (.shared, .toVacant, false)) ∧
    (∀ st ∈ [LineState.sole, .altered], s.held l = some (w, st, x) → s.pinned l = true →
      ∀ k, s.cacheJudge k l = (.again, .none, false)) ∧
    (s.held l = some (w, .sole, x) → s.pinned l = false →
      s.cacheJudge .fetch l = (.shared, .toCopy, false) ∧ s.cacheJudge .claim l = (.shared, .toVacant, false) ∧
      s.cacheJudge .promote l = (.again, .none, false) ∧ s.cacheJudge .recall l = (.shared, .toVacant, false)) ∧
    (s.held l = some (w, .altered, x) → s.pinned l = false →
      s.cacheJudge .promote l = (.again, .none, false) ∧
      (s.bus.sq.length + s.sqHeld < 8 →
        s.cacheJudge .fetch l = (.supply, .toCopy, true) ∧ s.cacheJudge .claim l = (.supply, .toVacant, true) ∧
        s.cacheJudge .recall l = (.supply, .toVacant, true)) ∧
      (8 ≤ s.bus.sq.length + s.sqHeld →
        ∀ k ∈ [LineKind.fetch, .claim, .recall], s.cacheJudge k l = (.again, .none, false)))

/-- R75: the Request Engine's judgement and recorded change, for each kind and phase of the line's entry. -/
def Obligations.RequestEngineSnoopTable : Prop :=
  ∀ (e : PrtEntry) (t : ReqTag) (k : LineKind),
    (e.phase = .finishing → e.judge t k = (.again, .none)) ∧
    (e.kind = .fetch → e.phase = .queued → e.judge t k = (.clear, .none)) ∧
    (e.kind = .fetch → e.phase = .awaitingData →
      e.judge t k = if k = .fetch then (.shared, .downgrade t) else (.clear, .drop t)) ∧
    (e.kind = .claim → e.phase = .queued →
      e.judge t k = if e.follower = none then (.clear, .none) else (.again, .none)) ∧
    (e.kind = .claim → e.phase = .awaitingData →
      e.judge t k = if e.follower = none ∧ (∀ i ∈ e.waiting, i.op ≠ .pinnedRead) then (.follow, .follow t) else (.again, .none)) ∧
    (e.kind = .promote → e.phase = .queued →
      e.judge t k = if k = .fetch then (.shared, .none) else (.shared, .convert t)) ∧
    (∀ x ∈ [PrtKind.directRead, .directWrite, .recall], e.kind = x → e.phase ≠ .finishing → e.judge t k = (.clear, .none))

/-- R98, R100: the home's judgement. -/
def Obligations.HomeAnswerRule : Prop :=
  ∀ (s : State) (k : LineKind) (t : ReqTag) (g : Gen) (l : LineNo),
    (k ≠ .recall →
      ((k ≠ .promote ∧ s.hwqFree = false) ∨
        (∃ x, s.findExport l = some x ∧ (x.state ≠ .none ∨ x.awaiting.isSome = true)) ∨ s.pinned l = true ∨
        (s.findExport l = none ∧ 8 ≤ (s.exportSet l).length) →
        s.homeJudge (.line k t g l) = (.again, false, false)) ∧
      (¬((k ≠ .promote ∧ s.hwqFree = false) ∨
        (∃ x, s.findExport l = some x ∧ (x.state ≠ .none ∨ x.awaiting.isSome = true)) ∨ s.pinned l = true ∨
        (s.findExport l = none ∧ 8 ≤ (s.exportSet l).length)) →
        s.homeJudge (.line k t g l) = (.clear, true, k != .promote))) ∧
    s.homeJudge (.line .recall t g l) = (.again, false, false) ∧
    ∀ d off len mask bs, ∀ r ∈ [Request.giveBack l d, .directRead t g l off len, .directWrite t g l mask bs],
      s.homeJudge r = if s.hwqFree = true then (.clear, true, true) else (.again, false, false)

/-- R42: the station's answer to a request is the strongest judgement of its blocks, and what it records is what each block records. The
blocks: the Line Cache and the Request Engine as their own tables say (R31, R75), the Return Unit (R125), the Pin Table (R137), the Supply
Queue (R54), the Home Unit where this station homes the line (R14); for a Return, Direct Read or Direct Write the Line Cache, the Pin Table
and the Return Unit judge Clear, and the Request Engine Again for a Finishing entry alone (R75). -/
def Obligations.StationAnswerIsStrongestJudgement : Prop :=
  ∀ (s : State) (l : LineNo),
    (∀ (k : LineKind) (t : ReqTag) (g : Gen) (codes : List AnswerCode),
      codes = [(s.cacheJudge k l).1, (s.returnJudge k l (s.cacheJudge k l).2.2.toNat).1, (s.engineJudge k l).1,
        (s.homeRole (.line k t g l) l).1, s.pinJudge l, s.transitJudge l] →
      (s.judgeRequest (.line k t g l)).1 ∈ codes ∧
      (∀ c ∈ codes, c.value.toNat ≤ (s.judgeRequest (.line k t g l)).1.value.toNat) ∧
      (s.judgeRequest (.line k t g l)).2 =
        { cache := (s.cacheJudge k l).2.1, supply := (s.cacheJudge k l).2.2
          takeover := (s.returnJudge k l (s.cacheJudge k l).2.2.toNat).2, engine := (s.engineJudge k l).2
          home := (s.homeRole (.line k t g l) l).2.1, homeHold := (s.homeRole (.line k t g l) l).2.2 }) ∧
    (∀ (r : Request) (codes : List AnswerCode), r.line? = some l → (∀ k t g, r ≠ .line k t g l) →
      codes = [s.finishingJudge l, (s.homeRole r l).1, s.transitJudge l] →
      (s.judgeRequest r).1 ∈ codes ∧ (∀ c ∈ codes, c.value.toNat ≤ (s.judgeRequest r).1.value.toNat) ∧
      (s.judgeRequest r).2 =
        { cache := .none, supply := false, takeover := false, engine := .none
          home := (s.homeRole r l).2.1, homeHold := (s.homeRole r l).2.2 }) ∧
    (∀ (k : LineKind) (taken : Nat),
      (s.findRq l = none → s.returnJudge k l taken = (.clear, false)) ∧
      (s.findRq l ≠ none → k = .promote → s.returnJudge k l taken = (.again, false)) ∧
      (s.findRq l ≠ none → k ≠ .promote → s.bus.sq.length + s.sqHeld + taken < 8 → s.returnJudge k l taken = (.supply, true)) ∧
      (s.findRq l ≠ none → k ≠ .promote → 8 ≤ s.bus.sq.length + s.sqHeld + taken → s.returnJudge k l taken = (.again, false))) ∧
    (s.pinJudge l = if ∃ p, s.findPin l = some p ∧ (p.held = true ∨ p.path = .home) then .again else .clear) ∧
    (s.transitJudge l = if ∃ e ∈ s.bus.sq, e.onlyFresh = true ∧ e.msg.line = l then .again else .clear) ∧
    ((s.findEntry l = none → s.finishingJudge l = .clear ∧ ∀ k, s.engineJudge k l = (.clear, .none)) ∧
      ∀ t e, s.findEntry l = some t → s.entry t = some e →
        (s.finishingJudge l = if e.phase = .finishing then .again else .clear) ∧ ∀ k, s.engineJudge k l = e.judge t k) ∧
    ∀ r : Request, s.homeRole r l = if s.homesLine l = true then s.homeJudge r else (.clear, false, false)

/-- R44: the combined answer is the strongest code driven in any position, and Clear where every position is silent. -/
def Obligations.CombinedAnswerIsStrongest : Prop :=
  ∀ (driven : Table (BitVec 3) 4) (own : Option AnswerCode),
    ∃ m : BitVec 3,
      (∀ i : StationNo, (look driven i).toNat ≤ m.toNat) ∧ (∀ c, own = some c → c.value.toNat ≤ m.toNat) ∧
      (m = 0 ∨ (∃ i : StationNo, look driven i = m) ∨ ∃ c, own = some c ∧ c.value = m) ∧
      combine driven own =
        (if m.toNat ≤ 1 then .clear else if m = 2 then .shared else if m = 3 then .supply else if m = 4 then .follow
         else if m = 5 then .again else .void)

/-! ### The pool bus: closes of answer windows -/

/-- R45: at a close of Void or Again a peer's request is cancelled: no recorded change is applied, and nothing but the window's end
happens. R70: the station's own request, its retry count staying below 64, rejoins the tail of the send list with its count one higher; at
the 64th cancellation it ends: every request of its list is answered RETRY_EXHAUSTED in list order and the end is recorded, a reserved way
becomes empty, a pending pin is removed (R135), a recall leaves its line's Export Table entry with recall state none (R118), and the entry
is freed; where it has a follower it owes it an Abandoned message, for which it is Finishing until it has an SQ place (R90). R124: an own
Return rejoins the tail of the send list. -/
def Obligations.CancelledWindowOutcomes : Prop :=
  (∀ (s : State) (driven : Table (BitVec 3) 4) (w : Window) (n : StationNo) (r : Request),
      s.bus.medium = .answering w → w.own = none → w.msg = some (n, r) → r.enrolment = false →
      (combine driven w.drives = .void ∨ combine driven w.drives = .again) → s.noHeldExpiry = true →
      ({ s with bus.medium := .idle } : State).still = true →
      exec (.answerWindowClose driven) s = .next { s with bus.medium := .idle, out := noOutput }) ∧
  (∀ (s : State) (driven : Table (BitVec 3) 4) (w : Window) (n : StationNo) (r : Request) (t : ReqTag) (e : PrtEntry),
      s.bus.medium = .answering w → w.own = some (.prt t) → w.msg = some (n, r) → r.enrolment = false →
      s.entry t = some e → e.retry < 63 →
      (combine driven w.drives = .void ∨ combine driven w.drives = .again) → s.noHeldExpiry = true →
      ({ s with bus.medium := .idle } : State).still = true →
      exec (.answerWindowClose driven) s = .next
        { s with
          engine := (s.setEntry t { e with retry := e.retry + 1 }).engine
          bus := { s.bus with medium := .idle, sendList := s.bus.sendList.filter (· != .prt t) ++ [.prt t] }
          out := noOutput }) ∧
  (∀ (s : State) (driven : Table (BitVec 3) 4) (w : Window) (n : StationNo) (r : Request) (t : ReqTag) (e : PrtEntry),
      s.bus.medium = .answering w → w.own = some (.prt t) → w.msg = some (n, r) → r.enrolment = false →
      s.entry t = some e → 63 ≤ e.retry →
      (combine driven w.drives = .void ∨ combine driven w.drives = .again) → s.noHeldExpiry = true →
      s.lpu.log.length < 8 → s.home.wanted = [] → ({ s with bus.medium := .idle } : State).still = true →
      s.ctl.mode ≠ .quiescing →
      (e.follower = none →
        exec (.answerWindowClose driven) s = .next
          { s.afterFailing e .retryExhausted [s.endRecord e .retryExhausted] with
            home.exports := s.exportsAfterEnd e
            engine := (s.freeEntry t).engine
            bus := { (s.freeEntry t).bus with medium := .idle } }) ∧
      ∀ f, e.follower = some f →
        (s.bus.sq.length < 8 →
          exec (.answerWindowClose driven) s = .next
            { s.afterFailing e .retryExhausted [s.endRecord e .retryExhausted] with
              home.exports := s.exportsAfterEnd e
              engine := (s.freeEntry t).engine
              bus :=
                { (s.freeEntry t).bus with medium := .idle, sq := s.bus.sq ++ [newSqEntry (abandonedFor f e.line) false] } }) ∧
        (8 ≤ s.bus.sq.length →
          exec (.answerWindowClose driven) s = .next
            { s.afterFailing e .retryExhausted [s.endRecord e .retryExhausted] with
              home.exports := s.exportsAfterEnd e
              engine := (s.setEntry t { e.ended with retry := e.retry + 1 }).engine
              bus := { s.bus with medium := .idle, askers := s.bus.askers ++ [.prt t] } })) ∧
  ∀ (s : State) (driven : Table (BitVec 3) 4) (w : Window) (n : StationNo) (r : Request) (l : LineNo) (q : RqEntry),
    s.bus.medium = .answering w → w.own = some (.rq l) → w.msg = some (n, r) → r.enrolment = false → s.findRq l = some q →
    (combine driven w.drives = .void ∨ combine driven w.drives = .again) → s.noHeldExpiry = true →
    ({ s with bus.medium := .idle } : State).still = true →
    exec (.answerWindowClose driven) s = .next
      { s with
        bus := { s.bus with medium := .idle, sendList := s.bus.sendList.filter (· != .rq l) ++ [.rq l] }
        out := noOutput }

/-- R67, R69: a Fetch, Claim or Direct Read whose window closes with any other answer, and a Recall whose window closes Supply or Follow, waits
for data: phase, expected grant and timer are set, and nothing else changes. R68: a Promote whose window closes Supply or Follow becomes
a Claim that waits for data, its way emptied and reserved. -/
def Obligations.OwnRequestAwaitsData : Prop :=
  (∀ (s : State) (driven : Table (BitVec 3) 4) (w : Window) (n : StationNo) (r : Request) (t : ReqTag) (e : PrtEntry),
    s.bus.medium = .answering w → w.own = some (.prt t) → w.msg = some (n, r) → r.enrolment = false →
    s.entry t = some e →
    (e.kind = .fetch ∨ e.kind = .claim ∨ e.kind = .directRead ∨
      (e.kind = .recall ∧ (combine driven w.drives = .supply ∨ combine driven w.drives = .follow))) →
    combine driven w.drives ≠ .void → combine driven w.drives ≠ .again → s.noHeldExpiry = true →
    ({ s with bus.medium := .idle } : State).still = true →
    exec (.answerWindowClose driven) s = .next
      { s with
        engine := (s.setEntry t
          { e with
            phase := .awaitingData
            expected := some (if e.kind = .fetch then (if combine driven w.drives = .clear then .sole else .copy)
                              else if e.kind = .claim then .sole else .none)
            timer := some s.ctl.start.dataTimeout }).engine
        bus.medium := .idle, out := noOutput }) ∧
  ∀ (s : State) (driven : Table (BitVec 3) 4) (w : Window) (n : StationNo) (r : Request) (t : ReqTag) (e : PrtEntry) (v : WayNo),
    s.bus.medium = .answering w → w.own = some (.prt t) → w.msg = some (n, r) → r.enrolment = false →
    s.entry t = some e → e.kind = .promote → e.way = some v →
    (combine driven w.drives = .supply ∨ combine driven w.drives = .follow) → s.noHeldExpiry = true →
    ({ s with bus.medium := .idle } : State).still = true → s.ctl.mode ≠ .quiescing →
    exec (.answerWindowClose driven) s = .next
      { s with
        cache := (s.setWay e.line v (.reserved e.line)).cache
        engine := (s.setEntry t
          { e with
            kind := .claim, phase := .awaitingData, expected := some .sole, timer := some s.ctl.start.dataTimeout }).engine
        bus.medium := .idle, out := noOutput }

/-- What completes at its own close, where the window is not cancelled. R68, R61, R21, R18, R81, R135: a Promote closed Clear or Shared:
its waiting list, of any length, is served in its order against the line, each request seeing those before it (a Pinned Write that finds
no held pin at its turn is PIN_LOST: the model's reading of R135 and R138, log 16); its way holds the line as Sole, or Altered where bytes
were merged, and the entry is freed with its generation one higher. R69: a Direct Write is answered OK and freed. R115: a Recall closed
Clear or Shared: its line leaves the Export Table, the requests of its list join the HWQ in list order, and the entry is freed. R124: a
Return leaves the RQ, and its waiting flushes are answered OK; R55, R121: where a conversion waits, the one that has waited longest takes
the freed RQ entry in the same event. -/
def Obligations.OwnRequestCompletesAtClose : Prop :=
  ∀ (s : State) (driven : Table (BitVec 3) 4) (w : Window) (n : StationNo) (r : Request),
    s.bus.medium = .answering w → w.msg = some (n, r) → r.enrolment = false →
    combine driven w.drives ≠ .void → combine driven w.drives ≠ .again → s.noHeldExpiry = true →
    s.home.wanted = [] → ({ s with bus.medium := .idle } : State).still = true → s.ctl.mode ≠ .quiescing →
    (∀ (t : ReqTag) (e : PrtEntry) (v : WayNo) (x : LineData) (q : Served),
      w.own = some (.prt t) → s.entry t = some e → e.kind = .promote → e.way = some v →
      s.wayAt e.line v = .holding e.line .copy x → q = servedBy s.ctl.start.pinLimit e.line s.cache.pins x e.waiting →
      (combine driven w.drives = .clear ∨ combine driven w.drives = .shared) →
      exec (.answerWindowClose driven) s = .next
        { s with
          lpu.tags := s.tagsWithoutAll (q.responses.map (·.tag))
          cache :=
            { sets := ((s.setWay e.line v (.holding e.line (if q.altered then .altered else .sole) q.line)).touch e.line v).cache.sets
              pins := q.pins }
          engine := (s.freeEntry t).engine
          bus := { (s.freeEntry t).bus with medium := .idle }
          out := { responses := q.responses, sent := none } }) ∧
    (∀ (t : ReqTag) (e : PrtEntry) (i : Item),
      w.own = some (.prt t) → s.entry t = some e → e.kind = .directWrite → e.waiting = [i] →
      exec (.answerWindowClose driven) s = .next
        { s with
          lpu.tags := s.tagsWithout i.tag
          engine := (s.freeEntry t).engine
          bus := { (s.freeEntry t).bus with medium := .idle }
          out := oneResponse i.tag .ok .none }) ∧
    (∀ (t : ReqTag) (e : PrtEntry),
      w.own = some (.prt t) → s.entry t = some e → e.kind = .recall →
      (combine driven w.drives = .clear ∨ combine driven w.drives = .shared) →
      exec (.answerWindowClose driven) s = .next
        { s with
          engine := (s.freeEntry t).engine
          home :=
            { s.home with
              exports := put s.home.exports (exportIndex e.line) ((s.exportSet e.line).filter fun y => y.line != e.line)
              hwq := s.home.hwq ++ e.waiting.map fun i => { addr := s.memAddr e.line i.offset, work := i.hwqWork e.line }
              port := if s.home.port = .idle ∧ e.waiting ≠ [] then .busy else s.home.port }
          bus := { (s.freeEntry t).bus with medium := .idle }
          out := noOutput }) ∧
    ∀ (l : LineNo) (q : RqEntry),
      w.own = some (.rq l) → s.findRq l = some q →
      ∀ returned : State, returned =
        { s with
          lpu.tags := s.tagsWithoutAll q.flushes
          ret.rq := s.ret.rq.filter fun e => e.line != l
          bus := { s.bus with medium := .idle, sendList := s.bus.sendList.filter (· != .rq l) }
          out := allOk q.flushes } →
        ((∀ e ∈ s.bus.sq, e.converting = false) → exec (.answerWindowClose driven) s = .next returned) ∧
        ((∃ e ∈ s.bus.sq, e.converting = true) → ∃ v, exec .conversionToReturn returned = .next v ∧
          exec (.answerWindowClose driven) s = .next { v with out := returned.out }) ∧
        ∀ (before after : List SqEntry) (e : SqEntry) (x : LineData),
          s.bus.sq = before ++ e :: after → (∀ y ∈ before, y.converting = false) → e.converting = true → e.msg.data = some x →
          (s.ret.rq.filter fun y => y.line != l).length = 3 → s.bus.askers = [] → s.lpu.log.length < 8 →
          exec (.answerWindowClose driven) s = .next
            { returned with
              ret.rq := returned.ret.rq ++ [{ line := e.msg.line, data := x, flushes := [] }]
              cache := (s.emptyCopy e.msg.line).cache
              bus :=
                { returned.bus with
                  sq := before ++ after
                  sendList := returned.bus.sendList.filter (· != .rq e.msg.line) ++ [.rq e.msg.line] }
              lpu.log := s.lpu.log ++
                [{ kind := if (if e.msg.homeTake then e.homeState else e.destState) = .stale then .staleData else .resendExhausted
                   line := some e.msg.line
                   peer := if e.msg.homeTake then s.homeOf e.msg.line else some e.msg.dest }] }

/-- R46: at the close, not cancelled, of a peer's Fetch, Claim, Promote or Recall, a station that recorded a change applies it. R31, R32,
R34, R54: a held line's way changes as recorded, and a held place becomes an SQ entry with the line's bytes that holds the only fresh
data. R126: a takeover does so with an RQ entry's bytes, which leaves the RQ, its waiting flushes answered OK; R55, R121: a conversion
that waits takes the freed RQ entry in the same event, as the row CONVERSION_TO_RETURN does. R76, R77: the marks of a Fetch, and a Promote
that becomes a Claim, its emptied way reserved. R78, R83: a follower is recorded at a close of Follow alone. -/
def Obligations.PeerRequestAppliedAtClose : Prop :=
  ∀ (s : State) (driven : Table (BitVec 3) 4) (w : Window) (n : StationNo) (k : LineKind) (t : ReqTag) (g : Gen) (l : LineNo),
    s.bus.medium = .answering w → w.own = none → w.msg = some (n, .line k t g l) →
    combine driven w.drives ≠ .void → combine driven w.drives ≠ .again → s.noHeldExpiry = true →
    ({ s with bus.medium := .idle } : State).still = true → s.ctl.mode ≠ .quiescing →
    (∀ (v : WayNo) (st : LineState) (x : LineData) (ch : CacheChange) (sup : Bool),
      s.held l = some (v, st, x) → w.record = { Recorded.nothing with cache := ch, supply := sup } →
      exec (.answerWindowClose driven) s = .next
        { s with
          cache := (match ch with
            | .none => s
            | .toCopy => s.setWay l v (.holding l .copy x)
            | .toVacant => s.setWay l v .empty : State).cache
          bus :=
            { s.bus with
              medium := .idle
              sq := s.bus.sq ++
                if sup then
                  [newSqEntry
                    { dest := n, tag := t, gen := g, line := l
                      grant := if k = .fetch then .copy else if k = .claim then .sole else .none
                      homeTake := k == .fetch, status := .good, data := some x } true]
                else [] }
          out := noOutput }) ∧
    (∀ q : RqEntry,
      s.findRq l = some q → w.record = { Recorded.nothing with takeover := true } →
      ∀ taken : State, taken =
        { s with
          lpu.tags := s.tagsWithoutAll q.flushes
          ret.rq := s.ret.rq.filter fun e => e.line != l
          bus :=
            { s.bus with
              medium := .idle
              sendList := s.bus.sendList.filter (· != .rq l)
              sq := s.bus.sq ++
                [newSqEntry
                  { dest := n, tag := t, gen := g, line := l
                    grant := if k = .fetch then .copy else if k = .claim then .sole else .none
                    homeTake := k == .fetch, status := .good, data := some q.data } true] }
          out := allOk q.flushes } →
        ((∀ e ∈ s.bus.sq, e.converting = false) → exec (.answerWindowClose driven) s = .next taken) ∧
        ((∃ e ∈ s.bus.sq, e.converting = true) → ∃ v, exec .conversionToReturn taken = .next v ∧
          exec (.answerWindowClose driven) s = .next { v with out := taken.out })) ∧
    ∀ (u : ReqTag) (e : PrtEntry), s.entry u = some e →
      (w.record = { Recorded.nothing with engine := .downgrade u } →
        exec (.answerWindowClose driven) s = .next
          { s with engine := (s.setEntry u { e with downgrade := true }).engine, bus.medium := .idle, out := noOutput }) ∧
      (w.record = { Recorded.nothing with engine := .drop u } →
        exec (.answerWindowClose driven) s = .next
          { s with engine := (s.setEntry u { e with dropAfterUse := true }).engine, bus.medium := .idle, out := noOutput }) ∧
      (∀ (v : WayNo) (x : LineData), e.line = l → e.way = some v → s.held l = some (v, .copy, x) →
        w.record = { Recorded.nothing with cache := .toVacant, engine := .convert u } →
        exec (.answerWindowClose driven) s = .next
          { s with
            cache := (s.setWay l v (.reserved l)).cache
            engine := (s.setEntry u { e with kind := .claim }).engine
            bus.medium := .idle
            out := noOutput }) ∧
      (w.record = { Recorded.nothing with engine := .follow u } →
        exec (.answerWindowClose driven) s = .next
          { s with
            engine :=
              if combine driven w.drives = .follow then
                (s.setEntry u
                  { e with
                    follower := some
                      { station := n, tag := t, gen := g
                        kind := if k = .fetch then .fetch else if k = .recall then .recall else .claim } }).engine
              else s.engine
            bus.medium := .idle
            out := noOutput })

/-- R46: what the home that judged Clear does at the close, not cancelled, of a peer's request. R102: a Return queues its return-write, and
the line's entry changes by the entry's state. R101, R108: a Fetch, Claim or Promote creates or sets the line's entry with the class its
combined answer gives, and queues a supply-read or sets the awaiting-data flag; a Direct Read or Direct Write is queued. R104: an idle
memory port begins. -/
def Obligations.HomeAppliesAtClose : Prop :=
  ∀ (s : State) (driven : Table (BitVec 3) 4) (w : Window) (n : StationNo) (r : Request) (l : LineNo) (c : AnswerCode),
    s.bus.medium = .answering w → w.own = none → w.msg = some (n, r) →
    w.record = { Recorded.nothing with home := true, homeHold := w.record.homeHold } →
    combine driven w.drives = c → c ≠ .void → c ≠ .again → s.noHeldExpiry = true →
    ({ s with bus.medium := .idle } : State).still = true →
    (∀ d : LineData, r = .giveBack l d →
      ((s.findExport l = none ∨ ∃ x, s.findExport l = some x ∧ x.state = .inFlight) →
        exec (.answerWindowClose driven) s = .next (s.afterHomeClose l (s.exportSet l) [.returnWrite l n d])) ∧
      (∀ x, s.findExport l = some x → x.cls = .soleOut → x.state ≠ .inFlight →
        exec (.answerWindowClose driven) s = .next
          { s.afterHomeClose l ((s.exportSet l).filter fun y => y.line != l) [.returnWrite l n d] with
            home.wanted := s.home.wanted.filter (· != l) }) ∧
      (∀ x, s.findExport l = some x → x.cls = .sharedOut → x.state ≠ .inFlight → (s.home.wanted = [] ∨ s.freeTag = none) →
        exec (.answerWindowClose driven) s = .next
          (s.afterHomeClose l ((s.exportSet l).map fun y => if y.line = l then { y with awaiting := none } else y)
            [.returnWrite l n d]))) ∧
    (∀ (t : ReqTag) (g : Gen), l ∉ s.home.wanted →
      (r = .line .fetch t g l →
        (c = .clear → exec (.answerWindowClose driven) s =
          .next (s.afterHomeClose l (s.exportSetAs l .soleOut none) [.supplyRead n t g l .sole])) ∧
        (c = .shared → exec (.answerWindowClose driven) s =
          .next (s.afterHomeClose l (s.exportSetAs l .sharedOut none) [.supplyRead n t g l .copy])) ∧
        (c = .supply ∨ c = .follow → exec (.answerWindowClose driven) s =
          .next (s.afterHomeClose l (s.exportSetAs l .sharedOut (some s.ctl.start.dataTimeout)) []))) ∧
      (r = .line .claim t g l →
        (c = .clear ∨ c = .shared → exec (.answerWindowClose driven) s =
          .next (s.afterHomeClose l (s.exportSetAs l .soleOut none) [.supplyRead n t g l .sole])) ∧
        (c = .supply ∨ c = .follow → exec (.answerWindowClose driven) s =
          .next (s.afterHomeClose l (s.exportSetAs l .soleOut none) []))) ∧
      (r = .line .promote t g l →
        exec (.answerWindowClose driven) s = .next (s.afterHomeClose l (s.exportSetAs l .soleOut none) []))) ∧
    (∀ t g off len, r = .directRead t g l off len →
      exec (.answerWindowClose driven) s = .next (s.afterHomeClose l (s.exportSet l) [.directRead n t g l])) ∧
    ∀ t g mask bs, r = .directWrite t g l mask bs →
      exec (.answerWindowClose driven) s = .next (s.afterHomeClose l (s.exportSet l) [.directWrite l n mask bs])

/-- R147, R148: a sound Announce of one claim that closes with Clear at a Dormant station that has recorded neither its number nor a claim of
its segment: the number enters the announced table and the segment is claimed with home index 0. The rows of R147 at a Dormant and at an
Enrolling station, in their order; a closed roll (R147, R150); a station in another state (R57, R146); a cancelled Announce (R45). R148:
what each claim does. R149: when the Ready is queued, and the target count. -/
def Obligations.AnnounceCloseRecords : Prop :=
  (∀ (s : State) (driven : Table (BitVec 3) 4) (w : Window) (n : StationNo) (f : BitVec 4) (c : Claim),
    s.bus.medium = .answering w → w.own = none → w.msg = some (n, .announce f [c]) → combine driven w.drives = .clear →
    s.ctl.mode = .dormant → s.ctl.roll.closed = false → s.ctl.roll.contested.has n = false →
    look s.ctl.roll.announced n = none → look s.ctl.roll.claims c.segment = .unclaimed →
    ({ s with bus.medium := .idle } : State).still = true →
    exec (.announceClose driven) s = .next
      { s with
        ctl.roll.announced := put s.ctl.roll.announced n (some (f.toNat + 1))
        ctl.roll.claims := put s.ctl.roll.claims c.segment (.claimed n c.access c.kind 0)
        bus.medium := .idle
        out := noOutput }) ∧
  (∀ (s : State) (driven : Table (BitVec 3) 4) (w : Window) (n : StationNo) (f : BitVec 4) (cs : List Claim),
    s.bus.medium = .answering w → w.msg = some (n, .announce f cs) → ({ s with bus.medium := .idle } : State).still = true →
    ((combine driven w.drives = .void ∨ combine driven w.drives = .again) →
      (∀ i, w.own = some i → s.ctl.mode = .enrolling →
        exec (.announceClose driven) s = .next
          { s with
            bus := { s.bus with medium := .idle, sendList := s.bus.sendList.filter (· != i) ++ [i] }
            out := noOutput }) ∧
      ((w.own = none ∨ s.ctl.mode ≠ .enrolling) →
        exec (.announceClose driven) s = .next { s with bus.medium := .idle, out := noOutput })) ∧
    (combine driven w.drives = .clear →
      ((s.ctl.mode ≠ .dormant ∧ s.ctl.mode ≠ .enrolling) ∨ (s.ctl.mode = .dormant ∧ s.ctl.roll.closed = true) ∨
          (s.ctl.mode = .enrolling ∧ s.ctl.roll.closed = true ∧ s.bus.latePeers.has n = true) ∨
          (s.ctl.roll.closed = false ∧ s.ctl.roll.contested.has n = true) →
        exec (.announceClose driven) s = .next { s with bus.medium := .idle, out := noOutput }) ∧
      (s.ctl.mode = .enrolling → s.ctl.roll.closed = true → s.bus.latePeers.has n = false → s.lpu.log.length < 8 →
        exec (.announceClose driven) s = .next
          { s with
            bus := { s.bus with medium := .idle, latePeers := s.bus.latePeers.add n }
            lpu.log := s.lpu.log ++ [{ kind := .latePeer, peer := some n }]
            out := noOutput }) ∧
      (s.ctl.roll.closed = false → s.ctl.roll.contested.has n = false →
        (s.ctl.mode = .enrolling → n = s.number → w.own = none → s.lpu.log.length < 8 →
          exec (.announceClose driven) s = .next
            { s with
              ctl.mode := .isolated
              ctl.roll.timer := none
              lpu.stateChange := true
              lpu.log := s.lpu.log ++ [{ kind := .numberContested, peer := some n }]
              bus :=
                { s.bus with
                  medium := .idle, sendList := (s.bus.sendList.filter (· != .announce)).filter (· != .ready) }
              out := noOutput }) ∧
        ((s.ctl.mode = .dormant ∨ (s.ctl.mode = .enrolling ∧ ¬(n = s.number ∧ w.own = none))) →
          (look s.ctl.roll.announced n ≠ none →
            exec (.announceClose driven) s = .next
              ({ s with
                 ctl.roll.announced := put s.ctl.roll.announced n none
                 ctl.roll.contested := s.ctl.roll.contested.add n
                 ctl.roll.claims := s.ctl.roll.claims.map fun x => match x with
                   | .claimed h a k i => if h = n then .unclaimed else .claimed h a k i
                   | .unclaimed => .unclaimed
                   | .contested => .contested
                 bus.medium := .idle
                 out := noOutput } : State).queueReady) ∧
          (look s.ctl.roll.announced n = none → ∀ t : State,
            t = ({ s with
                   ctl.roll.announced := put s.ctl.roll.announced n (some (f.toNat + 1))
                   bus.medium := .idle
                   out := noOutput } : State).applyClaims n 0 cs →
            exec (.announceClose driven) s = .next
              ({ t with ctl.roll.ownAnnounce := s.ctl.roll.ownAnnounce || w.own.isSome } : State).queueReady))))) ∧
  (∀ (s : State) (n : StationNo) (i : Nat) (c : Claim) (cs : List Claim),
    s.applyClaims n i [] = s ∧
    (look s.ctl.roll.claims c.segment = .unclaimed →
      s.applyClaims n i (c :: cs) =
        ({ s with ctl.roll.claims := put s.ctl.roll.claims c.segment (.claimed n c.access c.kind (BitVec.ofNat 4 i)) } :
          State).applyClaims n (i + 1) cs) ∧
    (look s.ctl.roll.claims c.segment = .contested → s.applyClaims n i (c :: cs) = s.applyClaims n (i + 1) cs) ∧
    ∀ h a k j, look s.ctl.roll.claims c.segment = .claimed h a k j →
      (s.ctl.mode ≠ .enrolling →
        s.applyClaims n i (c :: cs) =
          ({ s with ctl.roll.claims := put s.ctl.roll.claims c.segment .contested } : State).applyClaims n (i + 1) cs) ∧
      (s.ctl.mode = .enrolling → s.lpu.log.length < 8 →
        s.applyClaims n i (c :: cs) =
          ({ s with
             ctl.roll.claims := put s.ctl.roll.claims c.segment .contested
             lpu.log := s.lpu.log ++ [{ kind := .segmentContested, segment := some c.segment, peer := some n }] } :
            State).applyClaims n (i + 1) cs)) ∧
  ∀ (s : State) (trigger : Prop),
    (trigger ↔ (s.ctl.mode = .enrolling ∧ s.ctl.roll.ownAnnounce = true ∧ s.ctl.roll.readyQueued = false ∧
      (s.targetCount ≤ s.ctl.roll.validSet.count ∨ s.ctl.roll.limitPassed = true ∨ s.ctl.roll.closed = true))) →
    (trigger → s.queueReady =
      { s with ctl.roll.readyQueued := true, bus.sendList := s.bus.sendList.filter (· != .ready) ++ [.ready] }) ∧
    (¬trigger → s.queueReady = s) ∧
    s.ctl.start.expected.toNat ≤ s.targetCount ∧
    (∀ n c, look s.ctl.roll.announced n = some c → c ≤ s.targetCount) ∧
    (s.targetCount = s.ctl.start.expected.toNat ∨ ∃ n, look s.ctl.roll.announced n = some s.targetCount)

/-- The close of a Ready's window. R45: a cancelled one changes nothing, but that an Enrolling station's own rejoins the send list. R146:
at a close with Clear a Dormant station notes that the roll has closed. R150: an Enrolling station closes the roll and restarts its timer;
it becomes Isolated with LATE_JOIN where its own Announce had not closed, or with ENROL_MISMATCH where the Ready's flags differ from its
valid set; else the sender joins the Ready set, the own Ready is queued where it is not yet, and, R151, R152, where every number of the
valid set has now sent its Ready the station enters Operational with the valid set as its enrolled set and the Segment Table built from
the claim map. A station in another state takes nothing from it. -/
def Obligations.ReadyCloseOutcomes : Prop :=
  ∀ (s : State) (driven : Table (BitVec 3) 4) (w : Window) (n : StationNo) (set : StationSet),
    s.bus.medium = .answering w → w.msg = some (n, .ready set) → ({ s with bus.medium := .idle } : State).still = true →
    ((combine driven w.drives = .void ∨ combine driven w.drives = .again) →
      (∀ i, w.own = some i → s.ctl.mode = .enrolling →
        exec (.readyClose driven) s = .next
          { s with
            bus := { s.bus with medium := .idle, sendList := s.bus.sendList.filter (· != i) ++ [i] }
            out := noOutput }) ∧
      ((w.own = none ∨ s.ctl.mode ≠ .enrolling) →
        exec (.readyClose driven) s = .next { s with bus.medium := .idle, out := noOutput })) ∧
    (combine driven w.drives = .clear →
      (s.ctl.mode ≠ .dormant → s.ctl.mode ≠ .enrolling →
        exec (.readyClose driven) s = .next { s with bus.medium := .idle, out := noOutput }) ∧
      (s.ctl.mode = .dormant →
        exec (.readyClose driven) s = .next { s with ctl.roll.closed := true, bus.medium := .idle, out := noOutput }) ∧
      (s.ctl.mode = .enrolling →
        (∀ record : FaultRecord, s.lpu.log.length < 8 →
          ((s.ctl.roll.closed = false ∧ s.ctl.roll.ownAnnounce = false ∧ record = { kind := .lateJoin, peer := some n }) ∨
            ((s.ctl.roll.closed = true ∨ s.ctl.roll.ownAnnounce = true) ∧ set ≠ s.ctl.roll.validSet ∧
              record = { kind := .enrolMismatch, peer := some n })) →
          exec (.readyClose driven) s = .next
            { s with
              ctl := { s.ctl with mode := .isolated, roll := { s.ctl.roll with closed := true, timer := none } }
              lpu := { s.lpu with stateChange := true, log := s.lpu.log ++ [record] }
              bus :=
                { s.bus with
                  medium := .idle, sendList := (s.bus.sendList.filter (· != .announce)).filter (· != .ready) }
              out := noOutput }) ∧
        ((s.ctl.roll.closed = true ∨ s.ctl.roll.ownAnnounce = true) → set = s.ctl.roll.validSet →
          ∀ (ready : StationSet) (items : List SendItem),
            ready = (if set.has n then s.ctl.roll.readySet.add n else s.ctl.roll.readySet) →
            items = (if s.ctl.roll.ownAnnounce = true ∧ s.ctl.roll.readyQueued = false then
                s.bus.sendList.filter (· != .ready) ++ [.ready] else s.bus.sendList) →
            (ready ≠ set →
              exec (.readyClose driven) s = .next
                { s with
                  ctl.roll :=
                    { s.ctl.roll with
                      closed := true
                      timer := if s.ctl.roll.closed then s.ctl.roll.timer else some s.ctl.start.enrolLimit
                      readySet := ready
                      readyQueued := s.ctl.roll.readyQueued || s.ctl.roll.ownAnnounce }
                  bus := { s.bus with medium := .idle, sendList := items }
                  out := noOutput }) ∧
            (ready = set →
              exec (.readyClose driven) s = .next
                { s with
                  ctl :=
                    { s.ctl with
                      mode := .operational
                      enrolled := set
                      roll :=
                        { s.ctl.roll with
                          closed := true, timer := none, readySet := set
                          readyQueued := s.ctl.roll.readyQueued || s.ctl.roll.ownAnnounce } }
                  segments := s.ctl.roll.claims.map fun c => match c with
                    | .contested => .contested
                    | .unclaimed => .unmapped
                    | .claimed h a k i => if set.has h then .mapped h a k i else .unmapped
                  lpu.stateChange := true
                  bus := { s.bus with medium := .idle, sendList := items }
                  out := noOutput }))))

/-! ### Data messages -/

/-- R49: Good data that an entry of this station takes. R71, R61, R20, R21, R18, R81, R135: a Fetch or Claim: its way is filled, its
waiting list, of any length, is served in its order against the line, each request seeing those before it (a Pinned Write that finds no
held pin at its turn is PIN_LOST: the model's reading of R135 and R138, log 16), and the entry is freed with its generation one higher.
R72: with the drop-after-use mark the way is then empty. R72, R86, R87: with a follower the line as served is handed on, or the entry is
Finishing until it has an SQ place. R73: a Direct Read is answered with its bytes. R116: a Recall's data is refused while the HWQ is full,
and else is written before the requests of its list. R71: the state a Fetch or Claim is filled in, by kind, grant carried, expected grant
and mark. -/
def Obligations.GoodDataServesEntry : Prop :=
  (∀ (s : State) (bytes : List Byte) (n : StationNo) (m : DataMsg) (e : PrtEntry) (x : LineData),
    s.ctl.mode.member = true → s.ctl.mode ≠ .quiescing → s.bus.medium = .idle → parseData bytes = some (n, m) →
    s.ctl.enrolled.has n = true → m.dest = s.number → (m.homeTake = false ∨ s.homesLine m.line = false) →
    s.entry m.tag = some e → (look s.engine.prt m.tag).gen = m.gen → e.line = m.line →
    e.phase = .awaitingData → m.status = .good → m.data = some x → s.home.wanted = [] → s.still = true →
    (∀ (v : WayNo) (st : LineState) (q : Served),
      (e.kind = .fetch ∨ e.kind = .claim) → e.fillState m.grant = some st → e.way = some v →
      q = servedBy s.ctl.start.pinLimit e.line s.cache.pins x e.waiting →
      (e.follower = none →
        exec (.dataMessageArrival bytes) s = .next
          { s with
            lpu.tags := s.tagsWithoutAll (q.responses.map (·.tag))
            cache :=
              { sets := ((s.touch e.line v).setWay e.line v
                  (if e.dropAfterUse then .empty else .holding e.line (if q.altered then .altered else st) q.line)).cache.sets
                pins := q.pins }
            engine := (s.freeEntry m.tag).engine
            bus := { (s.freeEntry m.tag).bus with medium := ackTaken m }
            out := { responses := q.responses, sent := none } }) ∧
      (∀ f, e.follower = some f → e.dropAfterUse = false → (∀ i ∈ e.waiting, i.op = .read ∨ i.op = .write) →
        (s.sqFree = true →
          exec (.dataMessageArrival bytes) s = .next
            { s with
              lpu.tags := s.tagsWithoutAll (q.responses.map (·.tag))
              cache := ((s.touch e.line v).setWay e.line v (if f.kind = .fetch then .holding e.line .copy q.line else .empty)).cache
              engine := (s.freeEntry m.tag).engine
              bus :=
                { (s.freeEntry m.tag).bus with
                  medium := ackTaken m
                  sq := s.bus.sq ++
                    [newSqEntry
                      { dest := f.station, tag := f.tag, gen := f.gen, line := e.line
                        grant := if f.kind = .fetch then .copy else if f.kind = .claim then .sole else .none
                        homeTake := f.kind == .fetch, status := .good, data := some q.line }
                      (s.homeOf e.line != some n || q.altered)] }
              out := { responses := q.responses, sent := none } }) ∧
        (s.sqFree = false →
          exec (.dataMessageArrival bytes) s = .next
            { s with
              lpu.tags := s.tagsWithoutAll (q.responses.map (·.tag))
              cache := ((s.touch e.line v).setWay e.line v (.holding e.line (if q.altered then .altered else st) q.line)).cache
              engine := (s.setEntry m.tag
                { e with
                  phase := .finishing, timer := none, waiting := [], owes := .handOff
                  filledByHome := s.homeOf e.line == some n, wrote := q.altered }).engine
              bus := { s.bus with medium := ackTaken m, askers := s.bus.askers ++ [.prt m.tag] }
              out := { responses := q.responses, sent := none } }))) ∧
    (∀ i : Item, e.kind = .directRead → e.waiting = [i] →
      exec (.dataMessageArrival bytes) s = .next
        { s with
          lpu.tags := s.tagsWithout i.tag
          engine := (s.freeEntry m.tag).engine
          bus := { (s.freeEntry m.tag).bus with medium := ackTaken m }
          out := oneResponse i.tag .ok (.bytes ((x.toList.drop i.offset.toNat).take i.len)) }) ∧
    (e.kind = .recall → s.hwqFree = true →
      exec (.dataMessageArrival bytes) s = .next
        { s with
          engine := (s.freeEntry m.tag).engine
          home :=
            { s.home with
              exports := put s.home.exports (exportIndex e.line) ((s.exportSet e.line).filter fun y => y.line != e.line)
              hwq := s.home.hwq ++ { addr := s.memAddr e.line 0, work := .recallWrite e.line x } ::
                e.waiting.map fun i => { addr := s.memAddr e.line i.offset, work := i.hwqWork e.line }
              port := if s.home.port = .idle then .busy else s.home.port }
          bus := { (s.freeEntry m.tag).bus with medium := ackTaken m }
          out := noOutput }) ∧
    (e.kind = .recall → s.hwqFree = false →
      exec (.dataMessageArrival bytes) s = .next
        { s with
          bus.medium := .acking { own := false, homeTake := m.homeTake, dest := some .refused, home := none }
          out := noOutput })) ∧
  ∀ e : PrtEntry,
    (e.kind = .fetch → e.expected = some .sole → e.downgrade = false → e.fillState .sole = some .sole) ∧
    (e.kind = .fetch → e.expected = some .sole → e.downgrade = true → e.fillState .sole = some .copy) ∧
    (e.kind = .fetch → e.expected = some .copy → e.fillState .sole = some .copy) ∧
    (e.kind = .fetch → e.fillState .copy = some .copy) ∧
    (e.kind = .claim → e.fillState .sole = some .sole) ∧
    (e.kind = .fetch ∨ e.kind = .claim → e.fillState .none = none) ∧
    (e.kind = .claim → e.fillState .copy = none)

/-- R49, R89, R92, R94: a message for this station that no live entry expects, or from a sender outside the enrolled set, is answered
Stale and recorded STRAY_DATA, an Abandoned message as well; an entry that ended without its data and is still Finishing expects none but
an Abandoned message (log 38). R93: an Abandoned message clears the awaiting-data flag of a line this station homes, whatever its sender
(log 23). -/
def Obligations.StrayDataAnsweredStale : Prop :=
  ∀ (s : State) (bytes : List Byte) (n : StationNo) (m : DataMsg)
    (exports : Table (List ExportEntry) 7),
    s.ctl.mode.member = true → s.bus.medium = .idle → parseData bytes = some (n, m) → m.dest = s.number →
    (s.ctl.enrolled.has n = false ∨
      ∀ e, s.entry m.tag = some e → ¬((look s.engine.prt m.tag).gen = m.gen ∧ e.line = m.line ∧
        (e.phase = .awaitingData ∨ (e.phase = .finishing ∧ (e.owes = .handOff ∨ m.status = .abandoned))))) →
    (m.homeTake = false ∨ s.homesLine m.line = false) →
    exports =
      (if m.status = .abandoned ∧ s.homesLine m.line = true then
        put s.home.exports (exportIndex m.line)
          ((s.exportSet m.line).map fun x => if x.line = m.line then { x with awaiting := none } else x)
      else s.home.exports) →
    (m.status ≠ .abandoned ∨ s.homesLine m.line = false ∨ s.home.wanted = [] ∨ s.freeTag = none) →
    s.lpu.log.length < 8 → s.still = true →
    exec (.dataMessageArrival bytes) s = .next
      { s with
        lpu.log := s.lpu.log ++ [{ kind := .strayData, line := some m.line, peer := some n }]
        home.exports := exports
        bus.medium := .acking { own := false, homeTake := m.homeTake, dest := some .stale, home := none }
        out := noOutput }

/-- R73: MemoryError data, and Good data with a grant that R71 does not fill, end an entry: every request of its list is answered
DATA_ERROR, in list order; R90: its follower is owed an Abandoned message, for which it is Finishing until it has an SQ place. R91, R92:
an Abandoned message returns an entry to Queued with its retry count one higher, a follower of its own being sent one first; R70, R118: at
64 the entry ends RETRY_EXHAUSTED, and owes a follower of its own an Abandoned message (R90). R93: it also clears the awaiting-data flag
of a line this station homes. R49, R72: a message for an entry that is Finishing with its data is a duplicate; R92: so is an Abandoned
message for any entry that is Finishing. -/
def Obligations.FailedDataAndDuplicates : Prop :=
  ∀ (s : State) (bytes : List Byte) (n : StationNo) (m : DataMsg) (e : PrtEntry),
    s.ctl.mode.member = true → s.ctl.mode ≠ .quiescing → s.bus.medium = .idle → parseData bytes = some (n, m) →
    s.ctl.enrolled.has n = true → m.dest = s.number → (m.homeTake = false ∨ s.homesLine m.line = false) →
    s.entry m.tag = some e → (look s.engine.prt m.tag).gen = m.gen → e.line = m.line →
    s.home.wanted = [] → s.still = true →
    (e.phase = .awaitingData → e.kind ≠ .recall →
      (m.status = .memoryError ∨ (m.status = .good ∧ (e.kind = .fetch ∨ e.kind = .claim) ∧ e.fillState m.grant = none)) →
      (e.follower = none →
        exec (.dataMessageArrival bytes) s = .next
          { s.afterFailing e .dataError [] with
            engine := (s.freeEntry m.tag).engine
            bus := { (s.freeEntry m.tag).bus with medium := ackTaken m } }) ∧
      ∀ f, e.follower = some f →
        (s.sqFree = true →
          exec (.dataMessageArrival bytes) s = .next
            { s.afterFailing e .dataError [] with
              engine := (s.freeEntry m.tag).engine
              bus :=
                { (s.freeEntry m.tag).bus with
                  medium := ackTaken m, sq := s.bus.sq ++ [newSqEntry (abandonedFor f e.line) false] } }) ∧
        (s.sqFree = false →
          exec (.dataMessageArrival bytes) s = .next
            { s.afterFailing e .dataError [] with
              engine := (s.setEntry m.tag e.ended).engine
              bus := { s.bus with medium := ackTaken m, askers := s.bus.askers ++ [.prt m.tag] } })) ∧
    ∀ exports : Table (List ExportEntry) 7,
      exports =
        (if m.status = .abandoned ∧ s.homesLine m.line = true then
          put s.home.exports (exportIndex m.line)
            ((s.exportSet m.line).map fun x => if x.line = m.line then { x with awaiting := none } else x)
        else s.home.exports) →
      (e.phase = .awaitingData → m.status = .abandoned → e.retry < 63 →
        ∀ e' : PrtEntry, e' = { e with phase := .queued, retry := e.retry + 1, timer := none, expected := none } →
          (e.follower = none →
            exec (.dataMessageArrival bytes) s = .next
              { s with
                engine := (s.setEntry m.tag e').engine
                home.exports := exports
                bus :=
                  { s.bus with
                    medium := ackTaken m, sendList := s.bus.sendList.filter (· != .prt m.tag) ++ [.prt m.tag] }
                out := noOutput }) ∧
          ∀ f, e.follower = some f →
            (s.sqFree = true →
              exec (.dataMessageArrival bytes) s = .next
                { s with
                  engine := (s.setEntry m.tag { e' with follower := none, owes := .nothing }).engine
                  home.exports := exports
                  bus :=
                    { s.bus with
                      medium := ackTaken m
                      sendList := s.bus.sendList.filter (· != .prt m.tag) ++ [.prt m.tag]
                      sq := s.bus.sq ++ [newSqEntry (abandonedFor f e.line) false] }
                  out := noOutput }) ∧
            (s.sqFree = false →
              exec (.dataMessageArrival bytes) s = .next
                { s with
                  engine := (s.setEntry m.tag { e' with owes := .abandoned }).engine
                  home.exports := exports
                  bus := { s.bus with medium := ackTaken m, askers := s.bus.askers ++ [.prt m.tag] }
                  out := noOutput })) ∧
      (e.phase = .awaitingData → m.status = .abandoned → 63 ≤ e.retry → s.lpu.log.length < 8 →
        ∀ ended final : State, ended = { s with home.exports := s.exportsAfterEnd e } →
        final =
          { s.afterFailing e .retryExhausted [s.endRecord e .retryExhausted] with
            home.exports := if s.homesLine m.line = true then (ended.clearAwaiting m.line).home.exports else ended.home.exports } →
        (e.follower = none →
          exec (.dataMessageArrival bytes) s = .next
            { final with
              engine := (s.freeEntry m.tag).engine
              bus := { (s.freeEntry m.tag).bus with medium := ackTaken m } }) ∧
        ∀ f, e.follower = some f →
          (s.sqFree = true →
            exec (.dataMessageArrival bytes) s = .next
              { final with
                engine := (s.freeEntry m.tag).engine
                bus :=
                  { (s.freeEntry m.tag).bus with
                    medium := ackTaken m, sq := s.bus.sq ++ [newSqEntry (abandonedFor f e.line) false] } }) ∧
          (s.sqFree = false →
            exec (.dataMessageArrival bytes) s = .next
              { final with
                engine := (s.setEntry m.tag { e.ended with retry := e.retry + 1 }).engine
                bus := { s.bus with medium := ackTaken m, askers := s.bus.askers ++ [.prt m.tag] } })) ∧
      (e.phase = .finishing → (e.owes = .handOff ∨ m.status = .abandoned) →
        exec (.dataMessageArrival bytes) s = .next
          { s with home.exports := exports, bus.medium := ackTaken m, out := noOutput })

/-- R50, R109: home-take data for a line this station homes, destined to another station: Taken and absorbed where the flag is set and the
HWQ has a place, Refused where it has none, Stale where the flag is not set or the sender is not enrolled. R93: an Abandoned message that
names a line this station homes clears its flag, from whatever sender (log 23), drives nothing and makes no record. -/
def Obligations.HomeTakeDataAbsorbed : Prop :=
  (∀ (s : State) (bytes : List Byte) (n : StationNo) (m : DataMsg) (x : LineData),
    s.ctl.mode.member = true → s.bus.medium = .idle → parseData bytes = some (n, m) → m.dest ≠ s.number →
    m.homeTake = true → m.data = some x → s.homesLine m.line = true → s.still = true →
    (s.ctl.enrolled.has n = true → s.awaitingSet m.line = true → s.hwqFree = true → s.home.wanted = [] →
      exec (.dataMessageArrival bytes) s = .next
        { s with
          home.hwq := s.home.hwq ++ [{ addr := s.memAddr m.line 0, work := .absorbWrite m.line x }]
          home.port := if s.home.port = .idle then .busy else s.home.port
          home.exports := (s.clearAwaiting m.line).home.exports
          bus.medium := .acking { own := false, homeTake := true, dest := none, home := some .taken }
          out := noOutput }) ∧
    (s.ctl.enrolled.has n = true → s.awaitingSet m.line = true → s.hwqFree = false →
      exec (.dataMessageArrival bytes) s = .next
        { s with bus.medium := .acking { own := false, homeTake := true, dest := none, home := some .refused }, out := noOutput }) ∧
    ((s.ctl.enrolled.has n = false ∨ s.awaitingSet m.line = false) →
      exec (.dataMessageArrival bytes) s = .next
        { s with bus.medium := .acking { own := false, homeTake := true, dest := none, home := some .stale }, out := noOutput })) ∧
  ∀ (s : State) (bytes : List Byte) (n : StationNo) (m : DataMsg),
    s.ctl.mode.member = true → s.bus.medium = .idle → parseData bytes = some (n, m) → m.dest ≠ s.number →
    m.status = .abandoned → m.homeTake = false → s.homesLine m.line = true → s.still = true →
    (s.home.wanted = [] ∨ s.freeTag = none) →
    exec (.dataMessageArrival bytes) s = .next
      { s with
        home.exports := put s.home.exports (exportIndex m.line)
          ((s.exportSet m.line).map fun x => if x.line = m.line then { x with awaiting := none } else x)
        bus.medium := .acking { own := false, homeTake := false, dest := none, home := none }
        out := noOutput }

/-- R53, R55, R56: the close of the acknowledgement window of a data message, first without home-take, and of another station's. Then, of
any entry at the head of the sending order: what each position reads sets its party's delivery state; with a party owed and tries left the
entry stays; else delivery ends, the parties still owed failed. An entry without the mark leaves, with a record for each failed party (the
order of two is the model's, log 37). An only-fresh entry leaves where the party with the fresh data took it, with no record for the other
party (the model's reading of R55 and R56, log 24); where it did not, it waits for its conversion while the RQ is full, and with a free RQ
entry becomes a Return in the same event. R51: the place that an entry leaves goes in the same event to the party that has asked longest,
as the row SQ_PLACE_GIVEN gives it. -/
def Obligations.AcknowledgementOutcomes : Prop :=
  (∀ (s : State) (a : AckWindow) (dest home : BitVec 3),
    s.bus.medium = .acking a →
    (a.own = false → ({ s with bus.medium := .idle } : State).still = true →
      exec (.acknowledgementWindowClose dest home) s = .next { s with bus.medium := .idle, out := noOutput }) ∧
    (∀ e rest, a.own = true → a.dest = none → s.bus.sq = e :: rest → e.converting = false → e.msg.homeTake = false →
      e.destState = .owed →
      (dest = 4 → ({ s with bus.medium := .idle, bus.sq := rest } : State).still = true →
        exec (.acknowledgementWindowClose dest home) s = .next { s with bus.medium := .idle, bus.sq := rest, out := noOutput }) ∧
      (dest ≠ 4 → dest ≠ 2 → e.tries < 4 → a.homeTake = false → ({ s with bus.medium := .idle } : State).still = true →
        exec (.acknowledgementWindowClose dest home) s = .next { s with bus.medium := .idle, out := noOutput }) ∧
      (dest ≠ 4 → dest ≠ 2 → e.tries = 4 → e.onlyFresh = false → s.lpu.log.length < 8 →
        ({ s with bus.medium := .idle, bus.sq := rest } : State).still = true →
        exec (.acknowledgementWindowClose dest home) s = .next
          { s with
            bus.medium := .idle, bus.sq := rest
            lpu.log := s.lpu.log ++ [{ kind := .resendExhausted, line := some e.msg.line, peer := some e.msg.dest }]
            out := noOutput }))) ∧
  ∀ (s : State) (a : AckWindow) (dest home : BitVec 3) (e : SqEntry) (rest : List SqEntry) (d h : Delivery),
    s.bus.medium = .acking a → a.own = true → a.dest = none → a.home = none → s.bus.sq = e :: rest → e.converting = false →
    d = (if e.destState = .owed then (if dest = 4 then .taken else if dest = 2 then .stale else .owed) else e.destState) →
    h = (if e.homeState = .owed ∧ a.homeTake = true then (if home = 4 then .taken else if home = 2 then .stale else .owed)
         else e.homeState) →
    ((d = .owed ∨ (e.msg.homeTake = true ∧ h = .owed)) → e.tries < 4 → ({ s with bus.medium := .idle } : State).still = true →
      exec (.acknowledgementWindowClose dest home) s = .next
        { s with
          bus := { s.bus with medium := .idle, sq := { e with destState := d, homeState := h } :: rest }
          out := noOutput }) ∧
    ∀ d' h' : Delivery,
      d' = (if d = .owed then .failed else d) → h' = (if h = .owed ∧ e.msg.homeTake = true then .failed else h) →
      (¬(d = .owed ∨ (e.msg.homeTake = true ∧ h = .owed)) ∨ 4 ≤ e.tries) →
      (∀ left : State, e.onlyFresh = false → s.lpu.log.length + 2 ≤ 8 →
        left =
          { s with
            bus := { s.bus with medium := .idle, sq := rest }
            lpu.log := s.lpu.log ++
              (if d' = .failed then [{ kind := .resendExhausted, line := some e.msg.line, peer := some e.msg.dest }] else []) ++
              (if e.msg.homeTake = true ∧ h' = .failed then
                [{ kind := .resendExhausted, line := some e.msg.line, peer := s.homeOf e.msg.line }] else [])
            out := noOutput } →
        (({ s with bus.medium := .idle, bus.sq := rest } : State).still = true →
          exec (.acknowledgementWindowClose dest home) s = .next left) ∧
        (s.bus.askers ≠ [] → (∀ q ∈ rest, q.converting = false) → s.portEmpty = true → s.home.wanted = [] →
          (s.home.port ≠ .idle ∨ s.home.hwq = []) → s.ctl.mode ≠ .quiescing →
          exec (.acknowledgementWindowClose dest home) s = exec .sqPlaceGiven left)) ∧
      (∀ left : State, e.onlyFresh = true → (if e.msg.homeTake = true then h' else d') = .taken →
        left = { s with bus := { s.bus with medium := .idle, sq := rest }, out := noOutput } →
        (({ s with bus.medium := .idle, bus.sq := rest } : State).still = true →
          exec (.acknowledgementWindowClose dest home) s = .next left) ∧
        (s.bus.askers ≠ [] → (∀ q ∈ rest, q.converting = false) → s.portEmpty = true → s.home.wanted = [] →
          (s.home.port ≠ .idle ∨ s.home.hwq = []) → s.ctl.mode ≠ .quiescing →
          exec (.acknowledgementWindowClose dest home) s = exec .sqPlaceGiven left)) ∧
      (e.onlyFresh = true → (if e.msg.homeTake = true then h' else d') ≠ .taken → s.rqFree = false →
        ({ s with bus.medium := .idle } : State).still = true →
        exec (.acknowledgementWindowClose dest home) s = .next
          { s with
            bus := { s.bus with medium := .idle, sq := { e with destState := d', homeState := h', converting := true } :: rest }
            out := noOutput }) ∧
      ∀ x : LineData, e.onlyFresh = true → (if e.msg.homeTake = true then h' else d') ≠ .taken → s.rqFree = true →
        e.msg.data = some x → (∀ q ∈ rest, q.converting = false) → s.portEmpty = true →
        s.home.wanted = [] → (s.home.port ≠ .idle ∨ s.home.hwq = []) → s.ctl.mode ≠ .quiescing → s.lpu.log.length < 8 →
        ∀ left : State, left =
          { s with
            ret.rq := s.ret.rq ++ [{ line := e.msg.line, data := x, flushes := [] }]
            cache := (s.emptyCopy e.msg.line).cache
            bus :=
              { s.bus with
                medium := .idle, sq := rest, sendList := s.bus.sendList.filter (· != .rq e.msg.line) ++ [.rq e.msg.line] }
            lpu.log := s.lpu.log ++
              [{ kind := if (if e.msg.homeTake = true then h' else d') = .stale then .staleData else .resendExhausted
                 line := some e.msg.line
                 peer := if e.msg.homeTake then s.homeOf e.msg.line else some e.msg.dest }]
            out := noOutput } →
          (s.bus.askers = [] → exec (.acknowledgementWindowClose dest home) s = .next left) ∧
          (s.bus.askers ≠ [] → exec (.acknowledgementWindowClose dest home) s = exec .sqPlaceGiven left)

/-! ### The memory port -/

/-- R104: the successful completion of a local-read and of a local-write at the only HWQ entry. R106: a memory error at a local-read or
local-write: MEMORY_ERROR is recorded, the request is answered DATA_ERROR, and no byte outside those of the failed write changes. R136: a
pinned local-read that completes makes its pin held with its timer started; one that fails ends its pin. R5, R106: a completion that
reports success is taken as an error where the operation reached an address with no memory fitted (which have none is the model's choice,
log 8). -/
def Obligations.LocalMemoryCompletion : Prop :=
  (∀ (s : State) (a : MemAddr) (l : LineNo) (tag : PTag) (off : Offset) (len : Nat),
      s.home.port = .busy → ({ s with home.hwq := [], home.port := .idle } : State).still = true →
      (s.home.hwq = [{ addr := a, work := .localRead l tag off len }] → a.toNat + len ≤ s.home.fitted →
        (∀ p ∈ s.cache.pins, p.tag ≠ tag) →
        exec (.memoryCompletion true) s = .next
          { s with
            lpu.tags := s.tagsWithout tag
            home.hwq := [], home.port := .idle
            out := oneResponse tag .ok (.bytes ((List.range len).map fun i => Memory.read s.home.mem (a.toNat + i))) }) ∧
      (∀ bs, s.home.hwq = [{ addr := a, work := .localWrite l tag off len bs }] → a.toNat + bs.length ≤ s.home.fitted →
        ∃ m, exec (.memoryCompletion true) s = .next
          { s with
            lpu.tags := s.tagsWithout tag
            home.hwq := [], home.port := .idle, home.mem := m
            out := oneResponse tag .ok .none } ∧
          (s.memoryCanonical = true → ∀ i, i < bs.length → Memory.read m (a.toNat + i) = bs.getD i 0) ∧
          ∀ c, (c < a.toNat ∨ a.toNat + bs.length ≤ c) → Memory.read m c = Memory.read s.home.mem c) ∧
      (s.home.hwq = [{ addr := a, work := .localRead l tag off len }] →
        (∃ p ∈ s.cache.pins, p.line = l ∧ p.tag = tag ∧ p.held = false ∧ p.path = .home) →
        (a.toNat + len ≤ s.home.fitted →
          exec (.memoryCompletion true) s = .next
            { s with
              lpu.tags := s.tagsWithout tag
              cache.pins := s.cache.pins.map fun p =>
                if p.line = l then { p with held := true, timer := some s.ctl.start.pinLimit } else p
              home.hwq := [], home.port := .idle
              out := oneResponse tag .ok (.bytes ((List.range len).map fun i => Memory.read s.home.mem (a.toNat + i))) }) ∧
        (∀ ok : Bool, (ok = false ∨ ∃ i, i < len ∧ s.home.fitted ≤ a.toNat + i) → s.lpu.log.length < 8 → s.ctl.mode ≠ .quiescing →
          exec (.memoryCompletion ok) s = .next
            { s with
              lpu.tags := s.tagsWithout tag
              lpu.log := s.lpu.log ++ [{ kind := .memoryError, line := some l, segment := some (segmentOf l), tag := some tag }]
              cache.pins := s.cache.pins.filter fun p => p.line != l
              home.hwq := [], home.port := .idle
              out := oneResponse tag .dataError .none }))) ∧
  (∀ (s : State) (a : MemAddr) (w : HwqWork) (tag : PTag) (l : LineNo) (off : Offset) (len : Nat) (bs : List Byte)
      (ok : Bool),
      s.home.port = .busy → s.home.hwq = [{ addr := a, work := w }] →
      (w = .localRead l tag off len ∨ w = .localWrite l tag off len bs) →
      (ok = false ∨ (w = .localRead l tag off len ∧ ∃ i, i < len ∧ s.home.fitted ≤ a.toNat + i) ∨
        (w = .localWrite l tag off len bs ∧ ∃ i, i < bs.length ∧ s.home.fitted ≤ a.toNat + i)) →
      s.lpu.log.length < 8 → (∀ p ∈ s.cache.pins, p.tag ≠ tag) →
      ({ s with home.hwq := [], home.port := .idle } : State).still = true →
      ∃ m n, exec (.memoryCompletion ok) s = .next
        { s with
          lpu.tags := s.tagsWithout tag
          lpu.log := s.lpu.log ++ [{ kind := .memoryError, line := some l, segment := some (segmentOf l), tag := some tag }]
          home.hwq := [], home.port := .idle, home.mem := m
          fresh := n
          out := oneResponse tag .dataError .none } ∧
        (w = .localRead l tag off len → m = s.home.mem) ∧
        ∀ c, (c < a.toNat ∨ a.toNat + bs.length ≤ c) → Memory.read m c = Memory.read s.home.mem c)

/-- R104, R105: the completion of the memory port's operation on a piece of work for a peer or a whole line. A supply-read or direct-read
places its data message in the SQ, or, where no place is free, keeps its bytes and asks for one; a write writes its bytes and no others, a
Direct Write its bytes in rising order to the offsets its mask flags (R66). R106: a memory error is recorded, a failed read sends
MemoryError, and a failed write changes no byte outside its own; R5: an operation that reaches an address with no memory fitted (which
have none is the model's choice, log 8) is one, whatever it reports. -/
def Obligations.HomeMemoryCompletion : Prop :=
  ∀ (s : State) (a : MemAddr) (k : HwqWork) (more : List HwqEntry) (l : LineNo),
    s.home.port = .busy → s.home.hwq = { addr := a, work := k } :: more → s.still = true →
    (∀ (n : StationNo) (t : ReqTag) (g : Gen) (gr : Grant),
      (k = .supplyRead n t g l gr ∨ (k = .directRead n t g l ∧ gr = .none)) →
      (∀ x : LineData, x = .ofBytes ((List.range 64).map fun i => Memory.read s.home.mem (a.toNat + i)) →
        a.toNat + 64 ≤ s.home.fitted →
        (s.sqFree = true →
          exec (.memoryCompletion true) s = .next
            { s with
              home.hwq := more, home.port := portOver more
              bus.sq := s.bus.sq ++
                [newSqEntry
                  { dest := n, tag := t, gen := g, line := l, grant := gr, homeTake := false, status := .good, data := some x } false]
              out := noOutput }) ∧
        (s.sqFree = false →
          exec (.memoryCompletion true) s = .next
            { s with home.port := .holding (some x), bus.askers := s.bus.askers ++ [.home], out := noOutput })) ∧
      (∀ ok : Bool, (ok = false ∨ s.home.fitted < a.toNat + 64) → s.lpu.log.length < 8 → s.sqFree = true →
        exec (.memoryCompletion ok) s = .next
          { s with
            home.hwq := more, home.port := portOver more
            bus.sq := s.bus.sq ++
              [newSqEntry
                { dest := n, tag := t, gen := g, line := l, grant := .none, homeTake := false, status := .memoryError, data := none }
                false]
            lpu.log := s.lpu.log ++ [{ kind := .memoryError, line := some l, segment := some (segmentOf l), peer := some n }]
            out := noOutput }) ∧
      (∀ ok : Bool, (ok = false ∨ s.home.fitted < a.toNat + 64) → s.lpu.log.length < 8 → s.sqFree = false →
        exec (.memoryCompletion ok) s = .next
          { s with
            home.port := .holding none
            bus.askers := s.bus.askers ++ [.home]
            lpu.log := s.lpu.log ++ [{ kind := .memoryError, line := some l, segment := some (segmentOf l), peer := some n }]
            out := noOutput })) ∧
    (∀ (x : LineData) (n : Option StationNo),
      ((k = .absorbWrite l x ∧ n = none) ∨ (k = .recallWrite l x ∧ n = none) ∨ ∃ m, n = some m ∧ k = .returnWrite l m x) →
      (a.toNat + 64 ≤ s.home.fitted →
        ∃ m, exec (.memoryCompletion true) s = .next
            { s with home := { s.home with hwq := more, port := portOver more, mem := m }, out := noOutput } ∧
          (s.memoryCanonical = true → ∀ i : Offset, Memory.read m (a.toNat + i.toNat) = look x i) ∧
          ∀ c, (c < a.toNat ∨ a.toNat + 64 ≤ c) → Memory.read m c = Memory.read s.home.mem c) ∧
      (∀ ok : Bool, (ok = false ∨ s.home.fitted < a.toNat + 64) → s.lpu.log.length < 8 →
        ∃ m f, exec (.memoryCompletion ok) s = .next
            { s with
              home := { s.home with hwq := more, port := portOver more, mem := m }
              lpu.log := s.lpu.log ++ [{ kind := .memoryError, line := some l, segment := some (segmentOf l), peer := n }]
              fresh := f
              out := noOutput } ∧
          ∀ c, (c < a.toNat ∨ a.toNat + 64 ≤ c) → Memory.read m c = Memory.read s.home.mem c)) ∧
    ∀ (n : StationNo) (mask : BitVec 64) (bs : List Byte), k = .directWrite l n mask bs →
      bs.length = (List.range 64).countP (fun i => mask.getLsbD i) →
      ((∀ i, i < 64 → mask.getLsbD i = true → a.toNat + i < s.home.fitted) →
        ∃ m, exec (.memoryCompletion true) s = .next
            { s with home := { s.home with hwq := more, port := portOver more, mem := m }, out := noOutput } ∧
          (s.memoryCanonical = true → ∀ i, i < 64 → mask.getLsbD i = true →
            Memory.read m (a.toNat + i) = bs.getD ((List.range i).countP fun j => mask.getLsbD j) 0) ∧
          ∀ c, (∀ i, i < 64 → mask.getLsbD i = true → c ≠ a.toNat + i) → Memory.read m c = Memory.read s.home.mem c) ∧
      (∀ ok : Bool, (ok = false ∨ ∃ i, i < 64 ∧ mask.getLsbD i = true ∧ s.home.fitted ≤ a.toNat + i) → s.lpu.log.length < 8 →
        ∃ m f, exec (.memoryCompletion ok) s = .next
            { s with
              home := { s.home with hwq := more, port := portOver more, mem := m }
              lpu.log := s.lpu.log ++ [{ kind := .memoryError, line := some l, segment := some (segmentOf l), peer := some n }]
              fresh := f
              out := noOutput } ∧
          ∀ c, (∀ i, i < 64 → mask.getLsbD i = true → c ≠ a.toNat + i) → Memory.read m c = Memory.read s.home.mem c)

/-! ### Timers -/

/-- R110: the expiry of an awaiting-data timer. R140: the expiry of a held pin's timer: the pin is removed and recorded, and the line
stays in its way; in Quiescing the walk that may then begin runs in the same event (R129). R149, R151, R154: the expiry of the enrolment
timer: Isolated with READY_TIMEOUT after the roll closed; before it, the limit-passed flag is set, and the Ready is queued if the own
Announce has closed and it is not queued yet. -/
def Obligations.OtherTimerExpiryOutcomes : Prop :=
  (∀ (s : State) (l : LineNo), s.awaitingSet l = true → s.lpu.log.length < 8 → s.home.wanted = [] → s.still = true →
      exec (.awaitingDataTimerExpiry l) s = .next
        { s with
          home.exports := put s.home.exports (exportIndex l)
            ((s.exportSet l).map fun x => if x.line = l then { x with awaiting := none } else x)
          lpu.log := s.lpu.log ++ [{ kind := .absorbLost, line := some l, segment := some (segmentOf l) }]
          out := noOutput }) ∧
  (∀ (s : State) (p : PinEntry) (ended : State),
      s.findPin p.line = some p → p.held = true → p.timer.isSome = true → s.lpu.log.length < 8 → s.still = true →
      ended =
        { s with
          cache.pins := s.cache.pins.filter fun q => q.line != p.line
          lpu.log := s.lpu.log ++
            [{ kind := .pinExpired, line := some p.line, segment := some (segmentOf p.line)
               peer := if p.path = .remote then s.homeOf p.line else none, tag := some p.tag }]
          out := noOutput } →
      (s.ctl.mode ≠ .quiescing → exec (.pinTimerExpiry p.line) s = .next ended) ∧
      (s.ctl.mode = .quiescing → exec (.pinTimerExpiry p.line) s = exec .quiesceWalk ended)) ∧
  ∀ s : State, s.ctl.mode = .enrolling → s.ctl.roll.timer.isSome = true →
    (s.ctl.roll.closed = true → s.lpu.log.length < 8 →
      exec .enrolmentTimerExpiry s = .next
        { s with
          ctl.mode := .isolated
          ctl.roll.timer := none
          lpu.stateChange := true
          lpu.log := s.lpu.log ++ [{ kind := .readyTimeout }]
          bus.sendList := (s.bus.sendList.filter (· != .announce)).filter (· != .ready)
          out := noOutput }) ∧
    (s.ctl.roll.closed = false → (s.ctl.roll.ownAnnounce = false ∨ s.ctl.roll.readyQueued = true) →
      exec .enrolmentTimerExpiry s = .next
        { s with ctl.roll.limitPassed := true, ctl.roll.timer := none, out := noOutput }) ∧
    (s.ctl.roll.closed = false → s.ctl.roll.ownAnnounce = true → s.ctl.roll.readyQueued = false →
      exec .enrolmentTimerExpiry s = .next
        { s with
          ctl.roll.limitPassed := true, ctl.roll.timer := none, ctl.roll.readyQueued := true
          bus.sendList := s.bus.sendList.filter (· != .ready) ++ [.ready]
          out := noOutput })

/-- R80, R61, R81, R118: the expiry of an entry's data timer, of any kind and with a waiting list of any length: every request of the list
is answered DATA_TIMEOUT in list order and the end is recorded, a reserved way becomes empty, a pending pin is removed (R135), a recall
leaves its line's recall state none, and the entry is freed; where it has a follower it owes it an Abandoned message, for which it is
Finishing until it has an SQ place (R90). While the line is under answer the expiry is held, and it is taken at the close, after the
recorded judgement: a follower recorded at that close is owed the message at once. R129: in Quiescing the walk that may begin when the
entry is freed runs in the same event. -/
def Obligations.DataTimerExpiryOutcomes : Prop :=
  (∀ (s : State) (t : ReqTag) (e : PrtEntry),
    s.entry t = some e → s.lpu.log.length < 8 → s.home.wanted = [] → s.ctl.mode ≠ .quiescing →
    (s.still = true → e.phase = .awaitingData → e.timer.isSome = true →
      (s.underAnswer e.line = true →
        exec (.dataTimerExpiry t) s = .next
          { s with engine := (s.setEntry t { e with timer := none, expiryHeld := true }).engine, out := noOutput }) ∧
      (s.underAnswer e.line = false →
        (e.follower = none →
          exec (.dataTimerExpiry t) s = .next
            { s.afterFailing e .dataTimeout [s.endRecord e .dataTimeout] with
              home.exports := s.exportsAfterEnd e
              engine := (s.freeEntry t).engine
              bus := (s.freeEntry t).bus }) ∧
        ∀ f, e.follower = some f →
          (s.sqFree = true →
            exec (.dataTimerExpiry t) s = .next
              { s.afterFailing e .dataTimeout [s.endRecord e .dataTimeout] with
                home.exports := s.exportsAfterEnd e
                engine := (s.freeEntry t).engine
                bus := { (s.freeEntry t).bus with sq := s.bus.sq ++ [newSqEntry (abandonedFor f e.line) false] } }) ∧
          (s.sqFree = false →
            exec (.dataTimerExpiry t) s = .next
              { s.afterFailing e .dataTimeout [s.endRecord e .dataTimeout] with
                home.exports := s.exportsAfterEnd e
                engine := (s.setEntry t e.ended).engine
                bus.askers := s.bus.askers ++ [.prt t] }))) ∧
    ∀ (driven : Table (BitVec 3) 4) (w : Window) (n : StationNo) (k : LineKind) (u : ReqTag) (g : Gen) (l : LineNo),
      s.bus.medium = .answering w → w.own = none → w.msg = some (n, .line k u g l) → e.expiryHeld = true → e.follower = none →
      (∀ t', t' ≠ t → ∀ e', s.entry t' = some e' → e'.expiryHeld = false) → ({ s with bus.medium := .idle } : State).still = true →
      ((combine driven w.drives = .void ∨ combine driven w.drives = .again ∨ w.record = Recorded.nothing) →
        exec (.answerWindowClose driven) s = .next
          { s.afterFailing e .dataTimeout [s.endRecord e .dataTimeout] with
            home.exports := s.exportsAfterEnd e
            engine := (s.freeEntry t).engine
            bus := { (s.freeEntry t).bus with medium := .idle } }) ∧
      ∀ f : Follower, f = { station := n, tag := u, gen := g, kind := if k = .fetch then .fetch else if k = .recall then .recall else .claim } →
        combine driven w.drives = .follow → w.record = { Recorded.nothing with engine := .follow t } →
        (s.bus.sq.length < 8 →
          exec (.answerWindowClose driven) s = .next
            { s.afterFailing e .dataTimeout [s.endRecord e .dataTimeout] with
              home.exports := s.exportsAfterEnd e
              engine := (s.freeEntry t).engine
              bus :=
                { (s.freeEntry t).bus with medium := .idle, sq := s.bus.sq ++ [newSqEntry (abandonedFor f e.line) false] } }) ∧
        (8 ≤ s.bus.sq.length →
          exec (.answerWindowClose driven) s = .next
            { s.afterFailing e .dataTimeout [s.endRecord e .dataTimeout] with
              home.exports := s.exportsAfterEnd e
              engine := (s.setEntry t { e.ended with follower := some f }).engine
              bus := { s.bus with medium := .idle, askers := s.bus.askers ++ [.prt t] } })) ∧
  ∀ (s : State) (t : ReqTag) (e : PrtEntry) (freed : State),
    s.entry t = some e → s.lpu.log.length < 8 → s.home.wanted = [] → s.still = true → e.phase = .awaitingData →
    e.timer.isSome = true → s.underAnswer e.line = false → e.follower = none → s.ctl.mode = .quiescing →
    freed =
      { s.afterFailing e .dataTimeout [s.endRecord e .dataTimeout] with
        home.exports := s.exportsAfterEnd e
        engine := (s.freeEntry t).engine
        bus := (s.freeEntry t).bus } →
    ∃ v, exec .quiesceWalk freed = .next v ∧ exec (.dataTimerExpiry t) s = .next { v with out := freed.out }

/-! ### The station's own steps -/

/-- R25: a head judged again that must still wait changes nothing; a waiting Read that is now a hit is answered and leaves the LRQ. -/
def Obligations.HeadJudgedAgainOutcomes : Prop :=
  ∀ (s : State) (r : LocalReq) (d : Decoded),
    s.calm = true → s.lpu.lrq = [r] → s.lpu.head = some d →
    (s.judgeHead d = .waits → exec .headJudgedAgain s = .next { s with out := noOutput }) ∧
    (∀ (w : WayNo) (st : LineState) (x : LineData),
      d.path = .cached → d.item.op = .read → s.findEntry d.line = none → s.findRq d.line = none →
      s.inTransit d.line = false → s.held d.line = some (w, st, x) →
      exec .headJudgedAgain s = .next
        { s with
          lpu := { s.lpu with lrq := [], head := none, pinRecall := none, tags := s.tagsWithout d.item.tag }
          cache := (s.touch d.line w).cache
          out := oneResponse d.item.tag .ok (.bytes ((x.toList.drop d.item.offset.toNat).take d.item.len)) })

/-- R51: a free SQ place goes to the asker that has waited longest, and the others wait on where it was the only one. R90, R65: an entry that
has ended places its Abandoned message and is freed. R91: one that is Queued again places it and rejoins the send list. R86, R87: a
Finishing entry places its hand-off, its way becomes Copy or empty, and it is freed. R105: the HWQ head places the data message of the
result it keeps and leaves, and the memory port goes on. -/
def Obligations.SqPlaceGivenToOldestAsker : Prop :=
  ∀ (s : State) (first : Asker) (rest : List Asker),
    s.bus.askers = first :: rest → s.sqFree = true → (rest = [] ∨ s.bus.sq.length + s.sqHeld = 7) →
    s.portEmpty = true → s.home.wanted = [] → (s.home.port ≠ .idle ∨ s.home.hwq = []) → s.ctl.mode ≠ .quiescing →
    (∀ q ∈ s.bus.sq, q.converting = false) →
    (∀ (t : ReqTag) (e : PrtEntry) (f : Follower),
      first = .prt t → s.entry t = some e → e.owes = .abandoned → e.follower = some f →
      (e.phase = .finishing →
        exec .sqPlaceGiven s = .next
          { s with
            engine := (s.freeEntry t).engine
            bus :=
              { s.bus with
                askers := rest.filter (· != .prt t)
                sendList := s.bus.sendList.filter (· != .prt t)
                sq := s.bus.sq ++
                  [newSqEntry
                    { dest := f.station, tag := f.tag, gen := f.gen, line := e.line, grant := .none, homeTake := false
                      status := .abandoned, data := none } false] }
            out := noOutput }) ∧
      (e.phase = .queued →
        exec .sqPlaceGiven s = .next
          { s with
            engine := (s.setEntry t { e with follower := none, owes := .nothing }).engine
            bus :=
              { s.bus with
                askers := rest
                sendList := s.bus.sendList.filter (· != .prt t) ++ [.prt t]
                sq := s.bus.sq ++
                  [newSqEntry
                    { dest := f.station, tag := f.tag, gen := f.gen, line := e.line, grant := .none, homeTake := false
                      status := .abandoned, data := none } false] }
            out := noOutput })) ∧
    (∀ (t : ReqTag) (e : PrtEntry) (f : Follower) (v : WayNo) (st : LineState) (x : LineData),
      first = .prt t → s.entry t = some e → e.owes = .handOff → e.follower = some f → e.way = some v →
      s.wayAt e.line v = .holding e.line st x →
      exec .sqPlaceGiven s = .next
        { s with
          cache := (s.setWay e.line v (if f.kind = .fetch then .holding e.line .copy x else .empty)).cache
          engine := (s.freeEntry t).engine
          bus :=
            { s.bus with
              askers := rest.filter (· != .prt t)
              sendList := s.bus.sendList.filter (· != .prt t)
              sq := s.bus.sq ++
                [newSqEntry
                  { dest := f.station, tag := f.tag, gen := f.gen, line := e.line
                    grant := if f.kind = .fetch then .copy else if f.kind = .claim then .sole else .none
                    homeTake := f.kind == .fetch, status := .good, data := some x }
                  (!e.filledByHome || e.wrote)] }
          out := noOutput }) ∧
    ∀ (a : MemAddr) (k : HwqWork) (more : List HwqEntry) (n : StationNo) (t : ReqTag) (g : Gen) (l : LineNo) (gr : Grant),
      first = .home → s.home.hwq = { addr := a, work := k } :: more →
      (k = .supplyRead n t g l gr ∨ (k = .directRead n t g l ∧ gr = .none)) →
      (∀ x, s.home.port = .holding (some x) →
        exec .sqPlaceGiven s = .next
          { s with
            home.hwq := more, home.port := portOver more
            bus.askers := rest
            bus.sq := s.bus.sq ++
              [newSqEntry
                { dest := n, tag := t, gen := g, line := l, grant := gr, homeTake := false, status := .good, data := some x } false]
            out := noOutput }) ∧
      (s.home.port = .holding none →
        exec .sqPlaceGiven s = .next
          { s with
            home.hwq := more, home.port := portOver more
            bus.askers := rest
            bus.sq := s.bus.sq ++
              [newSqEntry
                { dest := n, tag := t, gen := g, line := l, grant := .none, homeTake := false, status := .memoryError, data := none }
                false]
            out := noOutput })

/-- R55: the conversion that has waited longest, the first of the waiting entries wherever it stands in the SQ, takes a free RQ entry: the
line joins the tails of the RQ and of the send list, a Copy of it here is dropped, the SQ entry leaves, and STALE_DATA or RESEND_EXHAUSTED
is recorded; the others wait on where that was the last free RQ entry. R117: a victim recall is made for the oldest wanted line whose flag
is not set, at the lowest-numbered free tag; the lines before it on the list, their flags set, are passed over and keep their places. -/
def Obligations.ConversionAndVictimRecall : Prop :=
  (∀ (s : State) (before after : List SqEntry) (e : SqEntry) (x : LineData),
    s.bus.sq = before ++ e :: after → (∀ q ∈ before, q.converting = false) → e.converting = true → e.msg.data = some x →
    s.rqFree = true → (s.ret.rq.length = 3 ∨ ∀ q ∈ after, q.converting = false) →
    s.bus.askers = [] → s.portEmpty = true → s.home.wanted = [] → (s.home.port ≠ .idle ∨ s.home.hwq = []) →
    s.ctl.mode ≠ .quiescing → s.lpu.log.length < 8 →
    exec .conversionToReturn s = .next
      { s with
        ret.rq := s.ret.rq ++ [{ line := e.msg.line, data := x, flushes := [] }]
        cache := (s.emptyCopy e.msg.line).cache
        bus :=
          { s.bus with sq := before ++ after, sendList := s.bus.sendList.filter (· != .rq e.msg.line) ++ [.rq e.msg.line] }
        lpu.log := s.lpu.log ++
          [{ kind := if (if e.msg.homeTake then e.homeState else e.destState) = .stale then .staleData else .resendExhausted
             line := some e.msg.line
             peer := if e.msg.homeTake then s.homeOf e.msg.line else some e.msg.dest }]
        out := noOutput }) ∧
  ∀ (s : State) (t : ReqTag) (l : LineNo) (before after : List LineNo) (x : ExportEntry),
    s.freeTag = some t → s.home.wanted = before ++ l :: after →
    (before.all fun k => (s.findExport k).all fun y => y.awaiting.isSome) = true → s.findExport l = some x → x.awaiting = none →
    ((∀ u, u ≠ t → s.entry u ≠ none) ∨ (after.all fun k => k == l || (s.findExport k).all fun y => y.awaiting.isSome) = true) →
    s.portEmpty = true → (s.home.port ≠ .idle ∨ s.home.hwq = []) → s.bus.askers = [] → (∀ q ∈ s.bus.sq, q.converting = false) →
    s.ctl.mode ≠ .quiescing →
    exec .victimRecall s = .next
      { s with
        engine := (s.setEntry t (.fresh .recall l none [] .victim)).engine
        bus := (s.enqueue (.prt t)).bus
        home :=
          { s.home with
            wanted := before ++ after.filter (· != l)
            exports := put s.home.exports (exportIndex l)
              ((s.exportSet l).map fun x => if x.line = l then { x with state := .inFlight } else x) }
        out := noOutput }

/-- R129 to R131: the walk of a cache that holds no line is done in the event in which it begins, and the station is Quiesced in that
event where nothing else is left. The rows of R130 at any position: an empty way is passed, a Copy or Sole is dropped, an Altered line
moves to the RQ, and the walk goes on at the next way; it waits at a line under answer or in transit, and at an Altered line while the RQ
is full. R131: a Quiescing station whose walk is done and whose RQ, SQ, PRT and Pin Table are empty becomes Quiesced; one with any of them
not so stays as it is. -/
def Obligations.QuiesceWalkAndEntry : Prop :=
  (∀ s : State, s.ctl.mode = .quiescing → s.ret.walk = .notBegun → s.walkMayBegin = true →
    (∀ p, p < 2048 → s.walkAt p = .empty) → s.portEmpty = true → (s.home.port ≠ .idle ∨ s.home.hwq = []) →
    s.home.wanted = [] → s.bus.askers = [] → (∀ q ∈ s.bus.sq, q.converting = false) →
    (s.ret.rq = [] ∧ s.bus.sq = [] ∧ s.sqHeld = 0 ∧ (∀ t, s.entry t = none) →
      exec .quiesceWalk s = .next { s with ctl.mode := .quiesced, lpu.stateChange := true, out := noOutput }) ∧
    (¬(s.ret.rq = [] ∧ s.bus.sq = [] ∧ s.sqHeld = 0 ∧ (∀ t, s.entry t = none)) →
      exec .quiesceWalk s = .next { s with ret.walk := .done, out := noOutput })) ∧
  (∀ s : State, s.ctl.mode = .quiescing → s.portEmpty = true → (s.home.port ≠ .idle ∨ s.home.hwq = []) → s.home.wanted = [] →
    s.bus.askers = [] → (∀ q ∈ s.bus.sq, q.converting = false) →
    (s.ret.walk = .notBegun → s.walkMayBegin = true →
      exec .quiesceWalk s = exec .quiesceWalk { s with ret.walk := .atWay 0 }) ∧
    ∀ (p : Nat) (next : Walk), s.ret.walk = .atWay p → p < 2048 → next = (if p + 1 < 2048 then .atWay (p + 1) else .done) →
      (s.walkAt p = .empty → exec .quiesceWalk s = exec .quiesceWalk { s with ret.walk := next }) ∧
      ∀ (l : LineNo) (st : LineState) (x : LineData), s.walkAt p = .holding l st x →
        (s.underAnswer l = false → s.inTransit l = false → st ≠ .altered →
          exec .quiesceWalk s = exec .quiesceWalk { s with cache := (s.walkEmpty p).cache, ret.walk := next }) ∧
        (s.underAnswer l = false → s.inTransit l = false → st = .altered → s.rqFree = true →
          exec .quiesceWalk s = exec .quiesceWalk
            { s with
              cache := (s.walkEmpty p).cache
              ret := { rq := s.ret.rq ++ [{ line := l, data := x, flushes := [] }], walk := next }
              bus.sendList := s.bus.sendList.filter (· != .rq l) ++ [.rq l] }) ∧
        ((s.underAnswer l = true ∨ s.inTransit l = true ∨ (st = .altered ∧ s.rqFree = false)) →
          exec .quiesceWalk s = .next { s with out := noOutput })) ∧
  ∀ s : State,
    (s.ctl.mode = .quiescing → s.ret.walk = .done → s.ret.rq = [] → s.bus.sq = [] → s.sqHeld = 0 → s.cache.pins = [] →
      (∀ t, s.entry t = none) →
      exec .quiescedEntry s = .next
        { s with ctl.mode := .quiesced, ret.walk := .notBegun, lpu.stateChange := true, out := noOutput }) ∧
    ((s.ctl.mode ≠ .quiescing ∨ s.ret.walk ≠ .done ∨ s.ret.rq ≠ [] ∨ s.bus.sq ≠ [] ∨ s.sqHeld ≠ 0 ∨ s.cache.pins ≠ [] ∨
        ∃ t, s.entry t ≠ none) →
      exec .quiescedEntry s = .next { s with out := noOutput })
end

