-- ==== Sys2Proof/Laws/Codec.lean ====
section
/-!
SUPPORT. What is true of every frame: the check that the sender adds is found right, and a message is its kind byte, its header and its
body.
-/

namespace Sys2Proof.Machine

/-- The two bytes of the check, joined, are the check. -/
theorem crc_bytes_join (c : BitVec 16) : (c.extractLsb' 8 8 ++ c.extractLsb' 0 8 : BitVec 16) = c := by
  ext i hi
  simp only [BitVec.getElem_append, BitVec.getElem_extractLsb']
  split
  · simp [BitVec.getLsbD_eq_getElem hi]
  · simp only [show 8 + (i - 8) = i by omega, BitVec.getLsbD_eq_getElem hi]

/-- A run of bytes followed by its own check passes the check (R168). -/
theorem checkFrame_framed (m : List Byte) :
    checkFrame (m ++ [(crc16 m).extractLsb' 8 8, (crc16 m).extractLsb' 0 8]) = some m := by
  simp [checkFrame, crc_bytes_join]

/-- The header of a frame carries its sender. -/
theorem header_sender (enrolment : Bool) (n : StationNo) :
    (0#3 ++ BitVec.ofBool enrolment ++ n : BitVec 8).extractLsb' 0 4 = n := by
  revert n; cases enrolment <;> decide

/-- The header of a frame has the phase marker of its kind and zeros above it. -/
theorem header_ok (enrolment : Bool) (n : StationNo) :
    headerOk (0#3 ++ BitVec.ofBool enrolment ++ n : BitVec 8) enrolment = true := by
  revert n; cases enrolment <;> decide

/-- A data message's frame is found sound exactly where its body is. -/
theorem parseData_framed (n : StationNo) (body : List Byte) :
    parseData (encodeFrame 0x0A false n body) = (parseDataBody body).map fun m => (n, m) := by
  simp only [parseData, encodeFrame, checkFrame_framed, header_ok, header_sender]
  cases parseDataBody body <;> simp

/-- A request message's frame is found sound exactly where its body is, and its header shows the phase of the request found. -/
theorem parseRequest_framed (k : Byte) (enrolment : Bool) (n : StationNo) (body : List Byte) (r : Request)
    (h : parseBody k body = some r) (he : r.enrolment = enrolment) :
    parseRequest (encodeFrame k enrolment n body) = some (n, r) := by
  subst he
  simp only [parseRequest, encodeFrame, checkFrame_framed, h, header_ok, header_sender, if_true]

end Sys2Proof.Machine
end

