-- ==== Sys2Proof/Laws/Memory.lean ====
section
/-!
SUPPORT. The home memory: every operation keeps the canonical form, a write is read back, and it changes no other byte.
-/

namespace Sys2Proof.Machine.Memory

/-- A list canonical above `a` is canonical above every lower address. -/
theorem wfFrom_mono {a b : Nat} (h : a ≤ b) : ∀ {m : List Host.Cell}, wfFrom b m = true → wfFrom a m = true
  | [], _ => rfl
  | (c, v) :: m, hm => by
    simp only [wfFrom, Bool.and_eq_true, decide_eq_true_eq] at hm ⊢
    exact ⟨⟨by omega, hm.1.2⟩, hm.2⟩

/-- A write at or above `a` keeps the canonical form above `a`. -/
theorem write_wfFrom (x : Byte) : ∀ (m : List Host.Cell) (a k : Nat), k ≤ a → wfFrom k m = true → wfFrom k (write m a x) = true
  | [], a, k, hk, _ => by
    by_cases hx : x = blank <;> simp [write, wfFrom, hx, hk]
  | (b, v) :: m, a, k, hk, hm => by
    simp only [wfFrom, Bool.and_eq_true, decide_eq_true_eq] at hm
    obtain ⟨⟨hb, hv⟩, hm⟩ := hm
    unfold write
    split_ifs with h1 h2 h3 h4
    · simp [wfFrom, hb, hv, hm]
    · have h5 : a + 1 ≤ b := h1
      simp [wfFrom, hk, h2, h5, hv, hm]
    · exact wfFrom_mono (by omega) hm
    · subst h3
      simp [wfFrom, hk, h4, hm]
    · simp only [wfFrom, Bool.and_eq_true, decide_eq_true_eq]
      exact ⟨⟨hb, hv⟩, write_wfFrom x m a (b + 1) (by omega) hm⟩

/-- A write keeps the canonical form. -/
theorem write_wf {m : List Host.Cell} (h : wf m = true) (a : Nat) (x : Byte) : wf (write m a x) = true :=
  write_wfFrom x m a 0 (Nat.zero_le a) h

/-- Several writes keep the canonical form. -/
theorem writeAll_wf : ∀ (ps : List Host.Cell) {m : List Host.Cell}, wf m = true → wf (writeAll m ps) = true
  | [], _, h => h
  | p :: ps, _, h => writeAll_wf ps (write_wf h p.1 p.2)

/-- An address below every listed one reads as blank. -/
theorem read_below : ∀ {m : List Host.Cell} {a k : Nat}, a < k → wfFrom k m = true → read m a = blank
  | [], _, _, _, _ => rfl
  | (b, v) :: m, a, k, h, hm => by
    simp only [wfFrom, Bool.and_eq_true, decide_eq_true_eq] at hm
    have hne : a ≠ b := by omega
    simp only [read, if_neg hne]
    exact read_below (k := b + 1) (by omega) hm.2

/-- A byte written is read back. -/
theorem read_write_self (x : Byte) : ∀ (m : List Host.Cell) (a k : Nat), wfFrom k m = true → read (write m a x) a = x
  | [], a, _, _ => by by_cases hx : x = blank <;> simp [write, read, hx]
  | (b, v) :: m, a, k, hm => by
    have hm' := hm
    simp only [wfFrom, Bool.and_eq_true, decide_eq_true_eq] at hm
    unfold write
    split_ifs with h1 h2 h3 h4
    · have hne : a ≠ b := by omega
      simp only [read, if_neg hne]
      rw [h2]
      exact read_below (k := b + 1) (by omega) hm.2
    · simp [read]
    · rw [h4]
      exact read_below (k := b + 1) (by omega) hm.2
    · simp [read]
    · simp only [read, if_neg h3]
      exact read_write_self x m a (b + 1) hm.2

/-- A write changes no byte at another address, whatever the list. -/
theorem read_write_ne (x : Byte) {a c : Nat} (h : c ≠ a) : ∀ m : List Host.Cell, read (write m a x) c = read m c
  | [] => by by_cases hx : x = blank <;> simp [write, read, hx, h]
  | (b, v) :: m => by
    unfold write
    split_ifs with h1 h2 h3 h4
    · rfl
    · simp [read, h]
    · subst h3
      simp [read, h]
    · subst h3
      simp [read, h]
    · simp only [read, read_write_ne x h m]

/-- Several writes change no byte outside their addresses. -/
theorem read_writeAll_ne {c : Nat} :
    ∀ (ps : List Host.Cell) (m : List Host.Cell), (∀ p ∈ ps, c ≠ p.1) → read (writeAll m ps) c = read m c
  | [], _, _ => rfl
  | p :: ps, m, h => by
    have h1 := read_writeAll_ne ps (write m p.1 p.2) fun q hq => h q (List.mem_cons_of_mem p hq)
    have h2 := read_write_ne p.2 (h p List.mem_cons_self) m
    simpa [writeAll] using h1.trans h2

/-- No write, no change. -/
@[simp] theorem writeAll_nil (m : List Host.Cell) : writeAll m [] = m := rfl

/-- The empty memory is canonical. -/
@[simp] theorem wf_nil : wf [] = true := rfl

/-- As many bytes are read as were asked for. -/
@[simp] theorem readBytes_length (m : List Host.Cell) (a n : Nat) : (readBytes m a n).length = n := by simp [readBytes]

end Sys2Proof.Machine.Memory
end

