-- ==== Sys2Proof/Laws/State.lean ====
section
/-!
SUPPORT. What each update of the state leaves as it was: one lemma per block an update does not touch, and per field of a block that it
touches in part. All are true by computation and tagged simp, so that no later proof unfolds a record update.
-/

namespace Sys2Proof.Machine

variable (s : State)

/-! `reply` writes out.responses alone. -/

@[simp] theorem reply_lpu (tag : PTag) (st : Status) (p : Payload) : (s.reply tag st p).lpu = s.lpu := rfl
@[simp] theorem reply_segments (tag : PTag) (st : Status) (p : Payload) : (s.reply tag st p).segments = s.segments := rfl
@[simp] theorem reply_cache (tag : PTag) (st : Status) (p : Payload) : (s.reply tag st p).cache = s.cache := rfl
@[simp] theorem reply_engine (tag : PTag) (st : Status) (p : Payload) : (s.reply tag st p).engine = s.engine := rfl
@[simp] theorem reply_ret (tag : PTag) (st : Status) (p : Payload) : (s.reply tag st p).ret = s.ret := rfl
@[simp] theorem reply_home (tag : PTag) (st : Status) (p : Payload) : (s.reply tag st p).home = s.home := rfl
@[simp] theorem reply_bus (tag : PTag) (st : Status) (p : Payload) : (s.reply tag st p).bus = s.bus := rfl
@[simp] theorem reply_ctl (tag : PTag) (st : Status) (p : Payload) : (s.reply tag st p).ctl = s.ctl := rfl
@[simp] theorem reply_out_sent (tag : PTag) (st : Status) (p : Payload) : (s.reply tag st p).out.sent = s.out.sent := rfl
@[simp] theorem reply_fresh (tag : PTag) (st : Status) (p : Payload) : (s.reply tag st p).fresh = s.fresh := rfl
@[simp] theorem reply_pending (tag : PTag) (st : Status) (p : Payload) : (s.reply tag st p).pending = s.pending := rfl

/-! `enterMode` writes ctl.mode, lpu.stateChange alone. -/

@[simp] theorem enterMode_lpu_lrq (m : Mode) : (s.enterMode m).lpu.lrq = s.lpu.lrq := rfl
@[simp] theorem enterMode_lpu_head (m : Mode) : (s.enterMode m).lpu.head = s.lpu.head := rfl
@[simp] theorem enterMode_lpu_pinRecall (m : Mode) : (s.enterMode m).lpu.pinRecall = s.lpu.pinRecall := rfl
@[simp] theorem enterMode_lpu_tags (m : Mode) : (s.enterMode m).lpu.tags = s.lpu.tags := rfl
@[simp] theorem enterMode_lpu_log (m : Mode) : (s.enterMode m).lpu.log = s.lpu.log := rfl
@[simp] theorem enterMode_lpu_overflow (m : Mode) : (s.enterMode m).lpu.overflow = s.lpu.overflow := rfl
@[simp] theorem enterMode_lpu_faultEnable (m : Mode) : (s.enterMode m).lpu.faultEnable = s.lpu.faultEnable := rfl
@[simp] theorem enterMode_lpu_stateEnable (m : Mode) : (s.enterMode m).lpu.stateEnable = s.lpu.stateEnable := rfl
@[simp] theorem enterMode_segments (m : Mode) : (s.enterMode m).segments = s.segments := rfl
@[simp] theorem enterMode_cache (m : Mode) : (s.enterMode m).cache = s.cache := rfl
@[simp] theorem enterMode_engine (m : Mode) : (s.enterMode m).engine = s.engine := rfl
@[simp] theorem enterMode_ret (m : Mode) : (s.enterMode m).ret = s.ret := rfl
@[simp] theorem enterMode_home (m : Mode) : (s.enterMode m).home = s.home := rfl
@[simp] theorem enterMode_bus (m : Mode) : (s.enterMode m).bus = s.bus := rfl
@[simp] theorem enterMode_ctl_start (m : Mode) : (s.enterMode m).ctl.start = s.ctl.start := rfl
@[simp] theorem enterMode_ctl_enrolled (m : Mode) : (s.enterMode m).ctl.enrolled = s.ctl.enrolled := rfl
@[simp] theorem enterMode_ctl_roll (m : Mode) : (s.enterMode m).ctl.roll = s.ctl.roll := rfl
@[simp] theorem enterMode_out (m : Mode) : (s.enterMode m).out = s.out := rfl
@[simp] theorem enterMode_fresh (m : Mode) : (s.enterMode m).fresh = s.fresh := rfl
@[simp] theorem enterMode_pending (m : Mode) : (s.enterMode m).pending = s.pending := rfl

/-! `useTag` writes lpu.tags alone. -/

@[simp] theorem useTag_lpu_lrq (tag : PTag) : (s.useTag tag).lpu.lrq = s.lpu.lrq := rfl
@[simp] theorem useTag_lpu_head (tag : PTag) : (s.useTag tag).lpu.head = s.lpu.head := rfl
@[simp] theorem useTag_lpu_pinRecall (tag : PTag) : (s.useTag tag).lpu.pinRecall = s.lpu.pinRecall := rfl
@[simp] theorem useTag_lpu_log (tag : PTag) : (s.useTag tag).lpu.log = s.lpu.log := rfl
@[simp] theorem useTag_lpu_overflow (tag : PTag) : (s.useTag tag).lpu.overflow = s.lpu.overflow := rfl
@[simp] theorem useTag_lpu_stateChange (tag : PTag) : (s.useTag tag).lpu.stateChange = s.lpu.stateChange := rfl
@[simp] theorem useTag_lpu_faultEnable (tag : PTag) : (s.useTag tag).lpu.faultEnable = s.lpu.faultEnable := rfl
@[simp] theorem useTag_lpu_stateEnable (tag : PTag) : (s.useTag tag).lpu.stateEnable = s.lpu.stateEnable := rfl
@[simp] theorem useTag_segments (tag : PTag) : (s.useTag tag).segments = s.segments := rfl
@[simp] theorem useTag_cache (tag : PTag) : (s.useTag tag).cache = s.cache := rfl
@[simp] theorem useTag_engine (tag : PTag) : (s.useTag tag).engine = s.engine := rfl
@[simp] theorem useTag_ret (tag : PTag) : (s.useTag tag).ret = s.ret := rfl
@[simp] theorem useTag_home (tag : PTag) : (s.useTag tag).home = s.home := rfl
@[simp] theorem useTag_bus (tag : PTag) : (s.useTag tag).bus = s.bus := rfl
@[simp] theorem useTag_ctl (tag : PTag) : (s.useTag tag).ctl = s.ctl := rfl
@[simp] theorem useTag_out (tag : PTag) : (s.useTag tag).out = s.out := rfl
@[simp] theorem useTag_fresh (tag : PTag) : (s.useTag tag).fresh = s.fresh := rfl
@[simp] theorem useTag_pending (tag : PTag) : (s.useTag tag).pending = s.pending := rfl

/-! `freeProcessorTag` writes lpu.tags alone. -/

@[simp] theorem freeProcessorTag_lpu_lrq (tag : PTag) : (s.freeProcessorTag tag).lpu.lrq = s.lpu.lrq := rfl
@[simp] theorem freeProcessorTag_lpu_head (tag : PTag) : (s.freeProcessorTag tag).lpu.head = s.lpu.head := rfl
@[simp] theorem freeProcessorTag_lpu_pinRecall (tag : PTag) : (s.freeProcessorTag tag).lpu.pinRecall = s.lpu.pinRecall := rfl
@[simp] theorem freeProcessorTag_lpu_log (tag : PTag) : (s.freeProcessorTag tag).lpu.log = s.lpu.log := rfl
@[simp] theorem freeProcessorTag_lpu_overflow (tag : PTag) : (s.freeProcessorTag tag).lpu.overflow = s.lpu.overflow := rfl
@[simp] theorem freeProcessorTag_lpu_stateChange (tag : PTag) : (s.freeProcessorTag tag).lpu.stateChange = s.lpu.stateChange := rfl
@[simp] theorem freeProcessorTag_lpu_faultEnable (tag : PTag) : (s.freeProcessorTag tag).lpu.faultEnable = s.lpu.faultEnable := rfl
@[simp] theorem freeProcessorTag_lpu_stateEnable (tag : PTag) : (s.freeProcessorTag tag).lpu.stateEnable = s.lpu.stateEnable := rfl
@[simp] theorem freeProcessorTag_segments (tag : PTag) : (s.freeProcessorTag tag).segments = s.segments := rfl
@[simp] theorem freeProcessorTag_cache (tag : PTag) : (s.freeProcessorTag tag).cache = s.cache := rfl
@[simp] theorem freeProcessorTag_engine (tag : PTag) : (s.freeProcessorTag tag).engine = s.engine := rfl
@[simp] theorem freeProcessorTag_ret (tag : PTag) : (s.freeProcessorTag tag).ret = s.ret := rfl
@[simp] theorem freeProcessorTag_home (tag : PTag) : (s.freeProcessorTag tag).home = s.home := rfl
@[simp] theorem freeProcessorTag_bus (tag : PTag) : (s.freeProcessorTag tag).bus = s.bus := rfl
@[simp] theorem freeProcessorTag_ctl (tag : PTag) : (s.freeProcessorTag tag).ctl = s.ctl := rfl
@[simp] theorem freeProcessorTag_out (tag : PTag) : (s.freeProcessorTag tag).out = s.out := rfl
@[simp] theorem freeProcessorTag_fresh (tag : PTag) : (s.freeProcessorTag tag).fresh = s.fresh := rfl
@[simp] theorem freeProcessorTag_pending (tag : PTag) : (s.freeProcessorTag tag).pending = s.pending := rfl

/-! `answer` writes lpu.tags, out.responses alone. -/

@[simp] theorem answer_lpu_lrq (tag : PTag) (st : Status) (p : Payload) : (s.answer tag st p).lpu.lrq = s.lpu.lrq := rfl
@[simp] theorem answer_lpu_head (tag : PTag) (st : Status) (p : Payload) : (s.answer tag st p).lpu.head = s.lpu.head := rfl
@[simp] theorem answer_lpu_pinRecall (tag : PTag) (st : Status) (p : Payload) : (s.answer tag st p).lpu.pinRecall = s.lpu.pinRecall := rfl
@[simp] theorem answer_lpu_log (tag : PTag) (st : Status) (p : Payload) : (s.answer tag st p).lpu.log = s.lpu.log := rfl
@[simp] theorem answer_lpu_overflow (tag : PTag) (st : Status) (p : Payload) : (s.answer tag st p).lpu.overflow = s.lpu.overflow := rfl
@[simp] theorem answer_lpu_stateChange (tag : PTag) (st : Status) (p : Payload) : (s.answer tag st p).lpu.stateChange = s.lpu.stateChange := rfl
@[simp] theorem answer_lpu_faultEnable (tag : PTag) (st : Status) (p : Payload) : (s.answer tag st p).lpu.faultEnable = s.lpu.faultEnable := rfl
@[simp] theorem answer_lpu_stateEnable (tag : PTag) (st : Status) (p : Payload) : (s.answer tag st p).lpu.stateEnable = s.lpu.stateEnable := rfl
@[simp] theorem answer_segments (tag : PTag) (st : Status) (p : Payload) : (s.answer tag st p).segments = s.segments := rfl
@[simp] theorem answer_cache (tag : PTag) (st : Status) (p : Payload) : (s.answer tag st p).cache = s.cache := rfl
@[simp] theorem answer_engine (tag : PTag) (st : Status) (p : Payload) : (s.answer tag st p).engine = s.engine := rfl
@[simp] theorem answer_ret (tag : PTag) (st : Status) (p : Payload) : (s.answer tag st p).ret = s.ret := rfl
@[simp] theorem answer_home (tag : PTag) (st : Status) (p : Payload) : (s.answer tag st p).home = s.home := rfl
@[simp] theorem answer_bus (tag : PTag) (st : Status) (p : Payload) : (s.answer tag st p).bus = s.bus := rfl
@[simp] theorem answer_ctl (tag : PTag) (st : Status) (p : Payload) : (s.answer tag st p).ctl = s.ctl := rfl
@[simp] theorem answer_out_sent (tag : PTag) (st : Status) (p : Payload) : (s.answer tag st p).out.sent = s.out.sent := rfl
@[simp] theorem answer_fresh (tag : PTag) (st : Status) (p : Payload) : (s.answer tag st p).fresh = s.fresh := rfl
@[simp] theorem answer_pending (tag : PTag) (st : Status) (p : Payload) : (s.answer tag st p).pending = s.pending := rfl

/-! `popHead` writes lpu.lrq, lpu.head, lpu.pinRecall alone. -/

@[simp] theorem popHead_lpu_tags : (s.popHead).lpu.tags = s.lpu.tags := rfl
@[simp] theorem popHead_lpu_log : (s.popHead).lpu.log = s.lpu.log := rfl
@[simp] theorem popHead_lpu_overflow : (s.popHead).lpu.overflow = s.lpu.overflow := rfl
@[simp] theorem popHead_lpu_stateChange : (s.popHead).lpu.stateChange = s.lpu.stateChange := rfl
@[simp] theorem popHead_lpu_faultEnable : (s.popHead).lpu.faultEnable = s.lpu.faultEnable := rfl
@[simp] theorem popHead_lpu_stateEnable : (s.popHead).lpu.stateEnable = s.lpu.stateEnable := rfl
@[simp] theorem popHead_segments : (s.popHead).segments = s.segments := rfl
@[simp] theorem popHead_cache : (s.popHead).cache = s.cache := rfl
@[simp] theorem popHead_engine : (s.popHead).engine = s.engine := rfl
@[simp] theorem popHead_ret : (s.popHead).ret = s.ret := rfl
@[simp] theorem popHead_home : (s.popHead).home = s.home := rfl
@[simp] theorem popHead_bus : (s.popHead).bus = s.bus := rfl
@[simp] theorem popHead_ctl : (s.popHead).ctl = s.ctl := rfl
@[simp] theorem popHead_out : (s.popHead).out = s.out := rfl
@[simp] theorem popHead_fresh : (s.popHead).fresh = s.fresh := rfl
@[simp] theorem popHead_pending : (s.popHead).pending = s.pending := rfl

/-! `begin` writes out.responses, out.sent alone. -/

@[simp] theorem begin_lpu : (s.begin).lpu = s.lpu := rfl
@[simp] theorem begin_segments : (s.begin).segments = s.segments := rfl
@[simp] theorem begin_cache : (s.begin).cache = s.cache := rfl
@[simp] theorem begin_engine : (s.begin).engine = s.engine := rfl
@[simp] theorem begin_ret : (s.begin).ret = s.ret := rfl
@[simp] theorem begin_home : (s.begin).home = s.home := rfl
@[simp] theorem begin_bus : (s.begin).bus = s.bus := rfl
@[simp] theorem begin_ctl : (s.begin).ctl = s.ctl := rfl
@[simp] theorem begin_fresh : (s.begin).fresh = s.fresh := rfl
@[simp] theorem begin_pending : (s.begin).pending = s.pending := rfl

/-! `removePin` writes cache.pins alone. -/

@[simp] theorem removePin_lpu (l : LineNo) : (s.removePin l).lpu = s.lpu := rfl
@[simp] theorem removePin_segments (l : LineNo) : (s.removePin l).segments = s.segments := rfl
@[simp] theorem removePin_cache_sets (l : LineNo) : (s.removePin l).cache.sets = s.cache.sets := rfl
@[simp] theorem removePin_engine (l : LineNo) : (s.removePin l).engine = s.engine := rfl
@[simp] theorem removePin_ret (l : LineNo) : (s.removePin l).ret = s.ret := rfl
@[simp] theorem removePin_home (l : LineNo) : (s.removePin l).home = s.home := rfl
@[simp] theorem removePin_bus (l : LineNo) : (s.removePin l).bus = s.bus := rfl
@[simp] theorem removePin_ctl (l : LineNo) : (s.removePin l).ctl = s.ctl := rfl
@[simp] theorem removePin_out (l : LineNo) : (s.removePin l).out = s.out := rfl
@[simp] theorem removePin_fresh (l : LineNo) : (s.removePin l).fresh = s.fresh := rfl
@[simp] theorem removePin_pending (l : LineNo) : (s.removePin l).pending = s.pending := rfl

/-! `addPin` writes cache.pins alone. -/

@[simp] theorem addPin_lpu (p : PinEntry) : (s.addPin p).lpu = s.lpu := rfl
@[simp] theorem addPin_segments (p : PinEntry) : (s.addPin p).segments = s.segments := rfl
@[simp] theorem addPin_cache_sets (p : PinEntry) : (s.addPin p).cache.sets = s.cache.sets := rfl
@[simp] theorem addPin_engine (p : PinEntry) : (s.addPin p).engine = s.engine := rfl
@[simp] theorem addPin_ret (p : PinEntry) : (s.addPin p).ret = s.ret := rfl
@[simp] theorem addPin_home (p : PinEntry) : (s.addPin p).home = s.home := rfl
@[simp] theorem addPin_bus (p : PinEntry) : (s.addPin p).bus = s.bus := rfl
@[simp] theorem addPin_ctl (p : PinEntry) : (s.addPin p).ctl = s.ctl := rfl
@[simp] theorem addPin_out (p : PinEntry) : (s.addPin p).out = s.out := rfl
@[simp] theorem addPin_fresh (p : PinEntry) : (s.addPin p).fresh = s.fresh := rfl
@[simp] theorem addPin_pending (p : PinEntry) : (s.addPin p).pending = s.pending := rfl

/-! `holdPin` writes cache.pins alone. -/

@[simp] theorem holdPin_lpu (l : LineNo) : (s.holdPin l).lpu = s.lpu := rfl
@[simp] theorem holdPin_segments (l : LineNo) : (s.holdPin l).segments = s.segments := rfl
@[simp] theorem holdPin_cache_sets (l : LineNo) : (s.holdPin l).cache.sets = s.cache.sets := rfl
@[simp] theorem holdPin_engine (l : LineNo) : (s.holdPin l).engine = s.engine := rfl
@[simp] theorem holdPin_ret (l : LineNo) : (s.holdPin l).ret = s.ret := rfl
@[simp] theorem holdPin_home (l : LineNo) : (s.holdPin l).home = s.home := rfl
@[simp] theorem holdPin_bus (l : LineNo) : (s.holdPin l).bus = s.bus := rfl
@[simp] theorem holdPin_ctl (l : LineNo) : (s.holdPin l).ctl = s.ctl := rfl
@[simp] theorem holdPin_out (l : LineNo) : (s.holdPin l).out = s.out := rfl
@[simp] theorem holdPin_fresh (l : LineNo) : (s.holdPin l).fresh = s.fresh := rfl
@[simp] theorem holdPin_pending (l : LineNo) : (s.holdPin l).pending = s.pending := rfl

/-! `setWay` writes cache.sets alone. -/

@[simp] theorem setWay_lpu (l : LineNo) (w : WayNo) (x : Way) : (s.setWay l w x).lpu = s.lpu := rfl
@[simp] theorem setWay_segments (l : LineNo) (w : WayNo) (x : Way) : (s.setWay l w x).segments = s.segments := rfl
@[simp] theorem setWay_cache_pins (l : LineNo) (w : WayNo) (x : Way) : (s.setWay l w x).cache.pins = s.cache.pins := rfl
@[simp] theorem setWay_engine (l : LineNo) (w : WayNo) (x : Way) : (s.setWay l w x).engine = s.engine := rfl
@[simp] theorem setWay_ret (l : LineNo) (w : WayNo) (x : Way) : (s.setWay l w x).ret = s.ret := rfl
@[simp] theorem setWay_home (l : LineNo) (w : WayNo) (x : Way) : (s.setWay l w x).home = s.home := rfl
@[simp] theorem setWay_bus (l : LineNo) (w : WayNo) (x : Way) : (s.setWay l w x).bus = s.bus := rfl
@[simp] theorem setWay_ctl (l : LineNo) (w : WayNo) (x : Way) : (s.setWay l w x).ctl = s.ctl := rfl
@[simp] theorem setWay_out (l : LineNo) (w : WayNo) (x : Way) : (s.setWay l w x).out = s.out := rfl
@[simp] theorem setWay_fresh (l : LineNo) (w : WayNo) (x : Way) : (s.setWay l w x).fresh = s.fresh := rfl
@[simp] theorem setWay_pending (l : LineNo) (w : WayNo) (x : Way) : (s.setWay l w x).pending = s.pending := rfl

/-! `touch` writes cache.sets alone. -/

@[simp] theorem touch_lpu (l : LineNo) (w : WayNo) : (s.touch l w).lpu = s.lpu := rfl
@[simp] theorem touch_segments (l : LineNo) (w : WayNo) : (s.touch l w).segments = s.segments := rfl
@[simp] theorem touch_cache_pins (l : LineNo) (w : WayNo) : (s.touch l w).cache.pins = s.cache.pins := rfl
@[simp] theorem touch_engine (l : LineNo) (w : WayNo) : (s.touch l w).engine = s.engine := rfl
@[simp] theorem touch_ret (l : LineNo) (w : WayNo) : (s.touch l w).ret = s.ret := rfl
@[simp] theorem touch_home (l : LineNo) (w : WayNo) : (s.touch l w).home = s.home := rfl
@[simp] theorem touch_bus (l : LineNo) (w : WayNo) : (s.touch l w).bus = s.bus := rfl
@[simp] theorem touch_ctl (l : LineNo) (w : WayNo) : (s.touch l w).ctl = s.ctl := rfl
@[simp] theorem touch_out (l : LineNo) (w : WayNo) : (s.touch l w).out = s.out := rfl
@[simp] theorem touch_fresh (l : LineNo) (w : WayNo) : (s.touch l w).fresh = s.fresh := rfl
@[simp] theorem touch_pending (l : LineNo) (w : WayNo) : (s.touch l w).pending = s.pending := rfl

/-! `walkEmpty` writes cache.sets alone. -/

@[simp] theorem walkEmpty_lpu (p : Nat) : (s.walkEmpty p).lpu = s.lpu := rfl
@[simp] theorem walkEmpty_segments (p : Nat) : (s.walkEmpty p).segments = s.segments := rfl
@[simp] theorem walkEmpty_cache_pins (p : Nat) : (s.walkEmpty p).cache.pins = s.cache.pins := rfl
@[simp] theorem walkEmpty_engine (p : Nat) : (s.walkEmpty p).engine = s.engine := rfl
@[simp] theorem walkEmpty_ret (p : Nat) : (s.walkEmpty p).ret = s.ret := rfl
@[simp] theorem walkEmpty_home (p : Nat) : (s.walkEmpty p).home = s.home := rfl
@[simp] theorem walkEmpty_bus (p : Nat) : (s.walkEmpty p).bus = s.bus := rfl
@[simp] theorem walkEmpty_ctl (p : Nat) : (s.walkEmpty p).ctl = s.ctl := rfl
@[simp] theorem walkEmpty_out (p : Nat) : (s.walkEmpty p).out = s.out := rfl
@[simp] theorem walkEmpty_fresh (p : Nat) : (s.walkEmpty p).fresh = s.fresh := rfl
@[simp] theorem walkEmpty_pending (p : Nat) : (s.walkEmpty p).pending = s.pending := rfl

/-! `setEntry` writes engine.prt alone. -/

@[simp] theorem setEntry_lpu (t : ReqTag) (e : PrtEntry) : (s.setEntry t e).lpu = s.lpu := rfl
@[simp] theorem setEntry_segments (t : ReqTag) (e : PrtEntry) : (s.setEntry t e).segments = s.segments := rfl
@[simp] theorem setEntry_cache (t : ReqTag) (e : PrtEntry) : (s.setEntry t e).cache = s.cache := rfl
@[simp] theorem setEntry_engine_turn (t : ReqTag) (e : PrtEntry) : (s.setEntry t e).engine.turn = s.engine.turn := rfl
@[simp] theorem setEntry_ret (t : ReqTag) (e : PrtEntry) : (s.setEntry t e).ret = s.ret := rfl
@[simp] theorem setEntry_home (t : ReqTag) (e : PrtEntry) : (s.setEntry t e).home = s.home := rfl
@[simp] theorem setEntry_bus (t : ReqTag) (e : PrtEntry) : (s.setEntry t e).bus = s.bus := rfl
@[simp] theorem setEntry_ctl (t : ReqTag) (e : PrtEntry) : (s.setEntry t e).ctl = s.ctl := rfl
@[simp] theorem setEntry_out (t : ReqTag) (e : PrtEntry) : (s.setEntry t e).out = s.out := rfl
@[simp] theorem setEntry_fresh (t : ReqTag) (e : PrtEntry) : (s.setEntry t e).fresh = s.fresh := rfl
@[simp] theorem setEntry_pending (t : ReqTag) (e : PrtEntry) : (s.setEntry t e).pending = s.pending := rfl

/-! `freeEntry` writes engine.prt, bus.sendList, bus.askers alone. -/

@[simp] theorem freeEntry_lpu (t : ReqTag) : (s.freeEntry t).lpu = s.lpu := rfl
@[simp] theorem freeEntry_segments (t : ReqTag) : (s.freeEntry t).segments = s.segments := rfl
@[simp] theorem freeEntry_cache (t : ReqTag) : (s.freeEntry t).cache = s.cache := rfl
@[simp] theorem freeEntry_engine_turn (t : ReqTag) : (s.freeEntry t).engine.turn = s.engine.turn := rfl
@[simp] theorem freeEntry_ret (t : ReqTag) : (s.freeEntry t).ret = s.ret := rfl
@[simp] theorem freeEntry_home (t : ReqTag) : (s.freeEntry t).home = s.home := rfl
@[simp] theorem freeEntry_bus_lastWinner (t : ReqTag) : (s.freeEntry t).bus.lastWinner = s.bus.lastWinner := rfl
@[simp] theorem freeEntry_bus_sq (t : ReqTag) : (s.freeEntry t).bus.sq = s.bus.sq := rfl
@[simp] theorem freeEntry_bus_latePeers (t : ReqTag) : (s.freeEntry t).bus.latePeers = s.bus.latePeers := rfl
@[simp] theorem freeEntry_bus_medium (t : ReqTag) : (s.freeEntry t).bus.medium = s.bus.medium := rfl
@[simp] theorem freeEntry_ctl (t : ReqTag) : (s.freeEntry t).ctl = s.ctl := rfl
@[simp] theorem freeEntry_out (t : ReqTag) : (s.freeEntry t).out = s.out := rfl
@[simp] theorem freeEntry_fresh (t : ReqTag) : (s.freeEntry t).fresh = s.fresh := rfl
@[simp] theorem freeEntry_pending (t : ReqTag) : (s.freeEntry t).pending = s.pending := rfl

/-! `makeEntry` writes engine.prt, bus.sendList alone. -/

@[simp] theorem makeEntry_lpu (t : ReqTag) (e : PrtEntry) : (s.makeEntry t e).lpu = s.lpu := rfl
@[simp] theorem makeEntry_segments (t : ReqTag) (e : PrtEntry) : (s.makeEntry t e).segments = s.segments := rfl
@[simp] theorem makeEntry_cache (t : ReqTag) (e : PrtEntry) : (s.makeEntry t e).cache = s.cache := rfl
@[simp] theorem makeEntry_engine_turn (t : ReqTag) (e : PrtEntry) : (s.makeEntry t e).engine.turn = s.engine.turn := rfl
@[simp] theorem makeEntry_ret (t : ReqTag) (e : PrtEntry) : (s.makeEntry t e).ret = s.ret := rfl
@[simp] theorem makeEntry_home (t : ReqTag) (e : PrtEntry) : (s.makeEntry t e).home = s.home := rfl
@[simp] theorem makeEntry_bus_lastWinner (t : ReqTag) (e : PrtEntry) : (s.makeEntry t e).bus.lastWinner = s.bus.lastWinner := rfl
@[simp] theorem makeEntry_bus_sq (t : ReqTag) (e : PrtEntry) : (s.makeEntry t e).bus.sq = s.bus.sq := rfl
@[simp] theorem makeEntry_bus_askers (t : ReqTag) (e : PrtEntry) : (s.makeEntry t e).bus.askers = s.bus.askers := rfl
@[simp] theorem makeEntry_bus_latePeers (t : ReqTag) (e : PrtEntry) : (s.makeEntry t e).bus.latePeers = s.bus.latePeers := rfl
@[simp] theorem makeEntry_bus_medium (t : ReqTag) (e : PrtEntry) : (s.makeEntry t e).bus.medium = s.bus.medium := rfl
@[simp] theorem makeEntry_ctl (t : ReqTag) (e : PrtEntry) : (s.makeEntry t e).ctl = s.ctl := rfl
@[simp] theorem makeEntry_out (t : ReqTag) (e : PrtEntry) : (s.makeEntry t e).out = s.out := rfl
@[simp] theorem makeEntry_fresh (t : ReqTag) (e : PrtEntry) : (s.makeEntry t e).fresh = s.fresh := rfl
@[simp] theorem makeEntry_pending (t : ReqTag) (e : PrtEntry) : (s.makeEntry t e).pending = s.pending := rfl

/-! `setTurn` writes engine.turn alone. -/

@[simp] theorem setTurn_lpu (t : Turn) : (s.setTurn t).lpu = s.lpu := rfl
@[simp] theorem setTurn_segments (t : Turn) : (s.setTurn t).segments = s.segments := rfl
@[simp] theorem setTurn_cache (t : Turn) : (s.setTurn t).cache = s.cache := rfl
@[simp] theorem setTurn_engine_prt (t : Turn) : (s.setTurn t).engine.prt = s.engine.prt := rfl
@[simp] theorem setTurn_ret (t : Turn) : (s.setTurn t).ret = s.ret := rfl
@[simp] theorem setTurn_home (t : Turn) : (s.setTurn t).home = s.home := rfl
@[simp] theorem setTurn_bus (t : Turn) : (s.setTurn t).bus = s.bus := rfl
@[simp] theorem setTurn_ctl (t : Turn) : (s.setTurn t).ctl = s.ctl := rfl
@[simp] theorem setTurn_out (t : Turn) : (s.setTurn t).out = s.out := rfl
@[simp] theorem setTurn_fresh (t : Turn) : (s.setTurn t).fresh = s.fresh := rfl
@[simp] theorem setTurn_pending (t : Turn) : (s.setTurn t).pending = s.pending := rfl

/-! `enqueue` writes bus.sendList alone. -/

@[simp] theorem enqueue_lpu (i : SendItem) : (s.enqueue i).lpu = s.lpu := rfl
@[simp] theorem enqueue_segments (i : SendItem) : (s.enqueue i).segments = s.segments := rfl
@[simp] theorem enqueue_cache (i : SendItem) : (s.enqueue i).cache = s.cache := rfl
@[simp] theorem enqueue_engine (i : SendItem) : (s.enqueue i).engine = s.engine := rfl
@[simp] theorem enqueue_ret (i : SendItem) : (s.enqueue i).ret = s.ret := rfl
@[simp] theorem enqueue_home (i : SendItem) : (s.enqueue i).home = s.home := rfl
@[simp] theorem enqueue_bus_lastWinner (i : SendItem) : (s.enqueue i).bus.lastWinner = s.bus.lastWinner := rfl
@[simp] theorem enqueue_bus_sq (i : SendItem) : (s.enqueue i).bus.sq = s.bus.sq := rfl
@[simp] theorem enqueue_bus_askers (i : SendItem) : (s.enqueue i).bus.askers = s.bus.askers := rfl
@[simp] theorem enqueue_bus_latePeers (i : SendItem) : (s.enqueue i).bus.latePeers = s.bus.latePeers := rfl
@[simp] theorem enqueue_bus_medium (i : SendItem) : (s.enqueue i).bus.medium = s.bus.medium := rfl
@[simp] theorem enqueue_ctl (i : SendItem) : (s.enqueue i).ctl = s.ctl := rfl
@[simp] theorem enqueue_out (i : SendItem) : (s.enqueue i).out = s.out := rfl
@[simp] theorem enqueue_fresh (i : SendItem) : (s.enqueue i).fresh = s.fresh := rfl
@[simp] theorem enqueue_pending (i : SendItem) : (s.enqueue i).pending = s.pending := rfl

/-! `dequeue` writes bus.sendList alone. -/

@[simp] theorem dequeue_lpu (i : SendItem) : (s.dequeue i).lpu = s.lpu := rfl
@[simp] theorem dequeue_segments (i : SendItem) : (s.dequeue i).segments = s.segments := rfl
@[simp] theorem dequeue_cache (i : SendItem) : (s.dequeue i).cache = s.cache := rfl
@[simp] theorem dequeue_engine (i : SendItem) : (s.dequeue i).engine = s.engine := rfl
@[simp] theorem dequeue_ret (i : SendItem) : (s.dequeue i).ret = s.ret := rfl
@[simp] theorem dequeue_home (i : SendItem) : (s.dequeue i).home = s.home := rfl
@[simp] theorem dequeue_bus_lastWinner (i : SendItem) : (s.dequeue i).bus.lastWinner = s.bus.lastWinner := rfl
@[simp] theorem dequeue_bus_sq (i : SendItem) : (s.dequeue i).bus.sq = s.bus.sq := rfl
@[simp] theorem dequeue_bus_askers (i : SendItem) : (s.dequeue i).bus.askers = s.bus.askers := rfl
@[simp] theorem dequeue_bus_latePeers (i : SendItem) : (s.dequeue i).bus.latePeers = s.bus.latePeers := rfl
@[simp] theorem dequeue_bus_medium (i : SendItem) : (s.dequeue i).bus.medium = s.bus.medium := rfl
@[simp] theorem dequeue_ctl (i : SendItem) : (s.dequeue i).ctl = s.ctl := rfl
@[simp] theorem dequeue_out (i : SendItem) : (s.dequeue i).out = s.out := rfl
@[simp] theorem dequeue_fresh (i : SendItem) : (s.dequeue i).fresh = s.fresh := rfl
@[simp] theorem dequeue_pending (i : SendItem) : (s.dequeue i).pending = s.pending := rfl

/-! `addSq` writes bus.sq alone. -/

@[simp] theorem addSq_lpu (m : DataMsg) (f : Bool) : (s.addSq m f).lpu = s.lpu := rfl
@[simp] theorem addSq_segments (m : DataMsg) (f : Bool) : (s.addSq m f).segments = s.segments := rfl
@[simp] theorem addSq_cache (m : DataMsg) (f : Bool) : (s.addSq m f).cache = s.cache := rfl
@[simp] theorem addSq_engine (m : DataMsg) (f : Bool) : (s.addSq m f).engine = s.engine := rfl
@[simp] theorem addSq_ret (m : DataMsg) (f : Bool) : (s.addSq m f).ret = s.ret := rfl
@[simp] theorem addSq_home (m : DataMsg) (f : Bool) : (s.addSq m f).home = s.home := rfl
@[simp] theorem addSq_bus_lastWinner (m : DataMsg) (f : Bool) : (s.addSq m f).bus.lastWinner = s.bus.lastWinner := rfl
@[simp] theorem addSq_bus_sendList (m : DataMsg) (f : Bool) : (s.addSq m f).bus.sendList = s.bus.sendList := rfl
@[simp] theorem addSq_bus_askers (m : DataMsg) (f : Bool) : (s.addSq m f).bus.askers = s.bus.askers := rfl
@[simp] theorem addSq_bus_latePeers (m : DataMsg) (f : Bool) : (s.addSq m f).bus.latePeers = s.bus.latePeers := rfl
@[simp] theorem addSq_bus_medium (m : DataMsg) (f : Bool) : (s.addSq m f).bus.medium = s.bus.medium := rfl
@[simp] theorem addSq_ctl (m : DataMsg) (f : Bool) : (s.addSq m f).ctl = s.ctl := rfl
@[simp] theorem addSq_out (m : DataMsg) (f : Bool) : (s.addSq m f).out = s.out := rfl
@[simp] theorem addSq_fresh (m : DataMsg) (f : Bool) : (s.addSq m f).fresh = s.fresh := rfl
@[simp] theorem addSq_pending (m : DataMsg) (f : Bool) : (s.addSq m f).pending = s.pending := rfl

/-! `ask` writes bus.askers alone. -/

@[simp] theorem ask_lpu (a : Asker) : (s.ask a).lpu = s.lpu := rfl
@[simp] theorem ask_segments (a : Asker) : (s.ask a).segments = s.segments := rfl
@[simp] theorem ask_cache (a : Asker) : (s.ask a).cache = s.cache := rfl
@[simp] theorem ask_engine (a : Asker) : (s.ask a).engine = s.engine := rfl
@[simp] theorem ask_ret (a : Asker) : (s.ask a).ret = s.ret := rfl
@[simp] theorem ask_home (a : Asker) : (s.ask a).home = s.home := rfl
@[simp] theorem ask_bus_lastWinner (a : Asker) : (s.ask a).bus.lastWinner = s.bus.lastWinner := rfl
@[simp] theorem ask_bus_sendList (a : Asker) : (s.ask a).bus.sendList = s.bus.sendList := rfl
@[simp] theorem ask_bus_sq (a : Asker) : (s.ask a).bus.sq = s.bus.sq := rfl
@[simp] theorem ask_bus_latePeers (a : Asker) : (s.ask a).bus.latePeers = s.bus.latePeers := rfl
@[simp] theorem ask_bus_medium (a : Asker) : (s.ask a).bus.medium = s.bus.medium := rfl
@[simp] theorem ask_ctl (a : Asker) : (s.ask a).ctl = s.ctl := rfl
@[simp] theorem ask_out (a : Asker) : (s.ask a).out = s.out := rfl
@[simp] theorem ask_fresh (a : Asker) : (s.ask a).fresh = s.fresh := rfl
@[simp] theorem ask_pending (a : Asker) : (s.ask a).pending = s.pending := rfl

/-! `idle` writes bus.medium alone. -/

@[simp] theorem idle_lpu : (s.idle).lpu = s.lpu := rfl
@[simp] theorem idle_segments : (s.idle).segments = s.segments := rfl
@[simp] theorem idle_cache : (s.idle).cache = s.cache := rfl
@[simp] theorem idle_engine : (s.idle).engine = s.engine := rfl
@[simp] theorem idle_ret : (s.idle).ret = s.ret := rfl
@[simp] theorem idle_home : (s.idle).home = s.home := rfl
@[simp] theorem idle_bus_lastWinner : (s.idle).bus.lastWinner = s.bus.lastWinner := rfl
@[simp] theorem idle_bus_sendList : (s.idle).bus.sendList = s.bus.sendList := rfl
@[simp] theorem idle_bus_sq : (s.idle).bus.sq = s.bus.sq := rfl
@[simp] theorem idle_bus_askers : (s.idle).bus.askers = s.bus.askers := rfl
@[simp] theorem idle_bus_latePeers : (s.idle).bus.latePeers = s.bus.latePeers := rfl
@[simp] theorem idle_ctl : (s.idle).ctl = s.ctl := rfl
@[simp] theorem idle_out : (s.idle).out = s.out := rfl
@[simp] theorem idle_fresh : (s.idle).fresh = s.fresh := rfl
@[simp] theorem idle_pending : (s.idle).pending = s.pending := rfl

/-! `openWindow` writes bus.medium alone. -/

@[simp] theorem openWindow_lpu (w : Window) : (s.openWindow w).lpu = s.lpu := rfl
@[simp] theorem openWindow_segments (w : Window) : (s.openWindow w).segments = s.segments := rfl
@[simp] theorem openWindow_cache (w : Window) : (s.openWindow w).cache = s.cache := rfl
@[simp] theorem openWindow_engine (w : Window) : (s.openWindow w).engine = s.engine := rfl
@[simp] theorem openWindow_ret (w : Window) : (s.openWindow w).ret = s.ret := rfl
@[simp] theorem openWindow_home (w : Window) : (s.openWindow w).home = s.home := rfl
@[simp] theorem openWindow_bus_lastWinner (w : Window) : (s.openWindow w).bus.lastWinner = s.bus.lastWinner := rfl
@[simp] theorem openWindow_bus_sendList (w : Window) : (s.openWindow w).bus.sendList = s.bus.sendList := rfl
@[simp] theorem openWindow_bus_sq (w : Window) : (s.openWindow w).bus.sq = s.bus.sq := rfl
@[simp] theorem openWindow_bus_askers (w : Window) : (s.openWindow w).bus.askers = s.bus.askers := rfl
@[simp] theorem openWindow_bus_latePeers (w : Window) : (s.openWindow w).bus.latePeers = s.bus.latePeers := rfl
@[simp] theorem openWindow_ctl (w : Window) : (s.openWindow w).ctl = s.ctl := rfl
@[simp] theorem openWindow_out (w : Window) : (s.openWindow w).out = s.out := rfl
@[simp] theorem openWindow_fresh (w : Window) : (s.openWindow w).fresh = s.fresh := rfl
@[simp] theorem openWindow_pending (w : Window) : (s.openWindow w).pending = s.pending := rfl

/-! `openAck` writes bus.medium alone. -/

@[simp] theorem openAck_lpu (own ht : Bool) (d h : Option AckCode) : (s.openAck own ht d h).lpu = s.lpu := rfl
@[simp] theorem openAck_segments (own ht : Bool) (d h : Option AckCode) : (s.openAck own ht d h).segments = s.segments := rfl
@[simp] theorem openAck_cache (own ht : Bool) (d h : Option AckCode) : (s.openAck own ht d h).cache = s.cache := rfl
@[simp] theorem openAck_engine (own ht : Bool) (d h : Option AckCode) : (s.openAck own ht d h).engine = s.engine := rfl
@[simp] theorem openAck_ret (own ht : Bool) (d h : Option AckCode) : (s.openAck own ht d h).ret = s.ret := rfl
@[simp] theorem openAck_home (own ht : Bool) (d h : Option AckCode) : (s.openAck own ht d h).home = s.home := rfl
@[simp] theorem openAck_bus_lastWinner (own ht : Bool) (d h : Option AckCode) : (s.openAck own ht d h).bus.lastWinner = s.bus.lastWinner := rfl
@[simp] theorem openAck_bus_sendList (own ht : Bool) (d h : Option AckCode) : (s.openAck own ht d h).bus.sendList = s.bus.sendList := rfl
@[simp] theorem openAck_bus_sq (own ht : Bool) (d h : Option AckCode) : (s.openAck own ht d h).bus.sq = s.bus.sq := rfl
@[simp] theorem openAck_bus_askers (own ht : Bool) (d h : Option AckCode) : (s.openAck own ht d h).bus.askers = s.bus.askers := rfl
@[simp] theorem openAck_bus_latePeers (own ht : Bool) (d h : Option AckCode) : (s.openAck own ht d h).bus.latePeers = s.bus.latePeers := rfl
@[simp] theorem openAck_ctl (own ht : Bool) (d h : Option AckCode) : (s.openAck own ht d h).ctl = s.ctl := rfl
@[simp] theorem openAck_out (own ht : Bool) (d h : Option AckCode) : (s.openAck own ht d h).out = s.out := rfl
@[simp] theorem openAck_fresh (own ht : Bool) (d h : Option AckCode) : (s.openAck own ht d h).fresh = s.fresh := rfl
@[simp] theorem openAck_pending (own ht : Bool) (d h : Option AckCode) : (s.openAck own ht d h).pending = s.pending := rfl

/-! `addRq` writes ret.rq, bus.sendList alone. -/

@[simp] theorem addRq_lpu (l : LineNo) (d : LineData) (ts : List PTag) : (s.addRq l d ts).lpu = s.lpu := rfl
@[simp] theorem addRq_segments (l : LineNo) (d : LineData) (ts : List PTag) : (s.addRq l d ts).segments = s.segments := rfl
@[simp] theorem addRq_cache (l : LineNo) (d : LineData) (ts : List PTag) : (s.addRq l d ts).cache = s.cache := rfl
@[simp] theorem addRq_engine (l : LineNo) (d : LineData) (ts : List PTag) : (s.addRq l d ts).engine = s.engine := rfl
@[simp] theorem addRq_ret_walk (l : LineNo) (d : LineData) (ts : List PTag) : (s.addRq l d ts).ret.walk = s.ret.walk := rfl
@[simp] theorem addRq_home (l : LineNo) (d : LineData) (ts : List PTag) : (s.addRq l d ts).home = s.home := rfl
@[simp] theorem addRq_bus_lastWinner (l : LineNo) (d : LineData) (ts : List PTag) : (s.addRq l d ts).bus.lastWinner = s.bus.lastWinner := rfl
@[simp] theorem addRq_bus_sq (l : LineNo) (d : LineData) (ts : List PTag) : (s.addRq l d ts).bus.sq = s.bus.sq := rfl
@[simp] theorem addRq_bus_askers (l : LineNo) (d : LineData) (ts : List PTag) : (s.addRq l d ts).bus.askers = s.bus.askers := rfl
@[simp] theorem addRq_bus_latePeers (l : LineNo) (d : LineData) (ts : List PTag) : (s.addRq l d ts).bus.latePeers = s.bus.latePeers := rfl
@[simp] theorem addRq_bus_medium (l : LineNo) (d : LineData) (ts : List PTag) : (s.addRq l d ts).bus.medium = s.bus.medium := rfl
@[simp] theorem addRq_ctl (l : LineNo) (d : LineData) (ts : List PTag) : (s.addRq l d ts).ctl = s.ctl := rfl
@[simp] theorem addRq_out (l : LineNo) (d : LineData) (ts : List PTag) : (s.addRq l d ts).out = s.out := rfl
@[simp] theorem addRq_fresh (l : LineNo) (d : LineData) (ts : List PTag) : (s.addRq l d ts).fresh = s.fresh := rfl
@[simp] theorem addRq_pending (l : LineNo) (d : LineData) (ts : List PTag) : (s.addRq l d ts).pending = s.pending := rfl

/-! `setWalk` writes ret.walk alone. -/

@[simp] theorem setWalk_lpu (w : Walk) : (s.setWalk w).lpu = s.lpu := rfl
@[simp] theorem setWalk_segments (w : Walk) : (s.setWalk w).segments = s.segments := rfl
@[simp] theorem setWalk_cache (w : Walk) : (s.setWalk w).cache = s.cache := rfl
@[simp] theorem setWalk_engine (w : Walk) : (s.setWalk w).engine = s.engine := rfl
@[simp] theorem setWalk_ret_rq (w : Walk) : (s.setWalk w).ret.rq = s.ret.rq := rfl
@[simp] theorem setWalk_home (w : Walk) : (s.setWalk w).home = s.home := rfl
@[simp] theorem setWalk_bus (w : Walk) : (s.setWalk w).bus = s.bus := rfl
@[simp] theorem setWalk_ctl (w : Walk) : (s.setWalk w).ctl = s.ctl := rfl
@[simp] theorem setWalk_out (w : Walk) : (s.setWalk w).out = s.out := rfl
@[simp] theorem setWalk_fresh (w : Walk) : (s.setWalk w).fresh = s.fresh := rfl
@[simp] theorem setWalk_pending (w : Walk) : (s.setWalk w).pending = s.pending := rfl

/-! `addHwq` writes home.hwq alone. -/

@[simp] theorem addHwq_lpu (e : HwqEntry) : (s.addHwq e).lpu = s.lpu := rfl
@[simp] theorem addHwq_segments (e : HwqEntry) : (s.addHwq e).segments = s.segments := rfl
@[simp] theorem addHwq_cache (e : HwqEntry) : (s.addHwq e).cache = s.cache := rfl
@[simp] theorem addHwq_engine (e : HwqEntry) : (s.addHwq e).engine = s.engine := rfl
@[simp] theorem addHwq_ret (e : HwqEntry) : (s.addHwq e).ret = s.ret := rfl
@[simp] theorem addHwq_home_exports (e : HwqEntry) : (s.addHwq e).home.exports = s.home.exports := rfl
@[simp] theorem addHwq_home_wanted (e : HwqEntry) : (s.addHwq e).home.wanted = s.home.wanted := rfl
@[simp] theorem addHwq_home_port (e : HwqEntry) : (s.addHwq e).home.port = s.home.port := rfl
@[simp] theorem addHwq_home_mem (e : HwqEntry) : (s.addHwq e).home.mem = s.home.mem := rfl
@[simp] theorem addHwq_home_fitted (e : HwqEntry) : (s.addHwq e).home.fitted = s.home.fitted := rfl
@[simp] theorem addHwq_bus (e : HwqEntry) : (s.addHwq e).bus = s.bus := rfl
@[simp] theorem addHwq_ctl (e : HwqEntry) : (s.addHwq e).ctl = s.ctl := rfl
@[simp] theorem addHwq_out (e : HwqEntry) : (s.addHwq e).out = s.out := rfl
@[simp] theorem addHwq_fresh (e : HwqEntry) : (s.addHwq e).fresh = s.fresh := rfl
@[simp] theorem addHwq_pending (e : HwqEntry) : (s.addHwq e).pending = s.pending := rfl

/-! `addLineWork` writes home.hwq alone. -/

@[simp] theorem addLineWork_lpu (w : HwqWork) : (s.addLineWork w).lpu = s.lpu := rfl
@[simp] theorem addLineWork_segments (w : HwqWork) : (s.addLineWork w).segments = s.segments := rfl
@[simp] theorem addLineWork_cache (w : HwqWork) : (s.addLineWork w).cache = s.cache := rfl
@[simp] theorem addLineWork_engine (w : HwqWork) : (s.addLineWork w).engine = s.engine := rfl
@[simp] theorem addLineWork_ret (w : HwqWork) : (s.addLineWork w).ret = s.ret := rfl
@[simp] theorem addLineWork_home_exports (w : HwqWork) : (s.addLineWork w).home.exports = s.home.exports := rfl
@[simp] theorem addLineWork_home_wanted (w : HwqWork) : (s.addLineWork w).home.wanted = s.home.wanted := rfl
@[simp] theorem addLineWork_home_port (w : HwqWork) : (s.addLineWork w).home.port = s.home.port := rfl
@[simp] theorem addLineWork_home_mem (w : HwqWork) : (s.addLineWork w).home.mem = s.home.mem := rfl
@[simp] theorem addLineWork_home_fitted (w : HwqWork) : (s.addLineWork w).home.fitted = s.home.fitted := rfl
@[simp] theorem addLineWork_bus (w : HwqWork) : (s.addLineWork w).bus = s.bus := rfl
@[simp] theorem addLineWork_ctl (w : HwqWork) : (s.addLineWork w).ctl = s.ctl := rfl
@[simp] theorem addLineWork_out (w : HwqWork) : (s.addLineWork w).out = s.out := rfl
@[simp] theorem addLineWork_fresh (w : HwqWork) : (s.addLineWork w).fresh = s.fresh := rfl
@[simp] theorem addLineWork_pending (w : HwqWork) : (s.addLineWork w).pending = s.pending := rfl

/-! `addItemWork` writes home.hwq alone. -/

@[simp] theorem addItemWork_lpu (l : LineNo) (i : Item) : (s.addItemWork l i).lpu = s.lpu := rfl
@[simp] theorem addItemWork_segments (l : LineNo) (i : Item) : (s.addItemWork l i).segments = s.segments := rfl
@[simp] theorem addItemWork_cache (l : LineNo) (i : Item) : (s.addItemWork l i).cache = s.cache := rfl
@[simp] theorem addItemWork_engine (l : LineNo) (i : Item) : (s.addItemWork l i).engine = s.engine := rfl
@[simp] theorem addItemWork_ret (l : LineNo) (i : Item) : (s.addItemWork l i).ret = s.ret := rfl
@[simp] theorem addItemWork_home_exports (l : LineNo) (i : Item) : (s.addItemWork l i).home.exports = s.home.exports := rfl
@[simp] theorem addItemWork_home_wanted (l : LineNo) (i : Item) : (s.addItemWork l i).home.wanted = s.home.wanted := rfl
@[simp] theorem addItemWork_home_port (l : LineNo) (i : Item) : (s.addItemWork l i).home.port = s.home.port := rfl
@[simp] theorem addItemWork_home_mem (l : LineNo) (i : Item) : (s.addItemWork l i).home.mem = s.home.mem := rfl
@[simp] theorem addItemWork_home_fitted (l : LineNo) (i : Item) : (s.addItemWork l i).home.fitted = s.home.fitted := rfl
@[simp] theorem addItemWork_bus (l : LineNo) (i : Item) : (s.addItemWork l i).bus = s.bus := rfl
@[simp] theorem addItemWork_ctl (l : LineNo) (i : Item) : (s.addItemWork l i).ctl = s.ctl := rfl
@[simp] theorem addItemWork_out (l : LineNo) (i : Item) : (s.addItemWork l i).out = s.out := rfl
@[simp] theorem addItemWork_fresh (l : LineNo) (i : Item) : (s.addItemWork l i).fresh = s.fresh := rfl
@[simp] theorem addItemWork_pending (l : LineNo) (i : Item) : (s.addItemWork l i).pending = s.pending := rfl

/-! `setExportSet` writes home.exports alone. -/

@[simp] theorem setExportSet_lpu (l : LineNo) (es : List ExportEntry) : (s.setExportSet l es).lpu = s.lpu := rfl
@[simp] theorem setExportSet_segments (l : LineNo) (es : List ExportEntry) : (s.setExportSet l es).segments = s.segments := rfl
@[simp] theorem setExportSet_cache (l : LineNo) (es : List ExportEntry) : (s.setExportSet l es).cache = s.cache := rfl
@[simp] theorem setExportSet_engine (l : LineNo) (es : List ExportEntry) : (s.setExportSet l es).engine = s.engine := rfl
@[simp] theorem setExportSet_ret (l : LineNo) (es : List ExportEntry) : (s.setExportSet l es).ret = s.ret := rfl
@[simp] theorem setExportSet_home_wanted (l : LineNo) (es : List ExportEntry) : (s.setExportSet l es).home.wanted = s.home.wanted := rfl
@[simp] theorem setExportSet_home_hwq (l : LineNo) (es : List ExportEntry) : (s.setExportSet l es).home.hwq = s.home.hwq := rfl
@[simp] theorem setExportSet_home_port (l : LineNo) (es : List ExportEntry) : (s.setExportSet l es).home.port = s.home.port := rfl
@[simp] theorem setExportSet_home_mem (l : LineNo) (es : List ExportEntry) : (s.setExportSet l es).home.mem = s.home.mem := rfl
@[simp] theorem setExportSet_home_fitted (l : LineNo) (es : List ExportEntry) : (s.setExportSet l es).home.fitted = s.home.fitted := rfl
@[simp] theorem setExportSet_bus (l : LineNo) (es : List ExportEntry) : (s.setExportSet l es).bus = s.bus := rfl
@[simp] theorem setExportSet_ctl (l : LineNo) (es : List ExportEntry) : (s.setExportSet l es).ctl = s.ctl := rfl
@[simp] theorem setExportSet_out (l : LineNo) (es : List ExportEntry) : (s.setExportSet l es).out = s.out := rfl
@[simp] theorem setExportSet_fresh (l : LineNo) (es : List ExportEntry) : (s.setExportSet l es).fresh = s.fresh := rfl
@[simp] theorem setExportSet_pending (l : LineNo) (es : List ExportEntry) : (s.setExportSet l es).pending = s.pending := rfl

/-! `changeExport` writes home.exports alone. -/

@[simp] theorem changeExport_lpu (l : LineNo) (f : ExportEntry → ExportEntry) : (s.changeExport l f).lpu = s.lpu := rfl
@[simp] theorem changeExport_segments (l : LineNo) (f : ExportEntry → ExportEntry) : (s.changeExport l f).segments = s.segments := rfl
@[simp] theorem changeExport_cache (l : LineNo) (f : ExportEntry → ExportEntry) : (s.changeExport l f).cache = s.cache := rfl
@[simp] theorem changeExport_engine (l : LineNo) (f : ExportEntry → ExportEntry) : (s.changeExport l f).engine = s.engine := rfl
@[simp] theorem changeExport_ret (l : LineNo) (f : ExportEntry → ExportEntry) : (s.changeExport l f).ret = s.ret := rfl
@[simp] theorem changeExport_home_wanted (l : LineNo) (f : ExportEntry → ExportEntry) : (s.changeExport l f).home.wanted = s.home.wanted := rfl
@[simp] theorem changeExport_home_hwq (l : LineNo) (f : ExportEntry → ExportEntry) : (s.changeExport l f).home.hwq = s.home.hwq := rfl
@[simp] theorem changeExport_home_port (l : LineNo) (f : ExportEntry → ExportEntry) : (s.changeExport l f).home.port = s.home.port := rfl
@[simp] theorem changeExport_home_mem (l : LineNo) (f : ExportEntry → ExportEntry) : (s.changeExport l f).home.mem = s.home.mem := rfl
@[simp] theorem changeExport_home_fitted (l : LineNo) (f : ExportEntry → ExportEntry) : (s.changeExport l f).home.fitted = s.home.fitted := rfl
@[simp] theorem changeExport_bus (l : LineNo) (f : ExportEntry → ExportEntry) : (s.changeExport l f).bus = s.bus := rfl
@[simp] theorem changeExport_ctl (l : LineNo) (f : ExportEntry → ExportEntry) : (s.changeExport l f).ctl = s.ctl := rfl
@[simp] theorem changeExport_out (l : LineNo) (f : ExportEntry → ExportEntry) : (s.changeExport l f).out = s.out := rfl
@[simp] theorem changeExport_fresh (l : LineNo) (f : ExportEntry → ExportEntry) : (s.changeExport l f).fresh = s.fresh := rfl
@[simp] theorem changeExport_pending (l : LineNo) (f : ExportEntry → ExportEntry) : (s.changeExport l f).pending = s.pending := rfl

/-! `clearAwaiting` writes home.exports alone. -/

@[simp] theorem clearAwaiting_lpu (l : LineNo) : (s.clearAwaiting l).lpu = s.lpu := rfl
@[simp] theorem clearAwaiting_segments (l : LineNo) : (s.clearAwaiting l).segments = s.segments := rfl
@[simp] theorem clearAwaiting_cache (l : LineNo) : (s.clearAwaiting l).cache = s.cache := rfl
@[simp] theorem clearAwaiting_engine (l : LineNo) : (s.clearAwaiting l).engine = s.engine := rfl
@[simp] theorem clearAwaiting_ret (l : LineNo) : (s.clearAwaiting l).ret = s.ret := rfl
@[simp] theorem clearAwaiting_home_wanted (l : LineNo) : (s.clearAwaiting l).home.wanted = s.home.wanted := rfl
@[simp] theorem clearAwaiting_home_hwq (l : LineNo) : (s.clearAwaiting l).home.hwq = s.home.hwq := rfl
@[simp] theorem clearAwaiting_home_port (l : LineNo) : (s.clearAwaiting l).home.port = s.home.port := rfl
@[simp] theorem clearAwaiting_home_mem (l : LineNo) : (s.clearAwaiting l).home.mem = s.home.mem := rfl
@[simp] theorem clearAwaiting_home_fitted (l : LineNo) : (s.clearAwaiting l).home.fitted = s.home.fitted := rfl
@[simp] theorem clearAwaiting_bus (l : LineNo) : (s.clearAwaiting l).bus = s.bus := rfl
@[simp] theorem clearAwaiting_ctl (l : LineNo) : (s.clearAwaiting l).ctl = s.ctl := rfl
@[simp] theorem clearAwaiting_out (l : LineNo) : (s.clearAwaiting l).out = s.out := rfl
@[simp] theorem clearAwaiting_fresh (l : LineNo) : (s.clearAwaiting l).fresh = s.fresh := rfl
@[simp] theorem clearAwaiting_pending (l : LineNo) : (s.clearAwaiting l).pending = s.pending := rfl

/-! `removeExport` writes home.exports, home.wanted alone. -/

@[simp] theorem removeExport_lpu (l : LineNo) : (s.removeExport l).lpu = s.lpu := rfl
@[simp] theorem removeExport_segments (l : LineNo) : (s.removeExport l).segments = s.segments := rfl
@[simp] theorem removeExport_cache (l : LineNo) : (s.removeExport l).cache = s.cache := rfl
@[simp] theorem removeExport_engine (l : LineNo) : (s.removeExport l).engine = s.engine := rfl
@[simp] theorem removeExport_ret (l : LineNo) : (s.removeExport l).ret = s.ret := rfl
@[simp] theorem removeExport_home_hwq (l : LineNo) : (s.removeExport l).home.hwq = s.home.hwq := rfl
@[simp] theorem removeExport_home_port (l : LineNo) : (s.removeExport l).home.port = s.home.port := rfl
@[simp] theorem removeExport_home_mem (l : LineNo) : (s.removeExport l).home.mem = s.home.mem := rfl
@[simp] theorem removeExport_home_fitted (l : LineNo) : (s.removeExport l).home.fitted = s.home.fitted := rfl
@[simp] theorem removeExport_bus (l : LineNo) : (s.removeExport l).bus = s.bus := rfl
@[simp] theorem removeExport_ctl (l : LineNo) : (s.removeExport l).ctl = s.ctl := rfl
@[simp] theorem removeExport_out (l : LineNo) : (s.removeExport l).out = s.out := rfl
@[simp] theorem removeExport_fresh (l : LineNo) : (s.removeExport l).fresh = s.fresh := rfl
@[simp] theorem removeExport_pending (l : LineNo) : (s.removeExport l).pending = s.pending := rfl

/-! `recallStarts` writes home.exports, home.wanted alone. -/

@[simp] theorem recallStarts_lpu (l : LineNo) : (s.recallStarts l).lpu = s.lpu := rfl
@[simp] theorem recallStarts_segments (l : LineNo) : (s.recallStarts l).segments = s.segments := rfl
@[simp] theorem recallStarts_cache (l : LineNo) : (s.recallStarts l).cache = s.cache := rfl
@[simp] theorem recallStarts_engine (l : LineNo) : (s.recallStarts l).engine = s.engine := rfl
@[simp] theorem recallStarts_ret (l : LineNo) : (s.recallStarts l).ret = s.ret := rfl
@[simp] theorem recallStarts_home_hwq (l : LineNo) : (s.recallStarts l).home.hwq = s.home.hwq := rfl
@[simp] theorem recallStarts_home_port (l : LineNo) : (s.recallStarts l).home.port = s.home.port := rfl
@[simp] theorem recallStarts_home_mem (l : LineNo) : (s.recallStarts l).home.mem = s.home.mem := rfl
@[simp] theorem recallStarts_home_fitted (l : LineNo) : (s.recallStarts l).home.fitted = s.home.fitted := rfl
@[simp] theorem recallStarts_bus (l : LineNo) : (s.recallStarts l).bus = s.bus := rfl
@[simp] theorem recallStarts_ctl (l : LineNo) : (s.recallStarts l).ctl = s.ctl := rfl
@[simp] theorem recallStarts_out (l : LineNo) : (s.recallStarts l).out = s.out := rfl
@[simp] theorem recallStarts_fresh (l : LineNo) : (s.recallStarts l).fresh = s.fresh := rfl
@[simp] theorem recallStarts_pending (l : LineNo) : (s.recallStarts l).pending = s.pending := rfl

/-! `setGap` writes ctl.roll alone. -/

@[simp] theorem setGap_lpu : (s.setGap).lpu = s.lpu := rfl
@[simp] theorem setGap_segments : (s.setGap).segments = s.segments := rfl
@[simp] theorem setGap_cache : (s.setGap).cache = s.cache := rfl
@[simp] theorem setGap_engine : (s.setGap).engine = s.engine := rfl
@[simp] theorem setGap_ret : (s.setGap).ret = s.ret := rfl
@[simp] theorem setGap_home : (s.setGap).home = s.home := rfl
@[simp] theorem setGap_bus : (s.setGap).bus = s.bus := rfl
@[simp] theorem setGap_ctl_mode : (s.setGap).ctl.mode = s.ctl.mode := rfl
@[simp] theorem setGap_ctl_start : (s.setGap).ctl.start = s.ctl.start := rfl
@[simp] theorem setGap_ctl_enrolled : (s.setGap).ctl.enrolled = s.ctl.enrolled := rfl
@[simp] theorem setGap_out : (s.setGap).out = s.out := rfl
@[simp] theorem setGap_fresh : (s.setGap).fresh = s.fresh := rfl
@[simp] theorem setGap_pending : (s.setGap).pending = s.pending := rfl

/-! What each of these updates writes. -/

@[simp] theorem reply_out_responses_eq (tag : PTag) (st : Status) (p : Payload) :
    (s.reply tag st p).out.responses = s.out.responses ++ [⟨tag, st, p⟩] := rfl
@[simp] theorem answer_out_responses_eq (tag : PTag) (st : Status) (p : Payload) :
    (s.answer tag st p).out.responses = s.out.responses ++ [⟨tag, st, p⟩] := rfl
@[simp] theorem begin_out_eq : s.begin.out = ⟨[], none⟩ := rfl
@[simp] theorem enterMode_mode_eq (m : Mode) : (s.enterMode m).ctl.mode = m := rfl
@[simp] theorem enterMode_stateChange_eq (m : Mode) : (s.enterMode m).lpu.stateChange = true := rfl
@[simp] theorem popHead_lrq_eq : s.popHead.lpu.lrq = s.lpu.lrq.tail := rfl
@[simp] theorem popHead_head_eq : s.popHead.lpu.head = none := rfl
@[simp] theorem addPin_pins_eq (p : PinEntry) : (s.addPin p).cache.pins = s.cache.pins ++ [p] := rfl
@[simp] theorem addSq_length_eq (m : DataMsg) (f : Bool) : (s.addSq m f).bus.sq.length = s.bus.sq.length + 1 := by
  simp [State.addSq]
@[simp] theorem ask_askers_eq (a : Asker) : (s.ask a).bus.askers = s.bus.askers ++ [a] := rfl
@[simp] theorem idle_medium_eq : s.idle.bus.medium = .idle := rfl
@[simp] theorem addRq_length_eq (l : LineNo) (d : LineData) (ts : List PTag) :
    (s.addRq l d ts).ret.rq.length = s.ret.rq.length + 1 := by simp [State.addRq, State.enqueue]
@[simp] theorem setWalk_walk_eq (w : Walk) : (s.setWalk w).ret.walk = w := rfl
@[simp] theorem addHwq_length_eq (e : HwqEntry) : (s.addHwq e).home.hwq.length = s.home.hwq.length + 1 := by
  simp [State.addHwq]
@[simp] theorem setTurn_turn_eq (t : Turn) : (s.setTurn t).engine.turn = t := rfl

end Sys2Proof.Machine
end

