-- ==== Sys2Proof/Laws/Ops.lean ====
section
/-!
SUPPORT. What the shared operations can do, said once: the Fault Log, the processor tags, the parts of `settle`, and `settle` where
nothing is left to happen.
-/

namespace Sys2Proof.Machine

variable (s : State)

/-! ### The Fault Log (R165) -/

theorem addFault_room (r : FaultRecord) (h : s.lpu.log.length < 8) :
    s.addFault r = { s with lpu.log := s.lpu.log ++ [r] } := by
  simp [State.addFault, Config.logPlaces, h]

theorem addFault_full (r : FaultRecord) (h : 8 ≤ s.lpu.log.length) : s.addFault r = { s with lpu.overflow := true } := by
  have h' : ¬ s.lpu.log.length < 8 := by omega
  simp [State.addFault, Config.logPlaces, h']

/-- Adding a record touches the log and the overflow flag alone. -/
theorem addFault_lpu_only (r : FaultRecord) : ∃ l : LocalPort, s.addFault r = { s with lpu := l } ∧
    l.lrq = s.lpu.lrq ∧ l.head = s.lpu.head ∧ l.pinRecall = s.lpu.pinRecall ∧ l.tags = s.lpu.tags ∧
    l.stateChange = s.lpu.stateChange ∧ l.faultEnable = s.lpu.faultEnable ∧ l.stateEnable = s.lpu.stateEnable := by
  unfold State.addFault
  split
  · exact ⟨_, rfl, rfl, rfl, rfl, rfl, rfl, rfl, rfl⟩
  · exact ⟨_, rfl, rfl, rfl, rfl, rfl, rfl, rfl, rfl⟩

/-- A log within its bound stays so. -/
theorem addFault_bounded (r : FaultRecord) (h : s.lpu.log.length ≤ 8) : (s.addFault r).lpu.log.length ≤ 8 := by
  unfold State.addFault Config.logPlaces
  split <;> simp <;> omega

@[simp] theorem addFault_segments (r : FaultRecord) : (s.addFault r).segments = s.segments := by unfold State.addFault; split <;> rfl
@[simp] theorem addFault_cache (r : FaultRecord) : (s.addFault r).cache = s.cache := by unfold State.addFault; split <;> rfl
@[simp] theorem addFault_engine (r : FaultRecord) : (s.addFault r).engine = s.engine := by unfold State.addFault; split <;> rfl
@[simp] theorem addFault_ret (r : FaultRecord) : (s.addFault r).ret = s.ret := by unfold State.addFault; split <;> rfl
@[simp] theorem addFault_home (r : FaultRecord) : (s.addFault r).home = s.home := by unfold State.addFault; split <;> rfl
@[simp] theorem addFault_bus (r : FaultRecord) : (s.addFault r).bus = s.bus := by unfold State.addFault; split <;> rfl
@[simp] theorem addFault_ctl (r : FaultRecord) : (s.addFault r).ctl = s.ctl := by unfold State.addFault; split <;> rfl
@[simp] theorem addFault_out (r : FaultRecord) : (s.addFault r).out = s.out := by unfold State.addFault; split <;> rfl
@[simp] theorem addFault_fresh (r : FaultRecord) : (s.addFault r).fresh = s.fresh := by unfold State.addFault; split <;> rfl
@[simp] theorem addFault_pending (r : FaultRecord) : (s.addFault r).pending = s.pending := by unfold State.addFault; split <;> rfl
@[simp] theorem addFault_lpu_lrq (r : FaultRecord) : (s.addFault r).lpu.lrq = s.lpu.lrq := by unfold State.addFault; split <;> rfl
@[simp] theorem addFault_lpu_head (r : FaultRecord) : (s.addFault r).lpu.head = s.lpu.head := by unfold State.addFault; split <;> rfl
@[simp] theorem addFault_lpu_tags (r : FaultRecord) : (s.addFault r).lpu.tags = s.lpu.tags := by unfold State.addFault; split <;> rfl

/-! ### The parts of `settle` on a calm state -/

theorem convertAll_calm (h : (s.bus.sq.any (·.converting) && s.rqFree) = false) : ∀ n, State.convertAll n s = s
  | 0 => rfl
  | n + 1 => by
    have h' : ¬ (s.bus.sq.any (·.converting) = true ∧ s.rqFree = true) := by
      intro hh; simp [hh.1, hh.2] at h
    simp only [State.convertAll, if_neg h']

theorem givePlaces_calm (h : (s.bus.askers.isEmpty || !s.sqFree) = true) : ∀ n, State.givePlaces n s = s
  | 0 => rfl
  | n + 1 => by
    have h' : s.bus.askers = [] ∨ s.sqFree = false := by simpa [List.isEmpty_iff] using h
    simp only [State.givePlaces, if_pos h']

theorem startPort_calm (h : (s.home.port != .idle || s.home.hwq.isEmpty) = true) : s.startPort = s := by
  have h' : ¬ (s.home.port = .idle ∧ s.home.hwq ≠ []) := by
    rintro ⟨h1, h2⟩; simp [h1, h2] at h
  simp only [State.startPort, if_neg h']

theorem headOnce_empty (h : s.lpu.lrq = []) : s.headOnce = (s, false) := by simp [State.headOnce, h]

theorem allocate_calm (h : (s.nextVictim.isNone || s.freeTag.isNone) = true) (hq : s.lpu.lrq = []) (a b j : Bool) :
    ∀ n, s.allocate n a b j = s
  | 0 => rfl
  | n + 1 => by
    have h' : (s.nextVictim.isSome && s.freeTag.isSome) = false := by
      cases h1 : s.nextVictim <;> cases h2 : s.freeTag <;> simp [h1, h2] at h ⊢
    cases j <;> simp [State.allocate, h', headOnce_empty s hq]

theorem runWalk_calm (h : (s.ctl.mode != .quiescing || s.walkStays) = true) : s.runWalk = s := by
  unfold State.runWalk
  split
  case isFalse => rfl
  case isTrue hm =>
    have hw : s.walkStays = true := by simpa [hm] using h
    unfold State.walkStays at hw
    split <;> rename_i hwalk <;> rw [hwalk] at hw
    · simp only [Bool.not_eq_true'] at hw
      simp [hw]
    · rename_i p
      simp only [Bool.and_eq_true, decide_eq_true_eq] at hw
      obtain ⟨hp, hw⟩ := hw
      obtain ⟨n, hn⟩ : ∃ n, 2048 - p = n + 1 := ⟨2047 - p, by omega⟩
      have hself : s.setWalk (.atWay p) = s := by unfold State.setWalk; rw [← hwalk]
      rw [hn]
      unfold State.walkFrom
      split <;> rename_i hway <;> rw [hway] at hw
      · simp at hw
      · exact hself
      · split
        · exact hself
        · rename_i hut
          split
          · simp_all
          · simp_all
          · simp only [Bool.or_eq_true, Bool.and_eq_true, Bool.not_eq_true'] at hw hut
            rcases hw with hw | hw
            · exact absurd (by simpa using hw) hut
            · simp [hw.2, hself]

theorem enterQuiesced_calm (h : (s.ctl.mode != .quiescing || s.walkStays) = true) : s.enterQuiesced = s := by
  have hn : s.mayBeQuiesced = false := by
    by_cases hm : s.ctl.mode = .quiescing
    · have hw : s.walkStays = true := by simpa [hm] using h
      unfold State.walkStays at hw
      split at hw <;> rename_i hwalk
      · simp [State.mayBeQuiesced, hwalk]
      · simp [State.mayBeQuiesced, hwalk]
      · simpa using hw
    · simp [State.mayBeQuiesced, hm]
  simp [State.enterQuiesced, hn]

/-- Where nothing is left to happen, nothing follows. -/
theorem settle_still (h : s.still = true) (s0 : State) (j : Judged) : s.settle s0 j = s := by
  simp only [State.still, State.calm, State.portEmpty, Bool.and_eq_true, List.isEmpty_iff, Bool.not_eq_true'] at h
  obtain ⟨⟨⟨⟨⟨h1, h2⟩, h3⟩, h4⟩, h5⟩, ⟨h6, _⟩, _⟩ := h
  simp only [State.settle, State.allocateAfter]
  rw [convertAll_calm s (by simpa using h1), givePlaces_calm s (by simpa [List.isEmpty_iff] using h2),
    startPort_calm s (by simpa [List.isEmpty_iff] using h3), allocate_calm s h4 h6, runWalk_calm s h5,
    startPort_calm s (by simpa [List.isEmpty_iff] using h3), enterQuiesced_calm s h5]

/-! ### The head on a calm state -/

theorem calm_parts (h : s.calm = true) :
    (s.bus.sq.any (·.converting) && s.rqFree) = false ∧ (s.bus.askers.isEmpty || !s.sqFree) = true ∧
      (s.home.port != .idle || s.home.hwq.isEmpty) = true ∧ (s.nextVictim.isNone || s.freeTag.isNone) = true ∧
      (s.ctl.mode != .quiescing || s.walkStays) = true := by
  simp only [State.calm, Bool.and_eq_true, Bool.not_eq_true'] at h
  exact ⟨by simpa using h.1.1.1.1, h.1.1.1.2, h.1.1.2, h.1.2, h.2⟩

theorem noVictim_of_calm (h : s.calm = true) : (s.nextVictim.isSome && s.freeTag.isSome) = false := by
  have h4 := (calm_parts s h).2.2.2.1
  cases h1 : s.nextVictim <;> cases h2 : s.freeTag <;> simp [h1, h2] at h4 ⊢

/-- The judgement of the head on a calm state that ends with the head gone, the LRQ empty and the station calm. -/
theorem allocate_head_started {t : State} (h : s.calm = true) (hh : s.headOnce = (t, true)) (ht : t.calm = true)
    (hq : t.lpu.lrq = []) (a b : Bool) (n : Nat) : s.allocate (n + 1) a b true = t := by
  simp only [State.allocate, noVictim_of_calm s h, hh]
  exact allocate_calm t ((calm_parts t ht).2.2.2.1) hq _ _ _ n

/-- The same where the head waits. -/
theorem allocate_head_waits {t : State} (h : s.calm = true) (hh : s.headOnce = (t, false)) (a b : Bool) (n : Nat) :
    s.allocate (n + 1) a b true = t := by
  simp [State.allocate, noVictim_of_calm s h, hh]

/-- On a calm state whose head is judged and leaves an empty LRQ and a calm state, that is all that follows. -/
theorem settle_head_started {t : State} (h : s.calm = true) (hh : s.headOnce = (t, true)) (ht : t.calm = true)
    (hq : t.lpu.lrq = []) (s0 : State) (j : Judged) (hj : State.judgedAgain s0 s j = true) : s.settle s0 j = t := by
  obtain ⟨h1, h2, h3, h4, h5⟩ := calm_parts s h
  obtain ⟨_, _, h3', _, h5'⟩ := calm_parts t ht
  simp only [State.settle, State.allocateAfter]
  rw [convertAll_calm s h1, givePlaces_calm s h2, startPort_calm s h3, hj, allocate_head_started s h hh ht hq,
    runWalk_calm t h5', startPort_calm t h3', enterQuiesced_calm t h5']

/-- On a calm state whose head is judged and waits, that is all that follows. -/
theorem settle_head_waits {t : State} (h : s.calm = true) (hh : s.headOnce = (t, false)) (ht : t.calm = true)
    (s0 : State) (j : Judged) (hj : State.judgedAgain s0 s j = true) : s.settle s0 j = t := by
  obtain ⟨h1, h2, h3, h4, h5⟩ := calm_parts s h
  obtain ⟨_, _, h3', _, h5'⟩ := calm_parts t ht
  simp only [State.settle, State.allocateAfter]
  rw [convertAll_calm s h1, givePlaces_calm s h2, startPort_calm s h3, hj, allocate_head_waits s h hh,
    runWalk_calm t h5', startPort_calm t h3', enterQuiesced_calm t h5']

/-- A head not yet decoded is judged in every event. -/
theorem judgedAgain_undecoded (h : s.lpu.head = none) (s0 : State) (j : Judged) : State.judgedAgain s0 s j = true := by
  simp [State.judgedAgain, h]

/-- A head on a remote path is judged exactly at an event of R25 by itself, or one that brought such a change about (log 30). -/
theorem judgedAgain_remote {d : Decoded} (h : s.lpu.head = some d) (hp : d.path ≠ .home) (s0 : State) (j : Judged) :
    State.judgedAgain s0 s j = (j.remote || State.remoteChanged s0 s d.line) := by
  unfold State.judgedAgain
  rw [h]
  cases hd : d.path <;> simp_all

/-- A home-path head is judged exactly at an event of R111 by itself, or one that brought such a change about (log 20). -/
theorem judgedAgain_home {d : Decoded} (h : s.lpu.head = some d) (hp : d.path = .home) (s0 : State) (j : Judged) :
    State.judgedAgain s0 s j = (j.home || State.homeChanged s0 s d.item.op) := by
  simp [State.judgedAgain, h, hp]

/-- An event that judges every head judges the waiting one. -/
theorem judgedAgain_all (s0 : State) : State.judgedAgain s0 s .all = true := by
  unfold State.judgedAgain
  split
  · split <;> rfl
  · rfl

/-! ### The judgement of a direct head (R28, R62) -/

theorem judgeDirect_waits (d : Decoded) (h : d.item.op = .write) (hu : s.underAnswer d.line = true) : s.judgeDirect d = .waits := by
  simp [State.judgeDirect, h, hu, LocalOp.isRead]

/-! ### Messages for an entry past its data, and the end of delivery (R49, R53, R89) -/

/-- At an entry that is Finishing, a message is stray exactly where the entry ended without data and the message is no Abandoned one. -/
theorem duplicate_eq_false (e : PrtEntry) (m : DataMsg) :
    e.duplicate m = false ↔ e.owes ≠ .handOff ∧ m.status ≠ .abandoned := by
  simp [PrtEntry.duplicate]

/-- Delivery ends where no party is owed any more, or after the fourth try. -/
theorem ends_iff (e : SqEntry) : e.ends = true ↔ e.anyOwed = false ∨ 4 ≤ e.tries := by
  simp only [SqEntry.ends, Bool.or_eq_true, Bool.not_eq_true', decide_eq_true_eq]
  exact Iff.rfl

/-- An entry with a try left and a party owed stays at the head of the sending order as it was read. -/
theorem senderAck_stays (e : SqEntry) (h : e.ends = false) : s.senderAck (some e) = (s.changeSqHead fun _ => e, false) := by
  simp [State.senderAck, h]

/-- An entry whose delivery ends does so with the parties still owed failed. -/
theorem senderAck_ends (e : SqEntry) (h : e.ends = true) : s.senderAck (some e) = (s.endDelivery e.failOwed, true) := by
  simp [State.senderAck, h]

/-! ### The memory port after its head (R104) -/

@[simp] theorem portOver_nil : portOver [] = .idle := rfl
@[simp] theorem portOver_cons (e : HwqEntry) (es : List HwqEntry) : portOver (e :: es) = .busy := rfl

/-- The HWQ head leaves, and the port goes on with what is left. -/
theorem popHwq_eq : s.popHwq = { s with home.hwq := s.home.hwq.tail, home.port := portOver s.home.hwq.tail } := by
  unfold State.popHwq State.startPort portOver
  cases s.home.hwq.tail <;> simp

/-- A line's set written back as it stands leaves the station as it was. -/
theorem setExportSet_self (l : LineNo) : put s.home.exports (exportIndex l) (s.exportSet l) = s.home.exports := by
  unfold put State.exportSet look
  simp

/-! ### Processor tags (R158) -/

/-- A tag not in use that enters the set and leaves it leaves the set as it was. -/
theorem free_use_tag (tag : PTag) (h : s.tagInUse tag = false) :
    (s.lpu.tags ||| (1#32 <<< tag.toNat)) &&& ~~~(1#32 <<< tag.toNat) = s.lpu.tags := by
  have h' : s.lpu.tags.getLsbD tag.toNat = false := h
  apply BitVec.eq_of_getLsbD_eq
  intro i hi
  simp only [BitVec.getLsbD_and, BitVec.getLsbD_or, BitVec.getLsbD_not, BitVec.getLsbD_shiftLeft, hi, decide_true,
    Bool.true_and]
  by_cases hit : i = tag.toNat
  · subst hit; simp only [h']; simp
  · by_cases hlt : i < tag.toNat
    · simp [hlt]
    · have hne : i - tag.toNat ≠ 0 := by omega
      simp [hlt, BitVec.getLsbD_one, hne]

end Sys2Proof.Machine
end

