-- ==== Sys2Proof/Laws/Served.lean ====
section
/-!
SUPPORT. What serving and failing a waiting list do, said once: the list served in the station is `servedBy` of the line, the pins and
the list.
-/

namespace Sys2Proof.Machine

variable (s : State) (l : LineNo) (w : WayNo)

@[simp] theorem servedBy_nil (limit : BitVec 8) (pins : List PinEntry) (x : LineData) :
    servedBy limit l pins x [] = { line := x, altered := false, pins := pins, responses := [] } := rfl

/-- The last request of a list is served against what those before it left. -/
theorem servedBy_snoc (limit : BitVec 8) (pins : List PinEntry) (x : LineData) (is : List Item) (i : Item) :
    servedBy limit l pins x (is ++ [i]) = Served.next limit l (servedBy limit l pins x is) i := by simp [servedBy]

/-! ### Ways and the order of use (R16, R18) -/

theorem wayAt_setWay (x : Way) : (s.setWay l w x).wayAt l w = x := by simp [State.wayAt, State.setWay, State.setOf, look, put]

theorem setWay_setWay (x y : Way) : (s.setWay l w x).setWay l w y = s.setWay l w y := by
  simp [State.setWay, State.setOf, look, put]

theorem put_look {α : Type} {n : Nat} (t : Table α n) (i : BitVec n) : put t i (look t i) = t := by simp [put, look]

theorem setWay_self : s.setWay l w (s.wayAt l w) = s := by
  unfold State.setWay State.wayAt
  rw [put_look]
  show { s with cache.sets := put s.cache.sets (rlcIndex l) (look s.cache.sets (rlcIndex l)) } = s
  rw [put_look]

theorem touch_setWay (x : Way) : (s.setWay l w x).touch l w = (s.touch l w).setWay l w x := by
  simp [State.touch, State.setWay, State.setOf, look, put]

theorem touch_touch : (s.touch l w).touch l w = s.touch l w := by
  simp [State.touch, State.setOf, look, put, List.filter_filter]

/-! ### A list served -/

/-- The station with what serving has left so far. -/
def State.withServed (s : State) (l : LineNo) (w : WayNo) (st : LineState) (q : Served) : State :=
  { s with
    lpu.tags := s.tagsWithoutAll (q.responses.map (·.tag))
    cache := { sets := (s.setWay l w (.holding l (if q.altered then .altered else st) q.line)).cache.sets, pins := q.pins }
    out := { s.out with responses := s.out.responses ++ q.responses } }

theorem tagsWithoutAll_snoc (ts : List PTag) (t : PTag) :
    s.tagsWithoutAll (ts ++ [t]) = s.tagsWithoutAll ts &&& ~~~(1#32 <<< t.toNat) := by simp [State.tagsWithoutAll]

/-- One request, of a station whose way is already the most recently used. -/
theorem serveItem_withServed (st : LineState) (q : Served) (i : Item) (ht : s.touch l w = s) :
    State.serveItem l w (s.withServed l w st q) i = s.withServed l w st (q.next s.ctl.start.pinLimit l i) := by
  have hway : (s.withServed l w st q).wayAt l w = .holding l (if q.altered then .altered else st) q.line := wayAt_setWay s l w _
  have htouch : ∀ x, (s.setWay l w x).touch l w = s.setWay l w x := fun x => by rw [touch_setWay, ht]
  let upon (c : State) : State :=
    { s with
      lpu.tags := s.tagsWithoutAll (q.responses.map fun r : Response => r.tag)
      cache := { sets := c.cache.sets, pins := q.pins }
      out := { s.out with responses := s.out.responses ++ q.responses } }
  have same : (s.withServed l w st q).touch l w = s.withServed l w st q :=
    congrArg upon (htouch (.holding l (if q.altered then .altered else st) q.line))
  have merged : (s.withServed l w st q).mergeWay l w i =
      { s.withServed l w st q with
        cache.sets := (s.setWay l w (.holding l .altered (q.line.merge i.offset.toNat i.data))).cache.sets } := by
    unfold State.mergeWay
    rw [hway]
    exact congrArg upon ((congrArg (fun c : State => c.touch l w) (setWay_setWay s l w _ _)).trans (htouch _))
  have read : (s.withServed l w st q).serveRead l w i =
      (s.withServed l w st q).answer i.tag .ok (.bytes ((q.line.toList.drop i.offset.toNat).take i.len)) := by
    unfold State.serveRead
    rw [hway]
    exact congrArg (fun c : State => c.answer i.tag .ok (.bytes ((q.line.toList.drop i.offset.toNat).take i.len))) same
  unfold State.serveItem Served.next
  cases i.op
  · simp only [read]
    simp [State.answer, State.reply, State.freeProcessorTag, State.withServed, okResponse, tagsWithoutAll_snoc]
  · simp only [merged]
    simp [State.answer, State.reply, State.freeProcessorTag, State.withServed, okResponse, tagsWithoutAll_snoc]
  · simp only [read]
    simp [State.answer, State.reply, State.freeProcessorTag, State.withServed, okResponse, tagsWithoutAll_snoc, State.holdPin]
  · have hpin : (s.withServed l w st q).findPin l = q.pins.find? (·.line == l) := rfl
    simp only [hpin]
    cases hp : q.pins.find? (·.line == l) with
    | none => simp [State.answer, State.reply, State.freeProcessorTag, State.withServed, tagsWithoutAll_snoc]
    | some p =>
      cases hh : p.held
      · simp [hh, State.answer, State.reply, State.freeProcessorTag, State.withServed, tagsWithoutAll_snoc]
      · simp only [hh, if_true, merged]
        simp [hh, State.removePin, State.answer, State.reply, State.freeProcessorTag, State.withServed, okResponse,
          tagsWithoutAll_snoc]
  · rfl

/-- R61, R68, R71: a list served against a line whose way is already the most recently used leaves what `servedBy` says, and the station
otherwise as it was. -/
theorem serve_eq_servedBy (st : LineState) (x : LineData) (items : List Item) (ht : s.touch l w = s)
    (hw : s.wayAt l w = .holding l st x) :
    s.serve l w items = s.withServed l w st (servedBy s.ctl.start.pinLimit l s.cache.pins x items) := by
  have fold : ∀ (is : List Item) (q : Served),
      is.foldl (State.serveItem l w) (s.withServed l w st q) =
        s.withServed l w st (is.foldl (Served.next s.ctl.start.pinLimit l) q) := by
    intro is
    induction is with
    | nil => intro q; rfl
    | cons i is ih => intro q; rw [List.foldl_cons, List.foldl_cons, serveItem_withServed s l w st q i ht, ih]
  have start : s.withServed l w st { line := x, altered := false, pins := s.cache.pins, responses := [] } = s := by
    have same : s.setWay l w (.holding l st x) = s := hw ▸ setWay_self s l w
    simp [State.withServed, State.tagsWithoutAll, same]
  rw [State.serve, servedBy, ← fold, start]

/-- R70, R73, R80: every request of a list answered with one status, in list order. -/
theorem answerAll_eq (st : Status) (items : List Item) :
    s.answerAll items st =
      { s with
        lpu.tags := s.tagsWithoutAll (items.map (·.tag))
        out := { s.out with
          responses := s.out.responses ++ items.map fun i : Item => { tag := i.tag, status := st, payload := .none } } } := by
  induction items generalizing s with
  | nil => simp [State.answerAll, State.tagsWithoutAll]
  | cons i is ih =>
    have step : s.answerAll (i :: is) st = (s.answer i.tag st .none).answerAll is st := rfl
    rw [step, ih]
    simp [State.answer, State.reply, State.freeProcessorTag, State.tagsWithoutAll]

end Sys2Proof.Machine
end

