-- ==== Sys2Proof/Laws/Settle.lean ====
section
/-!
SUPPORT. What `settle` never changes: the part `fixed` of the state, one lemma per function on its path.
-/

namespace Sys2Proof.Machine

/-- The part of the state that nothing which follows an event changes: the Segment Table, the home memory, the last-winner number, the
late peers, the medium, the Start Record, the enrolled set, the roll, the message sent, the free values, the queue of commands and the
event enables. -/
def State.fixed (s : State) : Table SegEntry 8 × List Host.Cell × Nat × StationNo × StationSet × Medium × StartRecord × StationSet ×
    Roll × Option (List Byte) × Nat × List Instr × Bool × Bool :=
  (s.segments, s.home.mem, s.home.fitted, s.bus.lastWinner, s.bus.latePeers, s.bus.medium, s.ctl.start, s.ctl.enrolled, s.ctl.roll,
    s.out.sent, s.fresh, s.pending, s.lpu.faultEnable, s.lpu.stateEnable)

variable (s : State)

@[simp] theorem reply_fixed (tag : PTag) (st : Status) (p : Payload) : (s.reply tag st p).fixed = s.fixed := rfl
@[simp] theorem useTag_fixed (tag : PTag) : (s.useTag tag).fixed = s.fixed := rfl
@[simp] theorem freeProcessorTag_fixed (tag : PTag) : (s.freeProcessorTag tag).fixed = s.fixed := rfl
@[simp] theorem answer_fixed (tag : PTag) (st : Status) (p : Payload) : (s.answer tag st p).fixed = s.fixed := rfl
@[simp] theorem popHead_fixed : (s.popHead).fixed = s.fixed := rfl
@[simp] theorem removePin_fixed (l : LineNo) : (s.removePin l).fixed = s.fixed := rfl
@[simp] theorem addPin_fixed (p : PinEntry) : (s.addPin p).fixed = s.fixed := rfl
@[simp] theorem holdPin_fixed (l : LineNo) : (s.holdPin l).fixed = s.fixed := rfl
@[simp] theorem setWay_fixed (l : LineNo) (w : WayNo) (x : Way) : (s.setWay l w x).fixed = s.fixed := rfl
@[simp] theorem touch_fixed (l : LineNo) (w : WayNo) : (s.touch l w).fixed = s.fixed := rfl
@[simp] theorem walkEmpty_fixed (p : Nat) : (s.walkEmpty p).fixed = s.fixed := rfl
@[simp] theorem setEntry_fixed (t : ReqTag) (e : PrtEntry) : (s.setEntry t e).fixed = s.fixed := rfl
@[simp] theorem freeEntry_fixed (t : ReqTag) : (s.freeEntry t).fixed = s.fixed := rfl
@[simp] theorem makeEntry_fixed (t : ReqTag) (e : PrtEntry) : (s.makeEntry t e).fixed = s.fixed := rfl
@[simp] theorem setTurn_fixed (t : Turn) : (s.setTurn t).fixed = s.fixed := rfl
@[simp] theorem enqueue_fixed (i : SendItem) : (s.enqueue i).fixed = s.fixed := rfl
@[simp] theorem dequeue_fixed (i : SendItem) : (s.dequeue i).fixed = s.fixed := rfl
@[simp] theorem addSq_fixed (m : DataMsg) (f : Bool) : (s.addSq m f).fixed = s.fixed := rfl
@[simp] theorem ask_fixed (a : Asker) : (s.ask a).fixed = s.fixed := rfl
@[simp] theorem addRq_fixed (l : LineNo) (d : LineData) (ts : List PTag) : (s.addRq l d ts).fixed = s.fixed := rfl
@[simp] theorem setWalk_fixed (w : Walk) : (s.setWalk w).fixed = s.fixed := rfl
@[simp] theorem addHwq_fixed (e : HwqEntry) : (s.addHwq e).fixed = s.fixed := rfl
@[simp] theorem addLineWork_fixed (w : HwqWork) : (s.addLineWork w).fixed = s.fixed := rfl
@[simp] theorem addItemWork_fixed (l : LineNo) (i : Item) : (s.addItemWork l i).fixed = s.fixed := rfl
@[simp] theorem setExportSet_fixed (l : LineNo) (es : List ExportEntry) : (s.setExportSet l es).fixed = s.fixed := rfl
@[simp] theorem changeExport_fixed (l : LineNo) (f : ExportEntry → ExportEntry) : (s.changeExport l f).fixed = s.fixed := rfl
@[simp] theorem removeExport_fixed (l : LineNo) : (s.removeExport l).fixed = s.fixed := rfl
@[simp] theorem recallStarts_fixed (l : LineNo) : (s.recallStarts l).fixed = s.fixed := rfl
@[simp] theorem mergeWay_fixed (l : LineNo) (w : WayNo) (i : Item) : (s.mergeWay l w i).fixed = s.fixed := rfl
@[simp] theorem serveRead_fixed (l : LineNo) (w : WayNo) (i : Item) : (s.serveRead l w i).fixed = s.fixed := rfl
@[simp] theorem addFault_fixed (r : FaultRecord) : (s.addFault r).fixed = s.fixed := by unfold State.addFault; split <;> rfl
@[simp] theorem startPort_fixed : s.startPort.fixed = s.fixed := by unfold State.startPort; split <;> rfl
@[simp] theorem makeAtFree_fixed (e : PrtEntry) : (s.makeAtFree e).fixed = s.fixed := by
  unfold State.makeAtFree; split <;> simp
@[simp] theorem pendPin_fixed (i : Item) (l : LineNo) (p : PinPath) : (s.pendPin i l p).fixed = s.fixed := by
  unfold State.pendPin; split <;> simp
@[simp] theorem attachItem_fixed (t : ReqTag) (i : Item) : (s.attachItem t i).fixed = s.fixed := by
  unfold State.attachItem; split <;> simp
@[simp] theorem evict_fixed (l : LineNo) (w : WayNo) : (s.evict l w).fixed = s.fixed := by
  unfold State.evict; split <;> simp

/-- Updates of the LPU's queue, of the askers, of the SQ or of the RQ leave the fixed part alone. -/
@[simp] theorem withHead_fixed (d : Option Decoded) : ({ s with lpu.head := d } : State).fixed = s.fixed := rfl
@[simp] theorem withPinRecall_fixed (d : Option ReqTag) : ({ s with lpu.pinRecall := d } : State).fixed = s.fixed := rfl
@[simp] theorem withAskers_fixed (a : List Asker) : ({ s with bus.askers := a } : State).fixed = s.fixed := rfl
@[simp] theorem withSq_fixed (q : List SqEntry) : ({ s with bus.sq := q } : State).fixed = s.fixed := rfl
@[simp] theorem withRq_fixed (q : List RqEntry) : ({ s with ret.rq := q } : State).fixed = s.fixed := rfl
@[simp] theorem withHwqPort_fixed (q : List HwqEntry) (p : MemPort) :
    ({ s with home.hwq := q, home.port := p } : State).fixed = s.fixed := rfl

@[simp] theorem actHead_fixed (d : Decoded) (a : HeadAction) : (s.actHead d a).fixed = s.fixed := by
  cases a with
  | pinRecall => exact makeAtFree_fixed s (.fresh .recall d.line none [] .pin)
  | _ => simp [State.actHead]

@[simp] theorem startHead_fixed (d : Decoded) : (s.startHead d).1.fixed = s.fixed := by
  unfold State.startHead; dsimp only; split
  · rfl
  · split <;> simp

@[simp] theorem refuseDecode_fixed (r : LocalReq) (st : Status) (p : Payload) : (s.refuseDecode r st p).fixed = s.fixed := by
  unfold State.refuseDecode; split <;> simp

@[simp] theorem headOnce_fixed : s.headOnce.1.fixed = s.fixed := by
  unfold State.headOnce
  split
  · rfl
  · split
    · simp
    · split <;> simp

@[simp] theorem handOff_fixed (t : ReqTag) (e : PrtEntry) (f : Follower) (w : WayNo) : (s.handOff t e f w).fixed = s.fixed := by
  simp [State.handOff]

@[simp] theorem placeAbandoned_fixed (t : ReqTag) (e : PrtEntry) (f : Follower) : (s.placeAbandoned t e f).fixed = s.fixed := by
  unfold State.placeAbandoned; dsimp only; split <;> simp

@[simp] theorem placePrt_fixed (t : ReqTag) : (s.placePrt t).fixed = s.fixed := by
  unfold State.placePrt
  split
  · rfl
  · split <;> simp

@[simp] theorem popHwq_fixed : s.popHwq.fixed = s.fixed := by simp [State.popHwq]

@[simp] theorem placeHome_fixed : s.placeHome.fixed = s.fixed := by
  unfold State.placeHome
  split
  · split <;> simp
  · rfl
  · rfl
  · rfl

@[simp] theorem giveTo_fixed (a : Asker) : (s.giveTo a).fixed = s.fixed := by cases a <;> simp [State.giveTo]

@[simp] theorem giveOne_fixed : s.giveOne.fixed = s.fixed := by
  unfold State.giveOne
  split
  · rfl
  · split <;> simp

@[simp] theorem givePlaces_fixed (n : Nat) : (State.givePlaces n s).fixed = s.fixed := by
  induction n generalizing s with
  | zero => rfl
  | succ n ih => unfold State.givePlaces; split <;> simp [ih]

@[simp] theorem emptyCopy_fixed (l : LineNo) : (s.emptyCopy l).fixed = s.fixed := by
  unfold State.emptyCopy; split <;> simp

@[simp] theorem convert_fixed (e : SqEntry) : (s.convert e).fixed = s.fixed := by simp [State.convert]

@[simp] theorem convertOne_fixed : s.convertOne.fixed = s.fixed := by
  unfold State.convertOne
  split
  · split <;> simp
  · rfl

@[simp] theorem convertAll_fixed (n : Nat) : (State.convertAll n s).fixed = s.fixed := by
  induction n generalizing s with
  | zero => rfl
  | succ n ih => unfold State.convertAll; split <;> simp [ih]

@[simp] theorem makeVictim_fixed (l : LineNo) : (s.makeVictim l).fixed = s.fixed := by simp [State.makeVictim]

@[simp] theorem victimOne_fixed : s.victimOne.fixed = s.fixed := by
  unfold State.victimOne; split <;> simp

@[simp] theorem allocate_fixed (n : Nat) (a b j : Bool) : (s.allocate n a b j).fixed = s.fixed := by
  induction n generalizing s a b j with
  | zero => rfl
  | succ n ih => unfold State.allocate; (repeat' split) <;> simp only [ih, headOnce_fixed, setTurn_fixed, victimOne_fixed]

@[simp] theorem walkFrom_fixed (n p : Nat) : (s.walkFrom n p).fixed = s.fixed := by
  induction n generalizing s p with
  | zero => simp [State.walkFrom]
  | succ n ih => unfold State.walkFrom; (repeat' split) <;> simp [ih]

@[simp] theorem runWalk_fixed : s.runWalk.fixed = s.fixed := by
  unfold State.runWalk; (repeat' split) <;> simp

@[simp] theorem enterQuiesced_fixed : s.enterQuiesced.fixed = s.fixed := by
  unfold State.enterQuiesced; split <;> rfl

/-- What follows an event never changes the fixed part. -/
@[simp] theorem settle_fixed (s0 : State) (j : Judged) : (s.settle s0 j).fixed = s.fixed := by
  simp [State.settle, State.allocateAfter]

/-- In particular it never changes the home memory. -/
@[simp] theorem settle_mem (s0 : State) (j : Judged) : (s.settle s0 j).home.mem = s.home.mem :=
  congrArg (fun x => x.2.1) (settle_fixed s s0 j)

/-- Nor the medium. -/
@[simp] theorem settle_medium (s0 : State) (j : Judged) : (s.settle s0 j).bus.medium = s.bus.medium :=
  congrArg (fun x => x.2.2.2.2.2.1) (settle_fixed s s0 j)

end Sys2Proof.Machine
end

