-- ==== Sys2Proof/WellFormed.lean ====
section
/-!
DEFINITION. Which commands are well formed: the limits the spec sets on a command's own operands, whatever the state.
-/

namespace Sys2Proof

/-- The operation codes that carry data: Write and Pinned Write (11 section 11.3). -/
def carriesData (code : BitVec 3) : Bool := code == 1#3 || code == 3#3

/-- A local request carries its length of data bytes when it is a write, and none otherwise (11 section 11.3; codes 5 to 7
name no operation and may carry data, which is discarded, R156). -/
def wfLocal (code : BitVec 3) (lenField : BitVec 6) (data : List Byte) : Bool :=
  if carriesData code then data.length == lenField.toNat + 1
  else code.toNat ≥ 5 || data.isEmpty

/-- A pool bus has 1 to 15 peers (00 section 0.3). -/
def wfPeers (peers : List Contender) : Bool := peers.length ≤ 15

/-- Well-formed commands. -/
def Instr.wf : Instr → Bool
  | .localRequestAcceptance _ code _ lenField data => wfLocal code lenField data
  | .contention peers _ => wfPeers peers
  | .poolReset | .powerOn | .stationReset | .join _ | .quiesce _ | .resume _ | .clearLog _ | .faultLogPop _
  | .stationStatusRead _ | .eventEnableWrite _ _ | .registerWrite _ _ _ | .requestArrival _ | .answerWindowClose _
  | .announceClose _ | .readyClose _ | .dataMessageArrival _ | .acknowledgementWindowClose _ _ | .memoryCompletion _
  | .dataTimerExpiry _ | .awaitingDataTimerExpiry _ | .pinTimerExpiry _ | .enrolmentTimerExpiry | .headJudgedAgain
  | .sqPlaceGiven | .conversionToReturn | .victimRecall | .quiesceWalk | .quiescedEntry => true

end Sys2Proof
end

