-- ==== Sys2Proof/Tests/Slice0.lean ====
section
/-!
SUPPORT. Tests on small states: the WellFormed smoke test, a few commands each in one step, and for every statement with hypotheses a
witness that a concrete state and operands meet them.
-/

namespace Sys2Proof.Tests

open Sys2Proof Sys2Proof.Machine

set_option Elab.async false

/-! ### Small states -/

/-- An Operational station of number 1 with peer 2 enrolled: segment 0 is homed by 2 and cached, 1 by this station, 2 by 2 and direct, 3 by 2
and read-only, 4 contested; the others are unmapped. -/
def w0 : State :=
  { State.reset with
    segments :=
      put (put (put (put (put State.reset.segments 0 (.mapped 2 .readWrite .cached 0)) 1 (.mapped 1 .readWrite .cached 0)) 2
        (.mapped 2 .readWrite .direct 0)) 3 (.mapped 2 .readOnly .cached 0)) 4 .contested
    ctl :=
      { State.reset.ctl with
        mode := .operational, start := { StartRecord.reset with station := 1 }, enrolled := 6 } }

/-- A remote cached line, at pool address 0x40. -/
def lR : LineNo := 1
/-- A line this station homes, at pool address 0x4000000. -/
def lH : LineNo := 0x100000
/-- A remote direct line, at pool address 0x8000000. -/
def lD : LineNo := 0x200000
/-- The data of a line. -/
def x7 : LineData := fill 6 7

/-- The station in another state. -/
def inMode (m : Mode) (s : State) : State := { s with ctl := { s.ctl with mode := m } }

/-- The station with the remote line held in way 0. -/
def holding (st : LineState) (s : State) : State := s.setWay lR 0 (.holding lR st x7)

/-- The data of a request of this kind and length. -/
def dataOf (op : LocalOp) (len : Nat) : List Byte := if op = .write ∨ op = .pinnedWrite then List.replicate len 9 else []

/-- A request in the LRQ. -/
def req (tag : PTag) (op : LocalOp) (addr : PoolAddr) (len : Nat) : LocalReq :=
  { tag := tag, op := op, addr := addr, len := len, data := dataOf op len }

/-- A request waiting at the head of the LRQ, not yet decoded. -/
def atHead (r : LocalReq) (s : State) : State :=
  { s with lpu := { s.lpu with lrq := [r], tags := 1#32 <<< r.tag.toNat } }

/-- A request as the blocks hold it once it has passed decode on its path. -/
def passed (r : LocalReq) (home : StationNo) (k : SegKind) (p : Path) : Decoded :=
  { item := r.item, line := lineOfAddr r.addr, segment := segmentOf (lineOfAddr r.addr), home := home, kind := k, path := p,
    memAddr := homeAddr 0 (lineOfAddr r.addr) (offsetOfAddr r.addr) }

/-- A request that has passed decode and waits at the head of the LRQ. -/
def waitingHead (r : LocalReq) (d : Decoded) (s : State) : State :=
  { atHead r s with lpu := { (atHead r s).lpu with head := some d } }

/-- An item of a waiting list. -/
def item (tag : PTag) (op : LocalOp) : Item :=
  { tag := tag, op := op, offset := 0, len := 2, data := dataOf op 2 }

/-- A PRT entry at tag 0, on the send list while it is Queued. -/
def withEntry (e : PrtEntry) (s : State) : State := s.setEntry 0 e

/-- A Fetch entry for the remote line that waits for data, its way reserved. -/
def awaitingFetch : PrtEntry :=
  { PrtEntry.fresh .fetch lR (some 0) [item 3 .read] .request with
    phase := .awaitingData, expected := some .sole, timer := some 256 }

/-- A Fetch entry for the remote line whose request is not yet sent, or whose window is open. -/
def queuedFetch : PrtEntry := PrtEntry.fresh .fetch lR (some 0) [item 3 .read] .request

/-- A Promote entry for the remote line. -/
def queuedPromote : PrtEntry := PrtEntry.fresh .promote lR (some 0) [item 3 .write] .request

/-- The station with a unit on the bus. -/
def onBus (m : Medium) (s : State) : State := { s with bus := { s.bus with medium := m } }

/-- What the other stations drive: one value in position 2. -/
def driven (v : BitVec 3) : Table (BitVec 3) 4 := put (fill 4 0) 2 v

/-- An SQ entry for station 2 with no data's mark. -/
def sqEntry (tries : Nat) (converting onlyFresh : Bool) : SqEntry :=
  { msg := { dest := 2, tag := 0, gen := 0, line := lR, grant := .none, homeTake := false, status := .good, data := some x7 }
    onlyFresh := onlyFresh, tries := tries, destState := if converting then .stale else .owed, homeState := .owed
    converting := converting }

/-- The station with given SQ entries. -/
def withSq (es : List SqEntry) (s : State) : State := { s with bus := { s.bus with sq := es } }

/-- The station with the memory port busy on one HWQ entry. -/
def working (w : HwqWork) (s : State) : State := { s with home := { s.home with hwq := [{ addr := 0, work := w }], port := .busy } }

/-- The station with an Export Table entry for its home line. -/
def exported (x : ExportEntry) (s : State) : State := s.setExportSet lH [x]

/-- An Export Table entry. -/
def exportOf (c : ExportClass) (r : RecallState) (a : Option (BitVec 11)) : ExportEntry :=
  { line := lH, cls := c, state := r, awaiting := a }

/-- A pin. -/
def pinOf (l : LineNo) (path : PinPath) : PinEntry := { line := l, path := path, held := true, timer := some 32, tag := 4 }

/-- The station with given pins. -/
def withPins (ps : List PinEntry) (s : State) : State := { s with cache := { s.cache with pins := ps } }

/-- The station with the set of the remote line full of Altered lines. -/
def fullSet (s : State) : State :=
  allWays.foldl (fun s v => s.setWay lR v (.holding (lR + 256 * (v.setWidth 28 + 1)) .altered x7)) s

/-- The station in Dormant with a roll. -/
def withRoll (r : Roll) (s : State) : State := { s with ctl := { s.ctl with roll := r } }

/-- The station with a Fault Log. -/
def withLog (n : Nat) (s : State) : State := { s with lpu := { s.lpu with log := List.replicate n { kind := .lateJoin } } }

/-- The station with requests of other tags in the LRQ. -/
def withLrq (n : Nat) (s : State) : State := { s with lpu := { s.lpu with lrq := List.replicate n (req 1 .read 0x40 8) } }

/-- An Enrolling station of number 1 whose own Announce has closed and whose Ready is queued, with number 2 announced. -/
def enrolling : State :=
  withRoll
    { Roll.reset with
      announced := put (put (fill 4 none) 1 (some 2)) 2 (some 2), claims := put (fill 8 .unclaimed) 0 (.claimed 2 .readWrite .cached 0)
      ownAnnounce := true, readyQueued := true, timer := some 20, readySet := 2 }
    { State.reset with ctl := { State.reset.ctl with mode := .enrolling, start := { StartRecord.reset with station := 1 } } }

/-- A data message for the remote line's Fetch entry at tag 0. -/
def dataMsg : DataMsg :=
  { dest := 1, tag := 0, gen := 0, line := lR, grant := .sole, homeTake := false, status := .good, data := some x7 }

/-- A home-take message for the home line, destined to station 2. -/
def takeMsg : DataMsg :=
  { dest := 2, tag := 0, gen := 0, line := lH, grant := .copy, homeTake := true, status := .good, data := some x7 }

/-- An entry that has ended and owes its follower an Abandoned message. -/
def owing : PrtEntry :=
  { PrtEntry.fresh .fetch lR none [] .request with
    phase := .finishing, owes := .abandoned, follower := some { station := 2, tag := 5, gen := 1, kind := .fetch } }

/-- The station with parties that wait for an SQ place. -/
def withAskers (as : List Asker) (s : State) : State := { s with bus := { s.bus with askers := as } }

/-- The station with lines on the wanted list. -/
def wanting (ls : List LineNo) (s : State) : State := { s with home := { s.home with wanted := ls } }

/-- The station with the quiesce walk here. -/
def walking (k : Walk) (s : State) : State := { s with ret := { s.ret with walk := k } }

/-- The station with commands that wait. -/
def queued (cs : List Instr) (s : State) : State := { s with pending := cs }

/-- The station with what its latest command gave out. -/
def gave (o : Outputs) (s : State) : State := { s with out := o }

/-- The station with processor tags in use. -/
def withTags (v : BitVec 32) (s : State) : State := { s with lpu := { s.lpu with tags := v } }

/-- The station with another pin limit in its Start Record. -/
def withPinLimit (v : BitVec 8) (s : State) : State :=
  { s with ctl := { s.ctl with start := { s.ctl.start with pinLimit := v } } }

/-- The station with both events enabled. -/
def enabled (s : State) : State := { s with lpu := { s.lpu with faultEnable := true, stateEnable := true } }

/-- The station with items on its send list. -/
def withSend (is : List SendItem) (s : State) : State := { s with bus := { s.bus with sendList := is } }

/-- The station with a full HWQ. -/
def fullHwq (s : State) : State :=
  { s with home := { s.home with port := .busy, hwq := List.replicate 16 { addr := 0, work := .absorbWrite lH x7 } } }

/-- The entry as one of another kind. -/
def asKind (k : PrtKind) (e : PrtEntry) : PrtEntry := { e with kind := k }

/-- The entry with another retry count. -/
def retried (n : Nat) (e : PrtEntry) : PrtEntry := { e with retry := n }

/-- The entry with another expected grant. -/
def expecting (g : Grant) (e : PrtEntry) : PrtEntry := { e with expected := some g }

/-- The roll after it has closed. -/
def closedRoll (r : Roll) : Roll := { r with closed := true }

/-- The roll before this station's Ready is queued. -/
def beforeReady (r : Roll) : Roll := { r with readyQueued := false }

/-- An open window in which nothing was recorded. -/
def openWin (n : StationNo) (r : Request) (own : Option SendItem) (drives : Option AnswerCode) : Window :=
  { msg := some (n, r), own := own, drives := drives, record := .nothing }

/-- The acknowledgement window of a data message without home-take. -/
def ackOf (own : Bool) : AckWindow := { own := own, homeTake := false, dest := none, home := none }

/-- A data message of another status, with no data. -/
def failedMsg (st : DataStatus) (m : DataMsg) : DataMsg := { m with status := st, grant := .none, data := none }

/-- The station with a memory port that is not idle and nothing in the HWQ. -/
def portTaken (s : State) : State := { s with home := { s.home with port := .busy } }

/-- The station with Return Queue entries. -/
def withRq (es : List RqEntry) (s : State) : State := { s with ret := { s.ret with rq := es } }

/-- A Return Queue entry for the remote line, with flushes that wait on it. -/
def returning (flushes : List PTag) : RqEntry := { line := lR, data := x7, flushes := flushes }

/-- The open window with what was recorded at its arrival. -/
def noting (r : Recorded) (w : Window) : Window := { w with record := r }

/-- The home judged Clear and holds an HWQ place where its close queues work. -/
def homeClear (hold : Bool) : Recorded := { Recorded.nothing with home := true, homeHold := hold }

/-- A Claim entry that has been served and owes its follower a hand-off. -/
def handing (k : FollowerKind) : PrtEntry :=
  { PrtEntry.fresh .claim lR (some 0) [] .request with
    phase := .finishing, owes := .handOff, follower := some { station := 2, tag := 5, gen := 1, kind := k } }

/-- The entry back in Queued, still owing its Abandoned message. -/
def requeued (e : PrtEntry) : PrtEntry := { e with phase := .queued }

/-- The entry with another waiting list. -/
def listing (is : List Item) (e : PrtEntry) : PrtEntry := { e with waiting := is }

/-- A Recall entry of the home line. -/
def recalling (is : List Item) : PrtEntry := PrtEntry.fresh .recall lH none is .request

/-- The station with the memory port's result kept for want of an SQ place. -/
def keeping (r : Option LineData) (w : HwqWork) (s : State) : State :=
  { working w s with home := { (working w s).home with port := .holding r } }

/-- The pin of a Pinned Read of the home line that is not answered yet. -/
def pendingPin (tag : PTag) : PinEntry := { line := lH, path := .home, held := false, timer := none, tag := tag }

/-- The station with the set of the remote line all reserved for other lines. -/
def fullReserved (s : State) : State := allWays.foldl (fun s v => s.setWay lR v (.reserved (lR + 256 * (v.setWidth 28 + 1)))) s

/-- The station with every PRT entry in use, for lines of its own. -/
def fullPrt (s : State) : State := allTags.foldl (fun s t => s.setEntry t (PrtEntry.fresh .fetch (900 + t.setWidth 28) none [] .request)) s

/-- The head waits for the pin recall at this tag. -/
def noted (t : ReqTag) (s : State) : State := { s with lpu := { s.lpu with pinRecall := some t } }

/-- Another station has already been noted as a late peer. -/
def notedLate (n : StationNo) (s : State) : State := { s with bus := { s.bus with latePeers := s.bus.latePeers.add n } }

/-- A line of the home line's Export Table set, by its place. -/
def wayOf (i : Nat) (r : RecallState) : ExportEntry :=
  { line := lH + 128 * (BitVec.ofNat 28 i + 1), cls := .sharedOut, state := r, awaiting := none }

/-- The lines of the home line's set from a place on. -/
def waysFrom (i : Nat) (r : RecallState) : List ExportEntry := (List.range (8 - i)).map fun j => wayOf (i + j) r

/-- The home line's set full of other lines in one recall state. -/
def setFull (r : RecallState) (s : State) : State := s.setExportSet lH (waysFrom 0 r)

/-- The oldest line of the home line's full set in another recall state. -/
def oldest (r : RecallState) (s : State) : State := s.setExportSet lH (wayOf 0 r :: waysFrom 1 .none)

/-- The Enrolling station whose own Announce has not closed. -/
def emptyRoll (s : State) : State :=
  withRoll { Roll.reset with timer := some 20 } s

/-- The entry with drop-after-use. -/
def dropping (e : PrtEntry) : PrtEntry := { e with dropAfterUse := true }

/-- The entry with a follower. -/
def followed (k : FollowerKind) (e : PrtEntry) : PrtEntry :=
  { e with follower := some { station := 2, tag := 5, gen := 1, kind := k } }

/-- A Direct Read entry that waits for data. -/
def awaitingDirect : PrtEntry :=
  { PrtEntry.fresh .directRead lD none [item 3 .read] .request with
    phase := .awaitingData, expected := some .none, timer := some 256 }

/-- A Recall entry of the home line that waits for data. -/
def awaitingRecall (is : List Item) : PrtEntry :=
  { recalling is with phase := .awaitingData, expected := some .none, timer := some 256 }

/-- The data message for another line, without a grant. -/
def ungranted (l : LineNo) (m : DataMsg) : DataMsg := { m with line := l, grant := .none }

/-- The entry back in Queued, its retry count raised. -/
def requeuedAs (e : PrtEntry) : PrtEntry := { e with phase := .queued, retry := e.retry + 1, timer := none, expected := none }

/-- The acknowledgement window of this station's own message. -/
def takeAck (homeTake : Bool) : AckWindow := { own := true, homeTake := homeTake, dest := none, home := none }

/-- The SQ entry with home-take. -/
def homeTaking (h : Delivery) (e : SqEntry) : SqEntry := { e with msg := { e.msg with homeTake := true, grant := .copy }, homeState := h }

/-- The station with another allocation turn. -/
def turnOf (u : Turn) (s : State) : State := { s with engine := { s.engine with turn := u } }

/-- The station with a PRT entry at a tag. -/
def withEntryAt (t : ReqTag) (e : PrtEntry) (s : State) : State := s.setEntry t e

/-- A Direct Read entry of another processor tag. -/
def awaitingDirectOf (tag : PTag) : PrtEntry := listing [item tag .read] awaitingDirect

/-- The station with PRT entry 7 alone free. -/
def oneTagLeft (s : State) : State := { fullPrt s with engine.prt := put (fullPrt s).engine.prt 7 (look s.engine.prt 7) }

/-- The pin of a Pinned Read of the remote line that is not answered yet. -/
def pendingRemote (tag : PTag) : PinEntry := { line := lR, path := .remote, held := false, timer := none, tag := tag }

/-- A Return Queue entry of another line. -/
def returningOf (l : LineNo) : RqEntry := { line := l, data := x7, flushes := [] }

/-- The station with less memory fitted. -/
def fittedTo (n : Nat) (s : State) : State := { s with home := { s.home with fitted := n } }

/-- The entry with an expiry held back. -/
def expiryHeldOf (e : PrtEntry) : PrtEntry := { e with timer := none, expiryHeld := true }

/-- An Enrolling station with numbers 1, 2 and 3 announced. -/
def enrolling3 : State := withRoll { enrolling.ctl.roll with announced := put enrolling.ctl.roll.announced 3 (some 2) } enrolling

/-- The SQ entry of another line. -/
def sqFor (l : LineNo) (e : SqEntry) : SqEntry := { e with msg := { e.msg with line := l } }

/-- A wanted line of the home line's set, by its place. -/
def wantedOf (i : Nat) (a : Option (BitVec 11)) : ExportEntry :=
  { line := lH + 128 * BitVec.ofNat 28 i, cls := .sharedOut, state := .wanted, awaiting := a }

/-- The station with three wanted lines, their flags as given. -/
def manyWanted (a b c : Option (BitVec 11)) (s : State) : State := s.setExportSet lH [wantedOf 0 a, wantedOf 1 b, wantedOf 2 c]

/-- The data message for the entry of another station. -/
def thirdMsg : DataMsg := { dataMsg with dest := 3 }

/-- What serving an entry's list leaves. -/
def servedOf (s : State) (e : PrtEntry) (x : LineData) : Served := servedBy s.ctl.start.pinLimit e.line s.cache.pins x e.waiting

/-- An Abandoned message for another station that names the home line. -/
def clearingMsg : DataMsg := { failedMsg .abandoned takeMsg with homeTake := false }

/-- The station with every Start Record field set, and two claim slots. -/
def withStart (s : State) : State :=
  { s with
    ctl.start :=
      { station := 15, expected := 17, dataTimeout := 1025, pinLimit := 129, enrolLimit := 130, base := 0xF123456789
        slots :=
          put (put (fill 4 { segment := 0, access := 0, kind := 0, valid := false }) 5
            { segment := 0x7E, access := 3, kind := 3, valid := true }) 15
            { segment := 0x81, access := 0, kind := 3, valid := false } } }

/-- The state that a command leads to; the reset state where it stops. -/
def after (c : Instr) (s : State) : State :=
  match exec c s with
  | .next t => t
  | .fault _ => State.reset
  | .refused _ => State.reset

/-- The responses that a command gives. -/
def given (c : Instr) (s : State) : List Response := (after c s).out.responses

/-! ### Ill-formed commands are refused by the check -/

theorem test_wf_write_needs_its_data : Instr.wf (.localRequestAcceptance 0 1 0x40 7 []) = false := by decide
theorem test_wf_read_carries_none : Instr.wf (.localRequestAcceptance 0 0 0x40 7 [1]) = false := by decide
theorem test_wf_flush_carries_none : Instr.wf (.localRequestAcceptance 0 4 0x40 0 [1]) = false := by decide
theorem test_wf_at_most_15_peers :
    Instr.wf (.contention (List.replicate 16 { number := 2, cls := .data }) .current) = false := by decide
theorem test_wf_write : Instr.wf (.localRequestAcceptance 0 3 0x40 1 [1, 2]) = true := by decide

/-! ### The layouts -/

/-- R168: the check of the nine bytes of ASCII "123456789". -/
theorem test_crc : crc16 [0x31, 0x32, 0x33, 0x34, 0x35, 0x36, 0x37, 0x38, 0x39] = 0x29B1 := by decide +kernel
/-- 11 section 11.1: the bytes of a Claim before its check. -/
theorem test_claim_bytes :
    (encodeRequest 3 (.line .claim 5 2 0x1234567)).take 7 = [0x02, 0x03, 0x15, 0x01, 0x23, 0x45, 0x67] := by decide +kernel
/-- 11 section 11.1: the bytes of an Announce before its check; the phase marker is set. -/
theorem test_announce_bytes :
    (encodeRequest 1 (.announce 1 [{ segment := 7, access := .readWrite, kind := .direct }])).take 6 =
      [0x08, 0x11, 0x01, 0x01, 0x07, 0x07] := by decide +kernel
/-- R168: a grant code of 3 is out of range. -/
theorem test_grant_code_3 :
    parseDataBody ([1, 0, 0, 0, 0, 1, 0x03] ++ List.replicate 64 7) = none ∧
    (parseDataBody ([1, 0, 0, 0, 0, 1, 0x02] ++ List.replicate 64 7)).isSome = true := by decide +kernel
theorem dataMsg_sound : parseData (encodeData 2 dataMsg) = some (2, dataMsg) :=
  (parseData_framed 2 dataMsg.body).trans (by decide +kernel)
theorem directMsg_sound : parseData (encodeData 2 (ungranted lD dataMsg)) = some (2, ungranted lD dataMsg) :=
  (parseData_framed 2 (ungranted lD dataMsg).body).trans (by decide +kernel)
theorem recallMsg_sound : parseData (encodeData 2 (ungranted lH dataMsg)) = some (2, ungranted lH dataMsg) :=
  (parseData_framed 2 (ungranted lH dataMsg).body).trans (by decide +kernel)
theorem errorMsg_sound : parseData (encodeData 2 (failedMsg .memoryError dataMsg)) = some (2, failedMsg .memoryError dataMsg) :=
  (parseData_framed 2 (failedMsg .memoryError dataMsg).body).trans (by decide +kernel)
theorem abandonedMsg_sound : parseData (encodeData 2 (failedMsg .abandoned dataMsg)) = some (2, failedMsg .abandoned dataMsg) :=
  (parseData_framed 2 (failedMsg .abandoned dataMsg).body).trans (by decide +kernel)
theorem thirdMsg_sound : parseData (encodeData 2 thirdMsg) = some (2, thirdMsg) :=
  (parseData_framed 2 thirdMsg.body).trans (by decide +kernel)
theorem clearingMsg_sound : parseData (encodeData 2 clearingMsg) = some (2, clearingMsg) :=
  (parseData_framed 2 clearingMsg.body).trans (by decide +kernel)
theorem takeMsg_sound : parseData (encodeData 2 takeMsg) = some (2, takeMsg) :=
  (parseData_framed 2 takeMsg.body).trans (by decide +kernel)

/-! ### Commands, each in one step -/

theorem test_poolReset : (after .poolReset w0).ctl.mode = .dormant ∧ (after .poolReset w0).ctl.enrolled = 0 := by decide +kernel
theorem test_powerOn : (after .powerOn (holding .sole w0)).held lR = none := by decide +kernel
theorem test_stationReset : (after .stationReset w0).ctl.mode = .parked := by decide +kernel
theorem test_read_hit :
    given (.localRequestAcceptance 3 0 0x48 1 []) (holding .copy w0) =
      [{ tag := 3, status := .ok, payload := .bytes [7, 7] }] := by decide +kernel
theorem test_read_unmapped :
    given (.localRequestAcceptance 3 0 0x14000000 1 []) w0 =
      [{ tag := 3, status := .unmapped, payload := .bytes [0, 0] }] := by decide +kernel
theorem test_join : (after (.join 3) State.reset).bus.sendList = [.announce] := by decide +kernel
theorem test_quiesce : (after (.quiesce 3) (withPins [pinOf lR .remote] w0)).ctl.mode = .quiescing := by decide +kernel
theorem test_resume : (after (.resume 3) (inMode .quiesced w0)).ctl.mode = .operational := by decide +kernel
theorem test_clearLog : (after (.clearLog 3) (withLog 8 w0)).lpu.log = [] := by decide +kernel
theorem test_faultLogPop :
    given (.faultLogPop 3) (withLog 1 w0) = [{ tag := 3, status := .ok, payload := .word 0x0D00000000000000 }] := by decide +kernel
theorem test_stationStatusRead :
    given (.stationStatusRead 3) (withLog 2 w0) = [{ tag := 3, status := .ok, payload := .word 0x200060102 }] := by decide +kernel
theorem test_eventEnableWrite : (after (.eventEnableWrite 3 1) (withLog 1 w0)).eventLine = true := by decide +kernel
theorem test_registerWrite : (after (.registerWrite 3 0x050 512) State.reset).ctl.start.dataTimeout = 512 := by decide +kernel
/-- R39, with station 1 last: 2 is next in turn among the data contenders. -/
theorem test_contention :
    (after (.contention [{ number := 9, cls := .data }, { number := 2, cls := .data }, { number := 3, cls := .request }] .current)
      { w0 with bus.lastWinner := 1 }).bus.lastWinner = 2 := by decide +kernel
theorem test_requestArrival_shared :
    (match (after (.requestArrival (encodeRequest 2 (.line .fetch 0 0 lR))) (holding .copy w0)).bus.medium with
     | .answering w => w.drives
     | .idle => none
     | .sent _ => none
     | .acking _ => none) = some .shared := by decide +kernel
theorem test_answerWindowClose_supply :
    (after (.answerWindowClose (driven 0))
      (after (.requestArrival (encodeRequest 2 (.line .claim 0 0 lR))) (holding .altered w0))).bus.sq.map (·.msg.grant) =
      [.sole] := by decide +kernel
theorem test_announceClose :
    look (after (.announceClose (driven 1))
      (onBus (.answering (openWin 2 (.announce 1 [{ segment := 9, access := .readWrite, kind := .cached }]) none none))
        State.reset)).ctl.roll.claims 9 = .claimed 2 .readWrite .cached 0 := by decide +kernel
theorem test_readyClose :
    (after (.readyClose (driven 1)) (onBus (.answering (openWin 2 (.ready 6) none (some .clear))) enrolling)).ctl.mode =
      .operational := by decide +kernel
theorem test_dataMessageArrival_damaged :
    (after (.dataMessageArrival [1, 2]) w0).bus.medium =
      .acking { own := false, homeTake := false, dest := some .garbled, home := some .garbled } := by decide +kernel
theorem test_acknowledgementWindowClose :
    (after (.acknowledgementWindowClose 4 0) (onBus (.acking (ackOf true)) (withSq [sqEntry 1 false false] w0))).bus.sq = [] := by
  decide +kernel
theorem test_memoryCompletion_write :
    (after (.memoryCompletion true) (working (.localWrite lH 3 0 2 [5, 6]) w0)).home.mem = [(0, 5), (1, 6)] := by decide +kernel
theorem test_memoryCompletion_error :
    given (.memoryCompletion false) (working (.localRead lH 3 0 2) w0) =
      [{ tag := 3, status := .dataError, payload := .none }] := by decide +kernel
theorem test_dataTimerExpiry :
    given (.dataTimerExpiry 0) (withEntry awaitingFetch w0) =
      [{ tag := 3, status := .dataTimeout, payload := .none }] := by decide +kernel
theorem test_awaitingDataTimerExpiry :
    (after (.awaitingDataTimerExpiry lH) (exported (exportOf .sharedOut .none (some 256)) w0)).awaitingSet lH = false := by
  decide +kernel
theorem test_pinTimerExpiry :
    (after (.pinTimerExpiry lR) (withPins [pinOf lR .remote] w0)).cache.pins = [] := by decide +kernel
theorem test_enrolmentTimerExpiry : (after .enrolmentTimerExpiry enrolling).ctl.roll.limitPassed = true := by decide +kernel
theorem test_headJudgedAgain :
    (after .headJudgedAgain (waitingHead (req 3 .read 0x40 8) (passed (req 3 .read 0x40 8) 2 .cached .cached)
      (holding .sole w0))).lpu.lrq = [] := by decide +kernel
theorem test_sqPlaceGiven :
    (after .sqPlaceGiven (withAskers [.prt 0] (withEntry owing w0))).bus.sq.map (·.msg.status) = [.abandoned] := by decide +kernel
theorem test_conversionToReturn :
    (after .conversionToReturn (withSq [sqEntry 1 true true] w0)).bus.sendList = [.rq lR] := by decide +kernel
theorem test_victimRecall :
    (after .victimRecall (wanting [lH] (exported (exportOf .sharedOut .wanted none) w0))).bus.sendList = [.prt 0] := by
  decide +kernel
/-- The last set of the cache, walked from its way 0. -/
theorem test_quiesceWalk :
    (after .quiesceWalk (walking (.atWay 2040) (inMode .quiescing (w0.setWay 255 0 (.holding 255 .altered x7))))).ret.rq.map
      (·.line) = [255] := by decide +kernel
theorem test_quiescedEntry : (after .quiescedEntry (walking .done (inMode .quiescing w0))).ctl.mode = .quiesced := by decide +kernel
/-- R28: a Write on the remote direct path waits while its line is under answer. -/
theorem test_direct_write_under_answer :
    (after (.localRequestAcceptance 3 1 0x8000000 1 [9, 9])
      (onBus (.answering (openWin 2 (.line .fetch 0 0 lD) none none)) w0)).lpu.lrq.length = 1 := by decide +kernel
/-- R111: a home head that waits is judged again at a data arrival that clears an awaiting-data flag, and at no other. -/
theorem test_home_head_at_data_arrival :
    ((waitingHead (req 3 .read 0x4000000 8) (passed (req 3 .read 0x4000000 8) 1 .cached .home) w0).memberData 2
      { dataMsg with dest := 3 }).lpu.lrq.length = 1 ∧
    ((waitingHead (req 3 .read 0x4000000 8) (passed (req 3 .read 0x4000000 8) 1 .cached .home)
      (exported (exportOf .sharedOut .none (some 256)) w0)).memberData 2
      (failedMsg .abandoned { dataMsg with dest := 3, line := lH })).lpu.lrq = [] := by decide +kernel
/-- R89, R94: Good data for an entry that is still Finishing only to place its Abandoned message is stray. -/
theorem test_stray_at_ended_entry :
    (((withEntry owing w0).destinationTakes 2 dataMsg).1 = .stale ∧
      ((withEntry owing w0).destinationTakes 2 dataMsg).2.lpu.log = [strayRecord lR 2]) ∧
    ((withEntry owing w0).destinationTakes 2 (failedMsg .abandoned dataMsg)).1 = .taken ∧
    ((withEntry (handing .fetch) w0).destinationTakes 2 dataMsg).1 = .taken := by decide +kernel
/-- R25, R134: a waiting head on the remote cached path is not judged at a request's arrival; it is at the close. -/
theorem test_remote_head_at_arrival :
    (after (.requestArrival (encodeRequest 2 (.line .fetch 0 0 (lR + 1))))
      (waitingHead (req 3 .read 0x40 8) (passed (req 3 .read 0x40 8) 2 .cached .cached) (holding .sole w0))).lpu.lrq.length = 1 ∧
    (after (.answerWindowClose (driven 0))
      (onBus (.answering (openWin 2 (.line .fetch 0 0 (lR + 1)) none none))
        (waitingHead (req 3 .read 0x40 8) (passed (req 3 .read 0x40 8) 2 .cached .cached) (holding .sole w0)))).lpu.lrq = [] := by
  decide +kernel
/-- The two stops (log 4): a contention while a window is open, and a close of another kind than the window open. -/
theorem test_stops :
    execContention [] .current (onBus (.acking (ackOf true)) w0) = .fault .unitOverlap ∧
    execAnnounceClose (driven 0) (onBus (.acking (ackOf true)) w0) = .refused .closeOfOtherKind := ⟨rfl, rfl⟩

/-! ### The hypotheses of the statements can be met -/

/-- Every way of a cache as it is after a reset is empty. -/
theorem walkAt_empty (s : State) (h : s.cache.sets = LineCache.reset.sets) (p : Nat) : s.walkAt p = .empty := by
  simp [State.walkAt, h, LineCache.reset, look, fill, RlcSet.reset]

/-- For StepKeepsMemoryCanonical, StepKeepsTablesBounded, StepKeepsSqBounded, StepKeepsHwqBounded and StepKeepsOutsideUnmapped. -/
theorem witness_StepKeeps :
    ∃ s t : State, s.memoryCanonical = true ∧ s.portBounded = true ∧ s.tablesBounded = true ∧ s.sqBounded = true ∧
      s.hwqBounded = true ∧ s.outsideUnmapped = true ∧ step s = .next t :=
  ⟨queued [.quiescedEntry] w0, gave noOutput w0, by decide +kernel, by decide +kernel, by decide +kernel, by decide +kernel,
   by decide +kernel, by decide +kernel, rfl⟩

theorem witness_ResetResults :
    ∃ (s : State) (a : Nat), s.home.port = .busy ∧ ∀ e ∈ s.home.hwq.head?, ∀ p ∈ e.stores, p.1 ≠ a :=
  ⟨working (.localWrite lH 3 0 2 [5, 6]) w0, 2, rfl, by
    intro e he
    cases he
    decide⟩

theorem witness_ResetResults_write :
    ∃ (s : State) (e : HwqEntry), e ∈ s.home.hwq.head? ∧ s.home.port = .busy ∧ s.memoryCanonical = true ∧
      ∀ l tag off n bs, e.work ≠ .localWrite l tag off n bs :=
  ⟨working (.returnWrite lH 2 x7) w0, { addr := 0, work := .returnWrite lH 2 x7 }, rfl, rfl, by decide +kernel, nofun⟩

theorem witness_ParkedUntilPoolReset :
    ∃ (c : Instr) (s t : State), s.ctl.mode = .parked ∧ c ≠ .poolReset ∧ c ≠ .powerOn ∧ c ≠ .stationReset ∧ exec c s = .next t :=
  ⟨.join 0, inMode .parked w0, gave (oneResponse 0 .wrongState .none) (inMode .parked w0), rfl, by decide, by decide, by decide, rfl⟩

/-- The boundaries of the control window, of the pool window at 16 GiB and of the operation codes. -/
theorem witness_LocalRequestClassifiedAndDecoded :
    5 ≤ (5 : BitVec 3).toNat ∧
    ((4 : BitVec 3).toNat < 5 ∧ 0xFFFFFFF000 ≤ (0xFFFFFFF000 : LocalAddr).toNat) ∧
    ((0x400000000 : LocalAddr).toNat < 0xFFFFFFF000 ∧ (0x400000000 : BitVec 40).toNat ≤ (0x400000000 : LocalAddr).toNat ∧
      (0x400000000 : LocalAddr).toNat < (0x400000000 : BitVec 40).toNat + 2 ^ 34) ∧
    ((0x7FFFFFFFF : LocalAddr).toNat < 0xFFFFFFF000 ∧ (0x400000000 : BitVec 40).toNat ≤ (0x7FFFFFFFF : LocalAddr).toNat ∧
      (0x7FFFFFFFF : LocalAddr).toNat < (0x400000000 : BitVec 40).toNat + 2 ^ 34) ∧
    ((0x3FFFFFFFF : LocalAddr).toNat < (0x400000000 : BitVec 40).toNat ∧
      (0x400000000 : BitVec 40).toNat + 2 ^ 34 ≤ (0x800000000 : LocalAddr).toNat) ∧
    classify w0.ctl.start.base 5 0 = .noOperation ∧ classify w0.ctl.start.base 0 0x400000000 = .neither ∧
    classify w0.ctl.start.base 4 0x3FFFFFFFF = .pool 0x3FFFFFFFF := by decide

/-- A Read of a remote cached line, and a Flush Line of a remote direct one, that pass the checks of decode. -/
theorem witness_LocalRequestClassifiedAndDecoded_decode :
    ((offsetOfAddr 0x48).toNat + 8 ≤ 64 ∧ w0.segmentEntry (lineOfAddr 0x48) = .mapped 2 .readWrite .cached 0 ∧
      Access.readWrite.permits .read = true ∧ w0.ctl.mode ≠ .quiescing ∧ w0.ctl.mode ≠ .quiesced ∧
      (0x48 : MemAddr).toNat = (0 : BitVec 4).toNat * 2 ^ 26 + (0x48 : PoolAddr).toNat % 2 ^ 26) ∧
    (w0.segmentEntry (lineOfAddr 0x8000000) = .mapped 2 .readWrite .direct 0 ∧ Access.readWrite.permits .flushLine = true ∧
      (0 : MemAddr).toNat = (0 : BitVec 4).toNat * 2 ^ 26 + (0x8000000 : PoolAddr).toNat % 2 ^ 26 ∧
      w0.accepts 3 4 0x8000000 0 [] (req 3 .flushLine 0x8000000 1) = true) := by decide +kernel

/-- A segment entry of each form; offsets at the ends of each run that names no register. -/
theorem witness_RegisterWritesAndReads :
    (look w0.segments 5 = .unmapped ∧ look w0.segments 4 = .contested ∧ look w0.segments 0 = .mapped 2 .readWrite .cached 0) ∧
    (State.reset.tagInUse 3 = false ∧ State.reset.ctl.mode = .dormant) ∧ (w0.tagInUse 3 = false ∧ w0.ctl.mode ≠ .dormant) ∧
    ∀ o ∈ [0x000#12, 0x010#12, 0x001#12, 0x020#12, 0x038#12, 0x070#12, 0x078#12, 0x100#12, 0x7F8#12, 0x800#12, 0xFF8#12],
      o = 0x000#12 ∨ o = 0x010#12 ∨ 0x800 ≤ o.toNat ∨ o.toNat % 8 ≠ 0 ∨ (0x018 < o.toNat ∧ o.toNat < 0x040) ∨
        (0x068 < o.toNat ∧ o.toNat < 0x080) ∨ (0x0F8 < o.toNat ∧ o.toNat < 0x800) := by decide +kernel

/-- A value for a Start Record field and for a claim slot; each command's number, and two that are none. -/
theorem witness_RegisterWritesAndReads_reads :
    ((withStart State.reset).tagInUse 3 = false ∧
      (15 : BitVec 64) = (withStart State.reset).ctl.start.station.setWidth 64) ∧
    (∃ c : ClaimSlot, c = look (withStart State.reset).ctl.start.slots (BitVec.ofNat 4 (((0x0A8 : BitVec 12).toNat - 0x080) / 8)) ∧
      0x080 ≤ (0x0A8 : BitVec 12).toNat ∧ (0x0A8 : BitVec 12).toNat ≤ 0x0F8 ∧ (0x0A8 : BitVec 12).toNat % 8 = 0 ∧
      (0x8F7E : BitVec 64).extractLsb' 0 8 = c.segment ∧ (0x8F7E : BitVec 64).extractLsb' 8 2 = c.access ∧
      (0x8F7E : BitVec 64).extractLsb' 10 2 = c.kind ∧ (0x8F7E : BitVec 64).extractLsb' 12 3 = 0 ∧
      (0x8F7E : BitVec 64).getLsbD 15 = c.valid ∧ (0x8F7E : BitVec 64).extractLsb' 16 48 = 0) ∧
    (∀ n ∈ [1, 2, 3, 4], (BitVec.ofNat 64 (0x4500 + n)).extractLsb' 0 8 = BitVec.ofNat 8 n) ∧
    (0x100 : BitVec 64).extractLsb' 0 8 = 0 ∧ 4 < ((5 : BitVec 64).extractLsb' 0 8).toNat :=
  ⟨by decide +kernel, ⟨{ segment := 0x7E, access := 3, kind := 3, valid := true }, by decide +kernel⟩, by decide, by decide,
   by decide⟩

theorem witness_RequestArrivalOpensWindow :
    (∀ s ∈ [w0, waitingHead (req 3 .read 0x40 8) (passed (req 3 .read 0x40 8) 2 .cached .cached) (holding .sole w0)],
      s.calm = true ∧ (s.portEmpty = true ∨ s.lpu.head.isSome = true) ∧ s.ctl.mode.member = true ∧ s.bus.medium = .idle ∧
        s.ctl.enrolled.has 2 = true ∧ s.exportFull lH = false) ∧
    parseRequest (encodeRequest 2 (.line .fetch 0 0 lH)) = some (2, .line .fetch 0 0 lH) ∧
    (Request.line .fetch 0 0 lH).enrolment = false ∧
    (∃ (s : State) (i : SendItem) (r : Request), s.ctl.mode ≠ .parked ∧ s.bus.medium = .sent (.request i r)) ∧
    (∀ s ∈ [setFull .inFlight w0, fullPrt (oldest .inFlight (setFull .none w0)), oldest .inFlight (setFull .none w0)],
      s.still = true ∧ s.ctl.mode.member = true ∧ s.ctl.mode ≠ .quiescing ∧ s.bus.medium = .idle ∧ s.ctl.enrolled.has 2 = true ∧
        s.homesLine lH = true ∧ s.exportFull lH = true) ∧
    (∀ x ∈ (setFull .inFlight w0).exportSet lH, x.state ≠ .none) ∧
    (∀ s ∈ [fullPrt (oldest .inFlight (setFull .none w0)), oldest .inFlight (setFull .none w0)],
      s.exportSet lH = [wayOf 0 .inFlight] ++ wayOf 1 .none :: waysFrom 2 .none) ∧
    (fullPrt (oldest .inFlight (setFull .none w0))).freeTag = none ∧ (oldest .inFlight (setFull .none w0)).freeTag = some 0 ∧
    (oldest .inFlight (setFull .none w0)).home.wanted = [] ∧
    (oldest .inFlight (setFull .none w0)).findExport (wayOf 1 .none).line = some (wayOf 1 .none) := by
  refine ⟨by decide +kernel, by decide +kernel, rfl,
    ⟨onBus (.sent (.request (.prt 0) (.line .fetch 0 0 lR))) w0, .prt 0, .line .fetch 0 0 lR, by decide, rfl⟩, by decide +kernel,
    by decide +kernel, by decide +kernel, by decide +kernel, by decide +kernel, by decide +kernel, by decide +kernel⟩

/-- Each case of Again, and none of them. -/
theorem witness_HomeAnswerRule :
    (LineKind.fetch ≠ .recall ∧ (LineKind.fetch ≠ .promote ∧ (fullHwq w0).hwqFree = false)) ∧
    (∃ x, (exported (exportOf .soleOut .inFlight none) w0).findExport lH = some x ∧ (x.state ≠ .none ∨ x.awaiting.isSome = true)) ∧
    (∃ x, (exported (exportOf .sharedOut .none (some 9)) w0).findExport lH = some x ∧
      (x.state ≠ .none ∨ x.awaiting.isSome = true)) ∧
    (withPins [pinOf lH .home] w0).pinned lH = true ∧
    ¬((LineKind.fetch ≠ .promote ∧ w0.hwqFree = false) ∨
        (∃ x, w0.findExport lH = some x ∧ (x.state ≠ .none ∨ x.awaiting.isSome = true)) ∨ w0.pinned lH = true ∨
        (w0.findExport lH = none ∧ 8 ≤ (w0.exportSet lH).length)) := by
  refine ⟨by decide +kernel, ⟨exportOf .soleOut .inFlight none, by decide +kernel⟩, ⟨exportOf .sharedOut .none (some 9),
    by decide +kernel⟩, by decide +kernel, ?_⟩
  have none_here : w0.findExport lH = none := by decide +kernel
  rintro (h | ⟨x, h, _⟩ | h | h)
  · revert h; decide +kernel
  · rw [none_here] at h; cases h
  · revert h; decide +kernel
  · revert h; decide +kernel

/-- No entry of the tag, for a Good and for an Abandoned message; an entry that ended without its data and owes its follower an Abandoned
message; and a sender outside the enrolled set. -/
theorem witness_StrayDataAnsweredStale :
    (∀ p ∈ [(withLog 7 w0, dataMsg), (withEntry owing w0, dataMsg), (w0, failedMsg .abandoned dataMsg)],
      p.1.ctl.mode.member = true ∧ p.1.bus.medium = .idle ∧ parseData (encodeData 2 p.2) = some (2, p.2) ∧ p.2.dest = p.1.number ∧
      (∀ e ∈ p.1.entry p.2.tag, ¬((look p.1.engine.prt p.2.tag).gen = p.2.gen ∧ e.line = p.2.line ∧
        (e.phase = .awaitingData ∨ (e.phase = .finishing ∧ (e.owes = .handOff ∨ p.2.status = .abandoned))))) ∧
      p.2.homeTake = false ∧ p.1.home.wanted = [] ∧ p.1.lpu.log.length < 8 ∧ p.1.still = true) ∧
    w0.ctl.enrolled.has 3 = false := by
  refine ⟨?_, by decide +kernel⟩
  intro p h
  simp only [List.mem_cons, List.not_mem_nil, or_false] at h
  rcases h with rfl | rfl | rfl
  · exact ⟨by decide +kernel, by decide +kernel, dataMsg_sound, by decide +kernel⟩
  · exact ⟨by decide +kernel, by decide +kernel, dataMsg_sound, by decide +kernel⟩
  · exact ⟨by decide +kernel, by decide +kernel, abandonedMsg_sound, by decide +kernel⟩

/-- What a message meets that an entry of this station is named by. -/
def meetsEntry (s : State) (bytes : List Byte) (n : StationNo) (m : DataMsg) (e : PrtEntry) : Prop :=
  s.ctl.mode.member = true ∧ s.ctl.mode ≠ .quiescing ∧ s.bus.medium = .idle ∧ parseData bytes = some (n, m) ∧
    s.ctl.enrolled.has n = true ∧ m.dest = s.number ∧ (m.homeTake = false ∨ s.homesLine m.line = false) ∧
    s.entry m.tag = some e ∧ (look s.engine.prt m.tag).gen = m.gen ∧ e.line = m.line

theorem witness_AcceptanceOutcomes :
    (∃ (s : State) (code : BitVec 3) (addr : LocalAddr) (a : PoolAddr), classify s.ctl.start.base code addr = .pool a ∧ s.ctl.mode =
      .parked) ∧
    (∃ (s : State) (code : BitVec 3) (addr : LocalAddr) (a : PoolAddr), classify s.ctl.start.base code addr = .pool a ∧ s.ctl.mode =
      .isolated) ∧
    (∃ (s : State) (tag : PTag) (code : BitVec 3) (addr : LocalAddr) (a : PoolAddr), classify s.ctl.start.base code addr = .pool a ∧
      s.ctl.mode ≠ .parked ∧ s.ctl.mode ≠ .isolated ∧ s.tagInUse tag = true) ∧
    (∃ (s : State) (tag : PTag) (code : BitVec 3) (addr : LocalAddr) (a : PoolAddr), classify s.ctl.start.base code addr = .pool a ∧
      s.takesPool tag = true ∧ 8 ≤ s.lpu.lrq.length) ∧
    (∃ (s : State) (tag : PTag) (code : BitVec 3) (addr : LocalAddr) (len : BitVec 6) (data : List Byte) (r : LocalReq), poolRequest
      s.ctl.start.base tag code addr len data = some r ∧ s.takesPool tag = true ∧ s.lpu.lrq ≠ [] ∧ s.lpu.lrq.length < 8) ∧
    (∃ (s : State) (tag : PTag), s.tagInUse tag = true) ∧
    (∃ (s : State) (tag : PTag) (code : BitVec 3) (addr : LocalAddr) (o : BitVec 12), s.tagInUse tag = true ∧ classify s.ctl.start.base
      code addr = .control o) :=
  ⟨⟨(inMode .parked w0), 0, 0x40, 0x40, by decide +kernel⟩,
   ⟨(inMode .isolated w0), 0, 0x40, 0x40, by decide +kernel⟩,
   ⟨(withTags 8 w0), 3, 0, 0x40, 0x40, by decide +kernel⟩,
   ⟨(withLrq 8 w0), 3, 0, 0x40, 0x40, by decide +kernel⟩,
   ⟨(withLrq 7 w0), 3, 0, 0x40, 7, [], (req 3 .read 0x40 8), by decide +kernel⟩,
   ⟨(withTags 8 w0), 3, by decide +kernel⟩,
   ⟨(withTags 8 w0), 3, 0, 0xFFFFFFF000, 0, by decide +kernel⟩⟩

theorem witness_MisalignedRequestAnswered :
    (∃ (r : LocalReq), (r.op ≠ .flushLine ∧ 64 < BitVec.toNat (offsetOfAddr r.addr) + r.len)) ∧
    (∃ (r : LocalReq), (¬(r.op ≠ .flushLine ∧ 64 < BitVec.toNat (offsetOfAddr r.addr) + r.len))) ∧
    (∃ (s : State) (r : LocalReq) (rest : List LocalReq), s.lpu.lrq = r :: rest ∧ s.lpu.head = none ∧ r.op ≠ .flushLine ∧ 64 <
      BitVec.toNat (offsetOfAddr r.addr) + r.len) ∧
    (∃ (s : State) (tag : PTag) (code : BitVec 3) (addr : LocalAddr) (len : BitVec 6) (data : List Byte) (r : LocalReq), s.accepts tag
      code addr len data r = true ∧ r.op ≠ .flushLine ∧ 64 < BitVec.toNat (offsetOfAddr r.addr) + r.len) :=
  ⟨⟨(req 3 .read 0x7F 2), by decide +kernel⟩,
   ⟨(req 3 .read 0x7F 1), by decide +kernel⟩,
   ⟨(atHead (req 3 .read 0x7F 2) w0), (req 3 .read 0x7F 2), [], by decide +kernel⟩,
   ⟨w0, 3, 0, 0x7F, 1, [], (req 3 .read 0x7F 2), by decide +kernel⟩⟩

theorem witness_UnmappedRequestAnswered :
    (∃ (s : State) (r : LocalReq) (rest : List LocalReq), s.lpu.lrq = r :: rest ∧ s.lpu.head = none ∧ (r.op = .flushLine ∨ BitVec.toNat
      (offsetOfAddr r.addr) + r.len ≤ 64) ∧ (s.segmentEntry (lineOfAddr r.addr) = .unmapped ∨ s.segmentEntry (lineOfAddr r.addr) =
      .contested)) ∧
    (∃ (s : State) (tag : PTag) (code : BitVec 3) (addr : LocalAddr) (len : BitVec 6) (data : List Byte) (r : LocalReq), s.accepts tag
      code addr len data r = true ∧ (r.op = .flushLine ∨ BitVec.toNat (offsetOfAddr r.addr) + r.len ≤ 64) ∧ (s.segmentEntry (lineOfAddr
      r.addr) = .unmapped ∨ s.segmentEntry (lineOfAddr r.addr) = .contested)) :=
  ⟨⟨(atHead (req 3 .read 0x14000000 8) w0), (req 3 .read 0x14000000 8), [], by decide +kernel⟩,
   ⟨w0, 3, 0, 0x14000000, 7, [], (req 3 .read 0x14000000 8), by decide +kernel⟩⟩

theorem witness_AccessCheckAnswered :
    (∃ (s : State) (r : LocalReq) (rest : List LocalReq) (home : StationNo) (a : Access) (k : SegKind) (i : BitVec 4), s.lpu.lrq = r ::
      rest ∧ s.lpu.head = none ∧ (r.op = .flushLine ∨ BitVec.toNat (offsetOfAddr r.addr) + r.len ≤ 64) ∧ s.segmentEntry (lineOfAddr
      r.addr) = .mapped home a k i ∧ a.permits r.op = false) ∧
    (∃ (s : State) (r : LocalReq) (rest : List LocalReq) (home : StationNo) (a : Access) (k : SegKind) (i : BitVec 4), s.lpu.lrq = r ::
      rest ∧ s.lpu.head = none ∧ (r.op = .flushLine ∨ BitVec.toNat (offsetOfAddr r.addr) + r.len ≤ 64) ∧ s.segmentEntry (lineOfAddr
      r.addr) = .mapped home a k i ∧ a.permits r.op = true) ∧
    (∃ (s : State) (tag : PTag) (code : BitVec 3) (addr : LocalAddr) (len : BitVec 6) (data : List Byte) (r : LocalReq) (home :
      StationNo) (a : Access) (k : SegKind) (i : BitVec 4), s.accepts tag code addr len data r = true ∧ (r.op = .flushLine ∨
      BitVec.toNat (offsetOfAddr r.addr) + r.len ≤ 64) ∧ s.segmentEntry (lineOfAddr r.addr) = .mapped home a k i ∧ a.permits r.op =
      false) :=
  ⟨⟨(atHead (req 3 .write 0xC000000 8) w0), (req 3 .write 0xC000000 8), [], 2, .readOnly, .cached, 0, by decide +kernel⟩,
   ⟨(atHead (req 3 .read 0xC000000 8) w0), (req 3 .read 0xC000000 8), [], 2, .readOnly, .cached, 0, by decide +kernel⟩,
   ⟨w0, 3, 1, 0xC000000, 7, (List.replicate 8 9), (req 3 .write 0xC000000 8), 2, .readOnly, .cached, 0, by decide +kernel⟩⟩

theorem witness_PinnedRequestToDirectSegment :
    (∃ (s : State) (tag : PTag) (code : BitVec 3) (addr : LocalAddr) (len : BitVec 6) (data : List Byte) (r : LocalReq) (home :
      StationNo) (a : Access) (i : BitVec 4), s.accepts tag code addr len data r = true ∧ BitVec.toNat (offsetOfAddr r.addr) + r.len ≤
      64 ∧ s.segmentEntry (lineOfAddr r.addr) = .mapped home a .direct i ∧ a.permits r.op = true ∧ (r.op = .pinnedRead ∨ r.op =
      .pinnedWrite)) ∧
    (∃ (s : State) (r : LocalReq) (rest : List LocalReq) (home : StationNo) (a : Access) (k : SegKind) (i : BitVec 4), s.lpu.lrq = r ::
      rest ∧ s.lpu.head = none ∧ (r.op = .flushLine ∨ BitVec.toNat (offsetOfAddr r.addr) + r.len ≤ 64) ∧ s.segmentEntry (lineOfAddr
      r.addr) = .mapped home a k i ∧ a.permits r.op = true ∧ ((r.op = .pinnedRead ∨ r.op = .pinnedWrite) ∧ k = .direct)) ∧
    (∃ (s : State) (r : LocalReq) (rest : List LocalReq) (home : StationNo) (a : Access) (k : SegKind) (i : BitVec 4), s.lpu.lrq = r ::
      rest ∧ s.lpu.head = none ∧ (r.op = .flushLine ∨ BitVec.toNat (offsetOfAddr r.addr) + r.len ≤ 64) ∧ s.segmentEntry (lineOfAddr
      r.addr) = .mapped home a k i ∧ a.permits r.op = true ∧ (¬((r.op = .pinnedRead ∨ r.op = .pinnedWrite) ∧ k = .direct))) :=
  ⟨⟨w0, 3, 2, 0x8000000, 7, [], (req 3 .pinnedRead 0x8000000 8), 2, .readWrite, 0, by decide +kernel⟩,
   ⟨(atHead (req 3 .pinnedRead 0x8000000 8) w0), (req 3 .pinnedRead 0x8000000 8), [], 2, .readWrite, .direct, 0, by decide +kernel⟩,
   ⟨(atHead (req 3 .read 0x8000000 8) w0), (req 3 .read 0x8000000 8), [], 2, .readWrite, .direct, 0, by decide +kernel⟩⟩

theorem witness_CachedHitOutcomes :
    (∃ (s : State) (tag : PTag) (code : BitVec 3) (addr : LocalAddr) (len : BitVec 6) (data : List Byte) (d : Decoded) (w : WayNo) (st
      : LineState) (x : LineData), s.passesOn tag code addr len data d = true ∧ d.path = .cached ∧ d.item.op = .read ∧ s.findEntry
      d.line = none ∧ s.findRq d.line = none ∧ s.inTransit d.line = false ∧ s.held d.line = some (w, st, x)) ∧
    (∃ (s : State) (tag : PTag) (code : BitVec 3) (addr : LocalAddr) (len : BitVec 6) (data : List Byte) (d : Decoded) (w : WayNo) (st
      : LineState) (x : LineData), s.passesOn tag code addr len data d = true ∧ d.path = .cached ∧ d.item.op = .write ∧ s.lineFree
      d.line = true ∧ s.held d.line = some (w, st, x) ∧ st ≠ .copy) :=
  ⟨⟨(holding .copy w0), 3, 0, 0x48, 7, [], (passed (req 3 .read 0x48 8) 2 .cached .cached), 0, .copy, x7, by decide +kernel⟩,
   ⟨(holding .sole w0), 3, 1, 0x48, 7, (List.replicate 8 9), (passed (req 3 .write 0x48 8) 2 .cached .cached), 0, .sole, x7,
    by decide +kernel⟩⟩

theorem witness_MissMakesEntry :
    (∃ (s : State) (tag : PTag) (code : BitVec 3) (addr : LocalAddr) (len : BitVec 6) (data : List Byte) (d : Decoded) (w : WayNo) (t :
      ReqTag), s.passesOn tag code addr len data d = true ∧ d.path = .cached ∧ (d.item.op = .read ∨ d.item.op = .write ∧ s.underAnswer
      d.line = false) ∧ s.findEntry d.line = none ∧ s.findRq d.line = none ∧ s.inTransit d.line = false ∧ s.held d.line = none ∧
      s.victim d.line = some w ∧ s.freeTag = some t ∧ s.rqFree = true) ∧
    (∃ (s : State) (l : LineNo) (v : WayNo), s.wayAt l v = .empty ∧ (∀ (u : WayNo), BitVec.toNat u < BitVec.toNat v → s.wayAt l u ≠
      .empty)) ∧
    (∃ (s : State) (l : LineNo) (v : WayNo), (∀ (v : WayNo), s.wayAt l v ≠ .empty) ∧ s.victim l = some v) ∧
    (∃ (s : State) (l : LineNo), (∀ (v : WayNo), s.wayAt l v ≠ .empty) ∧ s.victim l = none) ∧
    (∃ (s : State) (l : LineNo) (v : WayNo) (k : LineNo), s.wayAt l v = .reserved k) ∧
    (∃ (s : State) (l : LineNo) (v : WayNo) (k : LineNo) (st : LineState) (x : LineData), s.wayAt l v = .holding k st x) ∧
    (∃ (s : State) (tag : PTag) (code : BitVec 3) (addr : LocalAddr) (len : BitVec 6) (data : List Byte) (r : LocalReq) (d : Decoded),
      s.passesOn tag code addr len data d = true ∧ s.accepts tag code addr len data r = true ∧ d.path = .cached ∧ (d.item.op = .read ∨
      d.item.op = .write) ∧ s.findEntry d.line = none ∧ (s.findRq d.line ≠ none ∨ s.inTransit d.line = true ∨ d.item.op = .write ∧
      s.underAnswer d.line = true)) ∧
    (∃ (s : State) (tag : PTag) (code : BitVec 3) (addr : LocalAddr) (len : BitVec 6) (data : List Byte) (r : LocalReq) (d : Decoded),
      s.passesOn tag code addr len data d = true ∧ s.accepts tag code addr len data r = true ∧ d.path = .cached ∧ (d.item.op = .read ∨
      d.item.op = .write) ∧ s.findEntry d.line = none ∧ s.findRq d.line = none ∧ s.held d.line = none ∧ (s.freeTag = none ∨ s.victim
      d.line = none)) ∧
    (∃ (s : State) (tag : PTag) (code : BitVec 3) (addr : LocalAddr) (len : BitVec 6) (data : List Byte) (r : LocalReq) (d : Decoded)
      (w : WayNo) (k : LineNo) (x : LineData), s.passesOn tag code addr len data d = true ∧ s.accepts tag code addr len data r = true ∧
      d.path = .cached ∧ (d.item.op = .read ∨ d.item.op = .write) ∧ s.findEntry d.line = none ∧ s.findRq d.line = none ∧ s.held d.line =
      none ∧ s.victim d.line = some w ∧ s.wayAt d.line w = .holding k .altered x ∧ s.rqFree = false) ∧
    (∃ (s : State) (tag : PTag) (code : BitVec 3) (addr : LocalAddr) (len : BitVec 6) (data : List Byte) (r : LocalReq) (d : Decoded)
      (w : WayNo) (x : LineData), s.passesOn tag code addr len data d = true ∧ s.accepts tag code addr len data r = true ∧ d.path =
      .cached ∧ (d.item.op = .read ∨ d.item.op = .write) ∧ s.findEntry d.line = none ∧ s.findRq d.line = none ∧ s.held d.line = some (w,
      .copy, x) ∧ d.item.op = .write ∧ s.freeTag = none) :=
  ⟨⟨(onBus (.answering (openWin 2 (.line .fetch 0 0 lR) none none)) w0), 3, 0, 0x48, 7, [], (passed (req 3 .read 0x48 8) 2 .cached
    .cached), 0, 0, by decide +kernel⟩,
   ⟨w0, lR, 0, by decide +kernel⟩,
   ⟨(fullSet w0), lR, 0, by decide +kernel⟩,
   ⟨(onBus (.answering (openWin 2 (.line .fetch 0 0 lR) none none)) (fullReserved w0)), lR, by decide +kernel⟩,
   ⟨(fullReserved w0), lR, 0, (lR + 256), by decide +kernel⟩,
   ⟨(fullSet w0), lR, 0, (lR + 256), .altered, x7, by decide +kernel⟩,
   ⟨(withRq [returning []] w0), 3, 0, 0x48, 7, [], (req 3 .read 0x48 8), (passed (req 3 .read 0x48 8) 2 .cached .cached),
    by decide +kernel⟩,
   ⟨(fullReserved w0), 3, 0, 0x48, 7, [], (req 3 .read 0x48 8), (passed (req 3 .read 0x48 8) 2 .cached .cached), by decide +kernel⟩,
   ⟨(withRq [returningOf 5, returningOf 6, returningOf 7, returningOf 8] (fullSet w0)), 3, 0, 0x48, 7, [], (req 3 .read 0x48 8),
    (passed (req 3 .read 0x48 8) 2 .cached .cached), 0, (lR + 256), x7, by decide +kernel⟩,
   ⟨(fullPrt (holding .copy w0)), 3, 1, 0x48, 7, (List.replicate 8 9), (req 3 .write 0x48 8), (passed (req 3 .write 0x48 8) 2 .cached
    .cached), 0, x7, by decide +kernel⟩⟩

theorem witness_PromoteAndDirectEntries :
    (∃ (s : State) (tag : PTag) (code : BitVec 3) (addr : LocalAddr) (len : BitVec 6) (data : List Byte) (d : Decoded) (w : WayNo) (x :
      LineData) (t : ReqTag), s.passesOn tag code addr len data d = true ∧ d.path = .cached ∧ d.item.op = .write ∧ s.lineFree d.line =
      true ∧ s.held d.line = some (w, .copy, x) ∧ s.freeTag = some t) ∧
    (∃ (s : State) (tag : PTag) (code : BitVec 3) (addr : LocalAddr) (len : BitVec 6) (data : List Byte) (d : Decoded) (t : ReqTag),
      s.passesOn tag code addr len data d = true ∧ d.path = .direct ∧ (d.item.op = .read ∨ d.item.op = .write ∧ s.underAnswer d.line =
      false) ∧ s.findEntry d.line = none ∧ s.freeTag = some t) ∧
    (∃ (s : State) (tag : PTag) (code : BitVec 3) (addr : LocalAddr) (len : BitVec 6) (data : List Byte) (d : Decoded) (r : LocalReq),
      s.passesOn tag code addr len data d = true ∧ s.accepts tag code addr len data r = true ∧ d.path = .direct ∧ (d.item.op = .read ∨
      d.item.op = .write) ∧ (s.freeTag = none ∨ d.item.op = .write ∧ s.underAnswer d.line = true)) :=
  ⟨⟨(holding .copy w0), 3, 1, 0x48, 7, (List.replicate 8 9), (passed (req 3 .write 0x48 8) 2 .cached .cached), 0, x7, 0,
    by decide +kernel⟩,
   ⟨w0, 3, 0, 0x8000000, 7, [], (passed (req 3 .read 0x8000000 8) 2 .direct .direct), 0, by decide +kernel⟩,
   ⟨(onBus (.answering (openWin 2 (.line .fetch 0 0 lD) none none)) w0), 3, 1, 0x8000000, 7, (List.replicate 8 9), (passed (req 3
    .write 0x8000000 8) 2 .direct .direct), (req 3 .write 0x8000000 8), by decide +kernel⟩⟩

theorem witness_HomeRequestOutcomes :
    (∃ (s : State) (tag : PTag) (code : BitVec 3) (addr : LocalAddr) (len : BitVec 6) (data : List Byte) (d : Decoded), s.passesOn tag
      code addr len data d = true ∧ d.path = .home ∧ (d.item.op = .read ∨ d.item.op = .write) ∧ s.underAnswer d.line = false ∧ s.hwqFree
      = true ∧ (s.findExport d.line = none ∨ d.item.op = .read ∧ s.findExport d.line = some
      { line := d.line, cls := .sharedOut, state := .none, awaiting := none })) ∧
    (∃ (s : State) (tag : PTag) (code : BitVec 3) (addr : LocalAddr) (len : BitVec 6) (data : List Byte) (d : Decoded) (t : ReqTag) (x
      : ExportEntry), s.passesOn tag code addr len data d = true ∧ d.path = .home ∧ (d.item.op = .read ∨ d.item.op = .write) ∧
      s.underAnswer d.line = false ∧ s.hwqFree = true ∧ s.freeTag = some t ∧ s.findExport d.line = some x ∧ x.awaiting = none ∧ x.state
      = .none ∧ (d.item.op = .write ∨ x.cls = .soleOut)) ∧
    (∃ (s : State) (tag : PTag) (code : BitVec 3) (addr : LocalAddr) (len : BitVec 6) (data : List Byte) (r : LocalReq) (d : Decoded),
      s.passesOn tag code addr len data d = true ∧ s.accepts tag code addr len data r = true ∧ d.path = .home ∧ (d.item.op = .read ∨
      d.item.op = .write) ∧ (s.underAnswer d.line = true ∨ s.findExport d.line = none ∧ s.hwqFree = false ∨ ∃ x, s.findExport d.line =
      some x ∧ (x.awaiting.isSome = true ∨ x.state ≠ .inFlight ∧ s.hwqFree = false ∨ (x.state = .wanted ∨ x.state = .none ∧ (d.item.op =
      .write ∨ x.cls = .soleOut)) ∧ s.freeTag = none))) ∧
    (∃ (s : State) (r : LocalReq) (d : Decoded) (x : ExportEntry) (u : ReqTag) (e : PrtEntry) (i : Item), s.calm = true ∧ s.lpu.lrq =
      [r] ∧ s.lpu.head = some d ∧ d.path = .home ∧ (d.item.op = .read ∨ d.item.op = .write) ∧ s.underAnswer d.line = false ∧
      s.findExport d.line = some x ∧ x.awaiting = none ∧ x.state = .wanted ∧ s.home.wanted = [d.line] ∧ s.hwqFree = true ∧ s.findEntry
      d.line = none ∧ (∀ (t : ReqTag), s.entry t ≠ none) ∧ s.entry u = some e ∧ e.kind = .directRead ∧ e.phase = .awaitingData ∧
      e.timer.isSome = true ∧ e.waiting = [i] ∧ i.op = .read ∧ e.origin = Origin.request ∧ e.follower = none ∧ s.underAnswer e.line =
      false ∧ s.lpu.log.length < 8 ∧ s.ctl.mode ≠ .quiescing) :=
  ⟨⟨w0, 3, 0, 0x4000000, 7, [], (passed (req 3 .read 0x4000000 8) 1 .cached .home), by decide +kernel⟩,
   ⟨(exported (exportOf .sharedOut .none none) w0), 3, 1, 0x4000000, 7, (List.replicate 8 9), (passed (req 3 .write 0x4000000 8) 1
    .cached .home), 0, (exportOf .sharedOut .none none), by decide +kernel⟩,
   ⟨(onBus (.answering (openWin 2 (.line .fetch 0 0 lH) none none)) w0), 3, 0, 0x4000000, 7, [], (req 3 .read 0x4000000 8), (passed
    (req 3 .read 0x4000000 8) 1 .cached .home), by decide +kernel⟩,
   ⟨(turnOf .lrq (wanting [lH] (exported (exportOf .sharedOut .wanted none) (waitingHead (req 3 .read 0x4000000 8) (passed (req 3 .read
    0x4000000 8) 1 .cached .home) (withEntryAt 5 (awaitingDirectOf 7) (fullPrt w0)))))), (req 3 .read 0x4000000 8), (passed (req 3 .read
    0x4000000 8) 1 .cached .home), (exportOf .sharedOut .wanted none), 5, (awaitingDirectOf 7), (item 7 .read), by decide +kernel⟩⟩

theorem witness_PinnedRequestOutcomes :
    (∃ (s : State) (tag : PTag) (code : BitVec 3) (addr : LocalAddr) (len : BitVec 6) (data : List Byte) (d : Decoded), s.passesOn tag
      code addr len data d = true ∧ d.path = .cached ∧ d.item.op = .pinnedRead ∧ (∃ p ∈ s.cache.pins, p.line = d.line)) ∧
    (∃ (s : State) (tag : PTag) (code : BitVec 3) (addr : LocalAddr) (len : BitVec 6) (data : List Byte) (d : Decoded), s.passesOn tag
      code addr len data d = true ∧ d.path = .cached ∧ d.item.op = .pinnedRead ∧ (∀ p ∈ s.cache.pins, p.line ≠ d.line) ∧ 2 ≤
      s.cache.pins.length) ∧
    (∃ (s : State) (tag : PTag) (code : BitVec 3) (addr : LocalAddr) (len : BitVec 6) (data : List Byte) (d : Decoded) (w : WayNo) (st
      : LineState) (x : LineData), s.passesOn tag code addr len data d = true ∧ d.path = .cached ∧ d.item.op = .pinnedRead ∧ (∀ p ∈
      s.cache.pins, p.line ≠ d.line) ∧ s.cache.pins.length < 2 ∧ s.lineFree d.line = true ∧ s.held d.line = some (w, st, x) ∧ st ≠ .copy) ∧
    (∃ (s : State) (tag : PTag) (code : BitVec 3) (addr : LocalAddr) (len : BitVec 6) (data : List Byte) (r : LocalReq) (d : Decoded),
      s.passesOn tag code addr len data d = true ∧ s.accepts tag code addr len data r = true ∧ d.path = .cached ∧ d.item.op =
      .pinnedRead ∧ (∀ p ∈ s.cache.pins, p.line ≠ d.line) ∧ s.cache.pins.length < 2 ∧ s.findRq d.line ≠ none) ∧
    (∃ (s : State) (tag : PTag) (code : BitVec 3) (addr : LocalAddr) (len : BitVec 6) (data : List Byte) (r : LocalReq) (d : Decoded)
      (t : ReqTag) (e : PrtEntry) (attaches : Prop), s.passesOn tag code addr len data d = true ∧ s.accepts tag code addr len data r =
      true ∧ d.path = .cached ∧ d.item.op = .pinnedRead ∧ (∀ p ∈ s.cache.pins, p.line ≠ d.line) ∧ s.cache.pins.length < 2 ∧ s.findRq
      d.line = none ∧ s.findEntry d.line = some t ∧ s.entry t = some e ∧ (attaches ↔ e.phase ≠ .finishing ∧ e.waiting.length < 4 ∧
      (e.kind = .claim ∨ e.kind = .promote) ∧ s.underAnswer d.line = false ∧ e.follower = none) ∧ attaches) ∧
    (∃ (s : State) (tag : PTag) (code : BitVec 3) (addr : LocalAddr) (len : BitVec 6) (data : List Byte) (r : LocalReq) (d : Decoded)
      (t : ReqTag) (e : PrtEntry) (attaches : Prop), s.passesOn tag code addr len data d = true ∧ s.accepts tag code addr len data r =
      true ∧ d.path = .cached ∧ d.item.op = .pinnedRead ∧ (∀ p ∈ s.cache.pins, p.line ≠ d.line) ∧ s.cache.pins.length < 2 ∧ s.findRq
      d.line = none ∧ s.findEntry d.line = some t ∧ s.entry t = some e ∧ (attaches ↔ e.phase ≠ .finishing ∧ e.waiting.length < 4 ∧
      (e.kind = .claim ∨ e.kind = .promote) ∧ s.underAnswer d.line = false ∧ e.follower = none) ∧ (¬attaches)) ∧
    (∃ (s : State) (tag : PTag) (code : BitVec 3) (addr : LocalAddr) (len : BitVec 6) (data : List Byte) (r : LocalReq) (d : Decoded),
      s.passesOn tag code addr len data d = true ∧ s.accepts tag code addr len data r = true ∧ d.path = .cached ∧ d.item.op =
      .pinnedRead ∧ (∀ p ∈ s.cache.pins, p.line ≠ d.line) ∧ s.cache.pins.length < 2 ∧ s.findRq d.line = none ∧ s.findEntry d.line = none
      ∧ (s.inTransit d.line = true ∨ s.underAnswer d.line = true)) ∧
    (∃ (s : State) (tag : PTag) (code : BitVec 3) (addr : LocalAddr) (len : BitVec 6) (data : List Byte) (r : LocalReq) (d : Decoded)
      (w : WayNo) (x : LineData) (t : ReqTag), s.passesOn tag code addr len data d = true ∧ s.accepts tag code addr len data r = true ∧
      d.path = .cached ∧ d.item.op = .pinnedRead ∧ (∀ p ∈ s.cache.pins, p.line ≠ d.line) ∧ s.cache.pins.length < 2 ∧ s.lineFree d.line =
      true ∧ s.held d.line = some (w, .copy, x) ∧ s.freeTag = some t) ∧
    (∃ (s : State) (tag : PTag) (code : BitVec 3) (addr : LocalAddr) (len : BitVec 6) (data : List Byte) (r : LocalReq) (d : Decoded)
      (w : WayNo) (t : ReqTag), s.passesOn tag code addr len data d = true ∧ s.accepts tag code addr len data r = true ∧ d.path =
      .cached ∧ d.item.op = .pinnedRead ∧ (∀ p ∈ s.cache.pins, p.line ≠ d.line) ∧ s.cache.pins.length < 2 ∧ s.lineFree d.line = true ∧
      s.held d.line = none ∧ s.victim d.line = some w ∧ s.freeTag = some t ∧ s.rqFree = true) ∧
    (∃ (s : State) (tag : PTag) (code : BitVec 3) (addr : LocalAddr) (len : BitVec 6) (data : List Byte) (r : LocalReq) (d : Decoded)
      (w : WayNo) (x : LineData), s.passesOn tag code addr len data d = true ∧ s.accepts tag code addr len data r = true ∧ d.path =
      .cached ∧ d.item.op = .pinnedRead ∧ (∀ p ∈ s.cache.pins, p.line ≠ d.line) ∧ s.cache.pins.length < 2 ∧ s.lineFree d.line = true ∧
      s.held d.line = some (w, .copy, x) ∧ s.freeTag = none) ∧
    (∃ (s : State) (tag : PTag) (code : BitVec 3) (addr : LocalAddr) (len : BitVec 6) (data : List Byte) (r : LocalReq) (d : Decoded),
      s.passesOn tag code addr len data d = true ∧ s.accepts tag code addr len data r = true ∧ d.path = .cached ∧ d.item.op =
      .pinnedRead ∧ (∀ p ∈ s.cache.pins, p.line ≠ d.line) ∧ s.cache.pins.length < 2 ∧ s.lineFree d.line = true ∧ s.held d.line = none ∧
      (s.freeTag = none ∨ s.victim d.line = none)) ∧
    (∃ (s : State) (tag : PTag) (code : BitVec 3) (addr : LocalAddr) (len : BitVec 6) (data : List Byte) (r : LocalReq) (d : Decoded)
      (w : WayNo) (k : LineNo) (x : LineData), s.passesOn tag code addr len data d = true ∧ s.accepts tag code addr len data r = true ∧
      d.path = .cached ∧ d.item.op = .pinnedRead ∧ (∀ p ∈ s.cache.pins, p.line ≠ d.line) ∧ s.cache.pins.length < 2 ∧ s.lineFree d.line =
      true ∧ s.held d.line = none ∧ s.victim d.line = some w ∧ s.wayAt d.line w = .holding k .altered x ∧ s.rqFree = false) ∧
    (∃ (s : State) (tag : PTag) (code : BitVec 3) (addr : LocalAddr) (len : BitVec 6) (data : List Byte) (r : LocalReq) (d : Decoded)
      (p : PinEntry), s.passesOn tag code addr len data d = true ∧ s.accepts tag code addr len data r = true ∧ d.path = .cached ∧
      d.item.op = .pinnedWrite ∧ s.findPin d.line = some p ∧ p.held = true ∧ s.underAnswer d.line = true) ∧
    (∃ (s : State) (tag : PTag) (code : BitVec 3) (addr : LocalAddr) (len : BitVec 6) (data : List Byte) (r : LocalReq) (d : Decoded)
      (p : PinEntry), s.passesOn tag code addr len data d = true ∧ s.accepts tag code addr len data r = true ∧ d.path = .cached ∧
      d.item.op = .pinnedWrite ∧ s.findPin d.line = some p ∧ p.held = false ∧ s.findEntry d.line = none) ∧
    (∃ (s : State) (tag : PTag) (code : BitVec 3) (addr : LocalAddr) (len : BitVec 6) (data : List Byte) (r : LocalReq) (d : Decoded)
      (p : PinEntry) (t : ReqTag) (e : PrtEntry) (attaches : Prop), s.passesOn tag code addr len data d = true ∧ s.accepts tag code addr
      len data r = true ∧ d.path = .cached ∧ d.item.op = .pinnedWrite ∧ s.findPin d.line = some p ∧ s.findRq d.line = none ∧ p.held =
      false ∧ s.findEntry d.line = some t ∧ s.entry t = some e ∧ (attaches ↔ e.phase ≠ .finishing ∧ e.waiting.length < 4 ∧ (e.kind =
      .claim ∨ e.kind = .promote) ∧ s.underAnswer d.line = false) ∧ attaches) ∧
    (∃ (s : State) (tag : PTag) (code : BitVec 3) (addr : LocalAddr) (len : BitVec 6) (data : List Byte) (r : LocalReq) (d : Decoded)
      (p : PinEntry) (t : ReqTag) (e : PrtEntry) (attaches : Prop), s.passesOn tag code addr len data d = true ∧ s.accepts tag code addr
      len data r = true ∧ d.path = .cached ∧ d.item.op = .pinnedWrite ∧ s.findPin d.line = some p ∧ s.findRq d.line = none ∧ p.held =
      false ∧ s.findEntry d.line = some t ∧ s.entry t = some e ∧ (attaches ↔ e.phase ≠ .finishing ∧ e.waiting.length < 4 ∧ (e.kind =
      .claim ∨ e.kind = .promote) ∧ s.underAnswer d.line = false) ∧ (¬attaches)) ∧
    (∃ (s : State) (tag : PTag) (code : BitVec 3) (addr : LocalAddr) (len : BitVec 6) (data : List Byte) (d : Decoded), s.passesOn tag
      code addr len data d = true ∧ d.item.op = .pinnedWrite ∧ d.path ≠ .direct ∧ (∀ p ∈ s.cache.pins, p.line ≠ d.line)) ∧
    (∃ (s : State) (tag : PTag) (code : BitVec 3) (addr : LocalAddr) (len : BitVec 6) (data : List Byte) (d : Decoded) (p : PinEntry)
      (w : WayNo) (st : LineState) (x : LineData), s.passesOn tag code addr len data d = true ∧ d.item.op = .pinnedWrite ∧ d.path =
      .cached ∧ s.findPin d.line = some p ∧ p.held = true ∧ s.findRq d.line = none ∧ s.underAnswer d.line = false ∧ s.held d.line = some
      (w, st, x) ∧ s.ctl.mode ≠ .quiescing) ∧
    (∃ (s : State) (tag : PTag) (code : BitVec 3) (addr : LocalAddr) (len : BitVec 6) (data : List Byte) (d : Decoded) (p : PinEntry)
      (w : WayNo) (st : LineState) (x : LineData), s.passesOn tag code addr len data d = true ∧ d.item.op = .pinnedWrite ∧ d.path =
      .cached ∧ s.findPin d.line = some p ∧ p.held = true ∧ s.findRq d.line = none ∧ s.underAnswer d.line = false ∧ s.held d.line = some
      (w, st, x) ∧ s.ctl.mode = .quiescing) ∧
    (∃ (s : State) (tag : PTag) (code : BitVec 3) (addr : LocalAddr) (len : BitVec 6) (data : List Byte) (r : LocalReq) (d : Decoded)
      (p : PinEntry), s.passesOn tag code addr len data d = true ∧ s.accepts tag code addr len data r = true ∧ d.path = .cached ∧
      d.item.op = .pinnedWrite ∧ s.findPin d.line = some p ∧ s.findRq d.line ≠ none) :=
  ⟨⟨(withPins [pinOf lR .remote] w0), 3, 2, 0x48, 7, [], (passed (req 3 .pinnedRead 0x48 8) 2 .cached .cached), by decide +kernel⟩,
   ⟨(withPins [pinOf lH .home, pinOf 2 .remote] w0), 3, 2, 0x48, 7, [], (passed (req 3 .pinnedRead 0x48 8) 2 .cached .cached),
    by decide +kernel⟩,
   ⟨(withPins [pinOf lH .home] (holding .sole w0)), 3, 2, 0x48, 7, [], (passed (req 3 .pinnedRead 0x48 8) 2 .cached .cached), 0, .sole,
    x7, by decide +kernel⟩,
   ⟨(withRq [returning []] w0), 3, 2, 0x48, 7, [], (req 3 .pinnedRead 0x48 8), (passed (req 3 .pinnedRead 0x48 8) 2 .cached .cached),
    by decide +kernel⟩,
   ⟨(withPins [pinOf lH .home] (withEntry (asKind .claim queuedFetch) w0)), 3, 2, 0x48, 7, [], (req 3 .pinnedRead 0x48 8), (passed (req
    3 .pinnedRead 0x48 8) 2 .cached .cached), 0, (asKind .claim queuedFetch), True, by decide +kernel⟩,
   ⟨(withPins [pinOf lH .home] (withEntry (listing [item 4 .read,item 5 .read,item 6 .read,item 7 .read] (asKind .claim queuedFetch))
    w0)), 3, 2, 0x48, 7, [], (req 3 .pinnedRead 0x48 8), (passed (req 3 .pinnedRead 0x48 8) 2 .cached .cached), 0, (listing [item 4
    .read,item 5 .read,item 6 .read,item 7 .read] (asKind .claim queuedFetch)), False, by decide +kernel⟩,
   ⟨(onBus (.answering (openWin 2 (.line .fetch 0 0 lR) none none)) (holding .copy w0)), 3, 2, 0x48, 7, [], (req 3 .pinnedRead 0x48 8),
    (passed (req 3 .pinnedRead 0x48 8) 2 .cached .cached), by decide +kernel⟩,
   ⟨(holding .copy w0), 3, 2, 0x48, 7, [], (req 3 .pinnedRead 0x48 8), (passed (req 3 .pinnedRead 0x48 8) 2 .cached .cached), 0, x7, 0,
    by decide +kernel⟩,
   ⟨w0, 3, 2, 0x48, 7, [], (req 3 .pinnedRead 0x48 8), (passed (req 3 .pinnedRead 0x48 8) 2 .cached .cached), 0, 0, by decide +kernel⟩,
   ⟨(fullPrt (holding .copy w0)), 3, 2, 0x48, 7, [], (req 3 .pinnedRead 0x48 8), (passed (req 3 .pinnedRead 0x48 8) 2 .cached .cached),
    0, x7, by decide +kernel⟩,
   ⟨(fullReserved w0), 3, 2, 0x48, 7, [], (req 3 .pinnedRead 0x48 8), (passed (req 3 .pinnedRead 0x48 8) 2 .cached .cached),
    by decide +kernel⟩,
   ⟨(withRq [returningOf 5, returningOf 6, returningOf 7, returningOf 8] (fullSet w0)), 3, 2, 0x48, 7, [], (req 3 .pinnedRead 0x48 8),
    (passed (req 3 .pinnedRead 0x48 8) 2 .cached .cached), 0, (lR + 256), x7, by decide +kernel⟩,
   ⟨(onBus (.answering (openWin 2 (.line .fetch 0 0 lR) none none)) (withPins [pinOf lR .remote] (holding .sole w0))), 3, 3, 0x48, 7,
    (List.replicate 8 9), (req 3 .pinnedWrite 0x48 8), (passed (req 3 .pinnedWrite 0x48 8) 2 .cached .cached), (pinOf lR .remote),
    by decide +kernel⟩,
   ⟨(withPins [(pendingRemote 4)] w0), 3, 3, 0x48, 7, (List.replicate 8 9), (req 3 .pinnedWrite 0x48 8), (passed (req 3 .pinnedWrite
    0x48 8) 2 .cached .cached), (pendingRemote 4), by decide +kernel⟩,
   ⟨(withPins [(pendingRemote 4)] (withEntry (asKind .claim queuedFetch) w0)), 3, 3, 0x48, 7, (List.replicate 8 9), (req 3 .pinnedWrite
    0x48 8), (passed (req 3 .pinnedWrite 0x48 8) 2 .cached .cached), (pendingRemote 4), 0, (asKind .claim queuedFetch), True,
    by decide +kernel⟩,
   ⟨(withPins [(pendingRemote 4)] (withEntry (listing [item 4 .read,item 5 .read,item 6 .read,item 7 .read] (asKind .claim
    queuedFetch)) w0)), 3, 3, 0x48, 7, (List.replicate 8 9), (req 3 .pinnedWrite 0x48 8), (passed (req 3 .pinnedWrite 0x48 8) 2 .cached
    .cached), (pendingRemote 4), 0, (listing [item 4 .read,item 5 .read,item 6 .read,item 7 .read] (asKind .claim queuedFetch)), False,
    by decide +kernel⟩,
   ⟨w0, 3, 3, 0x48, 7, (List.replicate 8 9), (passed (req 3 .pinnedWrite 0x48 8) 2 .cached .cached), by decide +kernel⟩,
   ⟨(withPins [pinOf lR .remote] (holding .altered w0)), 3, 3, 0x48, 7, (List.replicate 8 9), (passed (req 3 .pinnedWrite 0x48 8) 2
    .cached .cached), (pinOf lR .remote), 0, .altered, x7, by decide +kernel⟩,
   ⟨(withPins [pinOf lR .remote] (holding .altered (inMode .quiescing w0))), 3, 3, 0x48, 7, (List.replicate 8 9), (passed (req 3
    .pinnedWrite 0x48 8) 2 .cached .cached), (pinOf lR .remote), 0, .altered, x7, by decide +kernel⟩,
   ⟨(withRq [returning []] (withPins [pinOf lR .remote] (holding .sole w0))), 3, 3, 0x48, 7, (List.replicate 8 9), (req 3 .pinnedWrite
    0x48 8), (passed (req 3 .pinnedWrite 0x48 8) 2 .cached .cached), (pinOf lR .remote), by decide +kernel⟩⟩

theorem witness_HomePinnedRequestOutcomes :
    (∃ (s : State) (tag : PTag) (code : BitVec 3) (addr : LocalAddr) (len : BitVec 6) (data : List Byte) (r : LocalReq) (d : Decoded),
      s.passesOn tag code addr len data d = true ∧ s.accepts tag code addr len data r = true ∧ d.path = .home ∧ d.item.op = .pinnedRead
      ∧ (∃ p ∈ s.cache.pins, p.line = d.line)) ∧
    (∃ (s : State) (tag : PTag) (code : BitVec 3) (addr : LocalAddr) (len : BitVec 6) (data : List Byte) (r : LocalReq) (d : Decoded),
      s.passesOn tag code addr len data d = true ∧ s.accepts tag code addr len data r = true ∧ d.path = .home ∧ d.item.op = .pinnedRead
      ∧ (∀ p ∈ s.cache.pins, p.line ≠ d.line) ∧ 2 ≤ s.cache.pins.length) ∧
    (∃ (s : State) (tag : PTag) (code : BitVec 3) (addr : LocalAddr) (len : BitVec 6) (data : List Byte) (r : LocalReq) (d : Decoded),
      s.passesOn tag code addr len data d = true ∧ s.accepts tag code addr len data r = true ∧ d.path = .home ∧ d.item.op = .pinnedRead
      ∧ (∀ p ∈ s.cache.pins, p.line ≠ d.line) ∧ s.cache.pins.length < 2 ∧ (s.underAnswer d.line = true ∨ ∃ x, s.findExport d.line = some
      x ∧ (x.awaiting.isSome = true ∨ x.state = .inFlight))) ∧
    (∃ (s : State) (tag : PTag) (code : BitVec 3) (addr : LocalAddr) (len : BitVec 6) (data : List Byte) (r : LocalReq) (d : Decoded),
      s.passesOn tag code addr len data d = true ∧ s.accepts tag code addr len data r = true ∧ d.path = .home ∧ d.item.op = .pinnedRead
      ∧ (∀ p ∈ s.cache.pins, p.line ≠ d.line) ∧ s.cache.pins.length < 2 ∧ s.underAnswer d.line = false ∧ s.findExport d.line = none ∧
      s.hwqFree = true) ∧
    (∃ (s : State) (tag : PTag) (code : BitVec 3) (addr : LocalAddr) (len : BitVec 6) (data : List Byte) (r : LocalReq) (d : Decoded),
      s.passesOn tag code addr len data d = true ∧ s.accepts tag code addr len data r = true ∧ d.path = .home ∧ d.item.op = .pinnedRead
      ∧ (∀ p ∈ s.cache.pins, p.line ≠ d.line) ∧ s.cache.pins.length < 2 ∧ s.underAnswer d.line = false ∧ s.findExport d.line = none ∧
      s.hwqFree = false) ∧
    (∃ (s : State) (tag : PTag) (code : BitVec 3) (addr : LocalAddr) (len : BitVec 6) (data : List Byte) (r : LocalReq) (d : Decoded)
      (x : ExportEntry) (t : ReqTag), s.passesOn tag code addr len data d = true ∧ s.accepts tag code addr len data r = true ∧ d.path =
      .home ∧ d.item.op = .pinnedRead ∧ (∀ p ∈ s.cache.pins, p.line ≠ d.line) ∧ s.cache.pins.length < 2 ∧ s.underAnswer d.line = false ∧
      s.findExport d.line = some x ∧ x.awaiting = none ∧ x.state = .none ∧ s.freeTag = some t) ∧
    (∃ (s : State) (tag : PTag) (code : BitVec 3) (addr : LocalAddr) (len : BitVec 6) (data : List Byte) (r : LocalReq) (d : Decoded)
      (x : ExportEntry), s.passesOn tag code addr len data d = true ∧ s.accepts tag code addr len data r = true ∧ d.path = .home ∧
      d.item.op = .pinnedRead ∧ (∀ p ∈ s.cache.pins, p.line ≠ d.line) ∧ s.cache.pins.length < 2 ∧ s.underAnswer d.line = false ∧
      s.findExport d.line = some x ∧ x.awaiting = none ∧ x.state ≠ .inFlight ∧ s.freeTag = none) ∧
    (∃ (s : State) (tag : PTag) (code : BitVec 3) (addr : LocalAddr) (len : BitVec 6) (data : List Byte) (r : LocalReq) (d : Decoded)
      (p : PinEntry), s.passesOn tag code addr len data d = true ∧ s.accepts tag code addr len data r = true ∧ d.path = .home ∧
      d.item.op = .pinnedWrite ∧ s.findPin d.line = some p ∧ (s.underAnswer d.line = true ∨ p.held = false ∨ s.hwqFree = false)) ∧
    (∃ (s : State) (tag : PTag) (code : BitVec 3) (addr : LocalAddr) (len : BitVec 6) (data : List Byte) (r : LocalReq) (d : Decoded)
      (p : PinEntry), s.passesOn tag code addr len data d = true ∧ s.accepts tag code addr len data r = true ∧ d.path = .home ∧
      d.item.op = .pinnedWrite ∧ s.findPin d.line = some p ∧ s.underAnswer d.line = false ∧ p.held = true ∧ s.hwqFree = true ∧
      s.ctl.mode ≠ .quiescing) ∧
    (∃ (s : State) (tag : PTag) (code : BitVec 3) (addr : LocalAddr) (len : BitVec 6) (data : List Byte) (r : LocalReq) (d : Decoded)
      (p : PinEntry), s.passesOn tag code addr len data d = true ∧ s.accepts tag code addr len data r = true ∧ d.path = .home ∧
      d.item.op = .pinnedWrite ∧ s.findPin d.line = some p ∧ s.underAnswer d.line = false ∧ p.held = true ∧ s.hwqFree = true ∧
      s.ctl.mode = .quiescing) ∧
    (∃ (s : State) (r : LocalReq) (d : Decoded) (x : ExportEntry) (u : ReqTag) (e : PrtEntry) (i : Item), s.calm = true ∧ s.lpu.lrq =
      [r] ∧ s.lpu.head = some d ∧ s.lpu.pinRecall = none ∧ d.path = .home ∧ d.item.op = .pinnedRead ∧ (∀ p ∈ s.cache.pins, p.line ≠
      d.line) ∧ s.cache.pins.length < 2 ∧ s.underAnswer d.line = false ∧ s.findExport d.line = some x ∧ x.awaiting = none ∧ x.state =
      .wanted ∧ s.home.wanted = [d.line] ∧ s.findEntry d.line = none ∧ (∀ (t : ReqTag), s.entry t ≠ none) ∧ s.entry u = some e ∧ e.kind
      = .directRead ∧ e.phase = .awaitingData ∧ e.timer.isSome = true ∧ e.waiting = [i] ∧ i.op = .read ∧ e.origin = Origin.request ∧
      e.follower = none ∧ s.underAnswer e.line = false ∧ s.lpu.log.length < 8 ∧ s.ctl.mode ≠ .quiescing) ∧
    (∃ (s : State) (t : ReqTag) (e : PrtEntry) (r : LocalReq) (d : Decoded) (driven : Table (BitVec 3) 4) (w : Window) (n : StationNo)
      (q : Request), s.entry t = some e ∧ e.kind = .recall ∧ e.line = d.line ∧ e.waiting = [] ∧ s.lpu.lrq = [r] ∧ s.lpu.head = some d ∧
      s.lpu.pinRecall = some t ∧ d.path = .home ∧ d.item.op = .pinnedRead ∧ s.home.wanted = [] ∧ s.ctl.mode ≠ .quiescing ∧ s.bus.medium
      = .answering w ∧ w.own = some (SendItem.prt t) ∧ w.msg = some (n, q) ∧ q.enrolment = false ∧ s.noHeldExpiry = true ∧ (combine
      driven w.drives = .clear ∨ combine driven w.drives = .shared) ∧ ({ s with bus := { s.bus with medium := .idle } } : State).calm =
      true ∧ (∀ p ∈ s.cache.pins, p.line ≠ d.line) ∧ s.cache.pins.length < 2 ∧ ({ s with bus := { s.bus with medium := .idle } } :
      State).hwqFree = true) ∧
    (∃ (s : State) (t : ReqTag) (e : PrtEntry) (r : LocalReq) (d : Decoded), s.entry t = some e ∧ e.kind = .recall ∧ e.line = d.line ∧
      e.waiting = [] ∧ s.lpu.lrq = [r] ∧ s.lpu.head = some d ∧ s.lpu.pinRecall = some t ∧ d.path = .home ∧ d.item.op = .pinnedRead ∧
      s.home.wanted = [] ∧ s.ctl.mode ≠ .quiescing ∧ s.calm = true ∧ e.phase = .awaitingData ∧ e.timer.isSome = true ∧ e.origin =
      Origin.pin ∧ e.follower = none ∧ s.underAnswer e.line = false ∧ s.lpu.log.length < 8) :=
  ⟨⟨(withPins [pinOf lH .home] w0), 3, 2, 0x4000000, 7, [], (req 3 .pinnedRead 0x4000000 8), (passed (req 3 .pinnedRead 0x4000000 8) 1
    .cached .home), by decide +kernel⟩,
   ⟨(withPins [pinOf lR .remote, pinOf 2 .remote] w0), 3, 2, 0x4000000, 7, [], (req 3 .pinnedRead 0x4000000 8), (passed (req 3
    .pinnedRead 0x4000000 8) 1 .cached .home), by decide +kernel⟩,
   ⟨(onBus (.answering (openWin 2 (.line .fetch 0 0 lH) none none)) w0), 3, 2, 0x4000000, 7, [], (req 3 .pinnedRead 0x4000000 8),
    (passed (req 3 .pinnedRead 0x4000000 8) 1 .cached .home), by decide +kernel⟩,
   ⟨w0, 3, 2, 0x4000000, 7, [], (req 3 .pinnedRead 0x4000000 8), (passed (req 3 .pinnedRead 0x4000000 8) 1 .cached .home),
    by decide +kernel⟩,
   ⟨(fullHwq w0), 3, 2, 0x4000000, 7, [], (req 3 .pinnedRead 0x4000000 8), (passed (req 3 .pinnedRead 0x4000000 8) 1 .cached .home),
    by decide +kernel⟩,
   ⟨(exported (exportOf .sharedOut .none none) w0), 3, 2, 0x4000000, 7, [], (req 3 .pinnedRead 0x4000000 8), (passed (req 3 .pinnedRead
    0x4000000 8) 1 .cached .home), (exportOf .sharedOut .none none), 0, by decide +kernel⟩,
   ⟨(fullPrt (exported (exportOf .sharedOut .none none) w0)), 3, 2, 0x4000000, 7, [], (req 3 .pinnedRead 0x4000000 8), (passed (req 3
    .pinnedRead 0x4000000 8) 1 .cached .home), (exportOf .sharedOut .none none), by decide +kernel⟩,
   ⟨(onBus (.answering (openWin 2 (.line .fetch 0 0 lH) none none)) (withPins [pinOf lH .home] w0)), 3, 3, 0x4000000, 7,
    (List.replicate 8 9), (req 3 .pinnedWrite 0x4000000 8), (passed (req 3 .pinnedWrite 0x4000000 8) 1 .cached .home), (pinOf lH .home),
    by decide +kernel⟩,
   ⟨(withPins [pinOf lH .home] w0), 3, 3, 0x4000000, 7, (List.replicate 8 9), (req 3 .pinnedWrite 0x4000000 8), (passed (req 3
    .pinnedWrite 0x4000000 8) 1 .cached .home), (pinOf lH .home), by decide +kernel⟩,
   ⟨(withPins [pinOf lH .home] (inMode .quiescing w0)), 3, 3, 0x4000000, 7, (List.replicate 8 9), (req 3 .pinnedWrite 0x4000000 8),
    (passed (req 3 .pinnedWrite 0x4000000 8) 1 .cached .home), (pinOf lH .home), by decide +kernel⟩,
   ⟨(turnOf .lrq (wanting [lH] (exported (exportOf .sharedOut .wanted none) (waitingHead (req 3 .pinnedRead 0x4000000 8) (passed (req 3
    .pinnedRead 0x4000000 8) 1 .cached .home) (withEntryAt 5 (awaitingDirectOf 7) (fullPrt w0)))))), (req 3 .pinnedRead 0x4000000 8),
    (passed (req 3 .pinnedRead 0x4000000 8) 1 .cached .home), (exportOf .sharedOut .wanted none), 5, (awaitingDirectOf 7), (item 7
    .read), by decide +kernel⟩,
   ⟨(onBus (.answering (openWin 1 (.line .recall 0 0 lH) (some (.prt 0)) none)) (withEntry (PrtEntry.fresh .recall lH none [] .pin)
    (noted 0 (exported (exportOf .soleOut .inFlight none) (waitingHead (req 3 .pinnedRead 0x4000000 8) (passed (req 3 .pinnedRead
    0x4000000 8) 1 .cached .home) w0))))), 0, (PrtEntry.fresh .recall lH none [] .pin), (req 3 .pinnedRead 0x4000000 8), (passed (req 3
    .pinnedRead 0x4000000 8) 1 .cached .home), (driven 1), (openWin 1 (.line .recall 0 0 lH) (some (.prt 0)) none), 1, (.line .recall 0
    0 lH), by decide +kernel⟩,
   ⟨(withEntry ({ awaitingRecall [] with origin := .pin }) (noted 0 (exported (exportOf .soleOut .inFlight none) (waitingHead (req 3
    .pinnedRead 0x4000000 8) (passed (req 3 .pinnedRead 0x4000000 8) 1 .cached .home) w0)))), 0,
    ({ awaitingRecall [] with origin := .pin }), (req 3 .pinnedRead 0x4000000 8), (passed (req 3 .pinnedRead 0x4000000 8) 1 .cached
    .home), by decide +kernel⟩⟩

theorem witness_RequestsThatAttach :
    (∃ (s : State) (tag : PTag) (code : BitVec 3) (addr : LocalAddr) (len : BitVec 6) (data : List Byte) (r : LocalReq) (d : Decoded)
      (t : ReqTag) (e : PrtEntry), s.passesOn tag code addr len data d = true ∧ s.accepts tag code addr len data r = true ∧ (d.item.op =
      .read ∨ d.item.op = .write) ∧ s.findEntry d.line = some t ∧ s.entry t = some e ∧ d.path = .direct) ∧
    (∃ (s : State) (tag : PTag) (code : BitVec 3) (addr : LocalAddr) (len : BitVec 6) (data : List Byte) (r : LocalReq) (d : Decoded)
      (t : ReqTag) (e : PrtEntry) (attaches : Prop), s.passesOn tag code addr len data d = true ∧ s.accepts tag code addr len data r =
      true ∧ (d.item.op = .read ∨ d.item.op = .write) ∧ s.findEntry d.line = some t ∧ s.entry t = some e ∧ (d.path = .cached ∧ s.findRq
      d.line = none ∧ (attaches ↔ e.phase ≠ .finishing ∧ e.waiting.length < 4 ∧ (d.item.op = .read ∧ (e.kind = .fetch ∨ e.kind = .claim
      ∨ e.kind = .promote) ∨ d.item.op = .write ∧ (e.kind = .claim ∨ e.kind = .promote) ∧ s.underAnswer d.line = false)) ∨ d.path =
      .home ∧ s.underAnswer d.line = false ∧ (∃ x, s.findExport d.line = some x ∧ x.awaiting = none ∧ x.state = .inFlight) ∧ e.kind =
      .recall ∧ (attaches ↔ e.phase ≠ .finishing ∧ e.waiting.length < 4 ∧ s.hwqFree = true)) ∧ attaches) ∧
    (∃ (s : State) (tag : PTag) (code : BitVec 3) (addr : LocalAddr) (len : BitVec 6) (data : List Byte) (r : LocalReq) (d : Decoded)
      (t : ReqTag) (e : PrtEntry) (attaches : Prop), s.passesOn tag code addr len data d = true ∧ s.accepts tag code addr len data r =
      true ∧ (d.item.op = .read ∨ d.item.op = .write) ∧ s.findEntry d.line = some t ∧ s.entry t = some e ∧ (d.path = .cached ∧ s.findRq
      d.line = none ∧ (attaches ↔ e.phase ≠ .finishing ∧ e.waiting.length < 4 ∧ (d.item.op = .read ∧ (e.kind = .fetch ∨ e.kind = .claim
      ∨ e.kind = .promote) ∨ d.item.op = .write ∧ (e.kind = .claim ∨ e.kind = .promote) ∧ s.underAnswer d.line = false)) ∨ d.path =
      .home ∧ s.underAnswer d.line = false ∧ (∃ x, s.findExport d.line = some x ∧ x.awaiting = none ∧ x.state = .inFlight) ∧ e.kind =
      .recall ∧ (attaches ↔ e.phase ≠ .finishing ∧ e.waiting.length < 4 ∧ s.hwqFree = true)) ∧ (¬attaches)) :=
  ⟨⟨(withEntry awaitingDirect w0), 3, 0, 0x8000000, 7, [], (req 3 .read 0x8000000 8), (passed (req 3 .read 0x8000000 8) 2 .direct
    .direct), 0, awaitingDirect, by decide +kernel⟩,
   ⟨(withEntry (queuedFetch) w0), 3, 0, 0x48, 7, [], (req 3 .read 0x48 8), (passed (req 3 .read 0x48 8) 2 .cached .cached), 0,
    (queuedFetch), True, by decide +kernel⟩,
   ⟨(onBus (.answering (openWin 2 (.line .fetch 0 0 lR) none none)) (withEntry (asKind .claim queuedFetch) w0)), 3, 1, 0x48, 7,
    (List.replicate 8 9), (req 3 .write 0x48 8), (passed (req 3 .write 0x48 8) 2 .cached .cached), 0, (asKind .claim queuedFetch),
    False, by decide +kernel⟩⟩

theorem witness_FlushLineOutcomes :
    (∃ (s : State) (tag : PTag) (code : BitVec 3) (addr : LocalAddr) (len : BitVec 6) (data : List Byte) (d : Decoded) (w : WayNo) (x :
      LineData), s.passesOn tag code addr len data d = true ∧ d.path = .cached ∧ d.item.op = .flushLine ∧ s.lineFree d.line = true ∧
      s.pinned d.line = false ∧ s.held d.line = some (w, .altered, x) ∧ s.rqFree = true) ∧
    (∃ (s : State) (tag : PTag) (code : BitVec 3) (addr : LocalAddr) (len : BitVec 6) (data : List Byte) (d : Decoded) (w : WayNo) (st
      : LineState) (x : LineData), s.passesOn tag code addr len data d = true ∧ d.path = .cached ∧ d.item.op = .flushLine ∧ s.lineFree
      d.line = true ∧ s.pinned d.line = false ∧ s.held d.line = some (w, st, x) ∧ st ≠ .altered) ∧
    (∃ (s : State) (tag : PTag) (code : BitVec 3) (addr : LocalAddr) (len : BitVec 6) (data : List Byte) (d : Decoded), s.passesOn tag
      code addr len data d = true ∧ d.path = .cached ∧ d.item.op = .flushLine ∧ s.lineFree d.line = true ∧ s.pinned d.line = false ∧
      s.held d.line = none) ∧
    (∃ (s : State) (tag : PTag) (code : BitVec 3) (addr : LocalAddr) (len : BitVec 6) (data : List Byte) (r : LocalReq) (d : Decoded),
      s.passesOn tag code addr len data d = true ∧ s.accepts tag code addr len data r = true ∧ d.path = .cached ∧ d.item.op = .flushLine
      ∧ s.findEntry d.line = none ∧ s.underAnswer d.line = false ∧ s.inTransit d.line = false ∧ s.pinned d.line = false ∧ s.findRq
      d.line ≠ none) ∧
    (∃ (s : State) (tag : PTag) (code : BitVec 3) (addr : LocalAddr) (len : BitVec 6) (data : List Byte) (r : LocalReq) (d : Decoded),
      s.passesOn tag code addr len data d = true ∧ s.accepts tag code addr len data r = true ∧ d.path = .cached ∧ d.item.op = .flushLine
      ∧ (s.findEntry d.line ≠ none ∨ s.underAnswer d.line = true ∨ s.inTransit d.line = true ∨ s.pinned d.line = true)) ∧
    (∃ (s : State) (tag : PTag) (code : BitVec 3) (addr : LocalAddr) (len : BitVec 6) (data : List Byte) (r : LocalReq) (d : Decoded)
      (w : WayNo) (x : LineData), s.passesOn tag code addr len data d = true ∧ s.accepts tag code addr len data r = true ∧ d.path =
      .cached ∧ d.item.op = .flushLine ∧ s.findRq d.line = none ∧ s.held d.line = some (w, .altered, x) ∧ s.rqFree = false) :=
  ⟨⟨(holding .altered w0), 3, 4, 0x40, 0, [], (passed (req 3 .flushLine 0x40 1) 2 .cached .cached), 0, x7, by decide +kernel⟩,
   ⟨(holding .copy w0), 3, 4, 0x40, 0, [], (passed (req 3 .flushLine 0x40 1) 2 .cached .cached), 0, .copy, x7, by decide +kernel⟩,
   ⟨w0, 3, 4, 0x40, 0, [], (passed (req 3 .flushLine 0x40 1) 2 .cached .cached), by decide +kernel⟩,
   ⟨(withRq [returningOf 5, returning [7], returningOf 6] w0), 3, 4, 0x40, 0, [], (req 3 .flushLine 0x40 1), (passed (req 3 .flushLine
    0x40 1) 2 .cached .cached), by decide +kernel⟩,
   ⟨(withEntry queuedFetch w0), 3, 4, 0x40, 0, [], (req 3 .flushLine 0x40 1), (passed (req 3 .flushLine 0x40 1) 2 .cached .cached),
    by decide +kernel⟩,
   ⟨(withRq [returningOf 5, returningOf 6, returningOf 7, returningOf 8] (holding .altered w0)), 3, 4, 0x40, 0, [], (req 3 .flushLine
    0x40 1), (passed (req 3 .flushLine 0x40 1) 2 .cached .cached), 0, x7, by decide +kernel⟩⟩

theorem witness_JoinOutcomes :
    (∃ (s : State) (tag : PTag), s.tagInUse tag = false ∧ s.ctl.mode ≠ .dormant) ∧
    (∃ (s : State) (tag : PTag), s.tagInUse tag = false ∧ s.ctl.mode = .dormant ∧ s.ctl.start.bad = true) ∧
    (∃ (s : State) (tag : PTag), s.tagInUse tag = false ∧ s.ctl.mode = .dormant ∧ s.ctl.start.bad = false ∧ s.ctl.roll.closed = false ∧
      s.ctl.roll.gap = false ∧ look s.ctl.roll.announced s.number = none ∧ s.ctl.roll.contested.has s.number = false) ∧
    (∃ (s : State) (tag : PTag), s.tagInUse tag = false ∧ s.ctl.mode = .dormant ∧ s.ctl.start.bad = false ∧ s.lpu.log.length < 8 ∧
      (s.ctl.roll.closed = true ∨ s.ctl.roll.gap = true)) ∧
    (∃ (s : State) (tag : PTag), s.tagInUse tag = false ∧ s.ctl.mode = .dormant ∧ s.ctl.start.bad = false ∧ s.lpu.log.length < 8 ∧
      s.ctl.roll.closed = false ∧ s.ctl.roll.gap = false ∧ ((look s.ctl.roll.announced s.number).isSome = true ∨
      s.ctl.roll.contested.has s.number = true)) :=
  ⟨⟨w0, 3, by decide +kernel⟩,
   ⟨(withPinLimit 0 State.reset), 3, by decide +kernel⟩,
   ⟨State.reset, 3, by decide +kernel⟩,
   ⟨(withRoll (closedRoll Roll.reset) State.reset), 3, by decide +kernel⟩,
   ⟨(withRoll { Roll.reset with contested := 1 } State.reset), 3, by decide +kernel⟩⟩

theorem witness_QuiesceAndResumeOutcomes :
    (∃ (s : State) (tag : PTag), s.tagInUse tag = false ∧ s.ctl.mode ≠ .operational) ∧
    (∃ (s : State) (tag : PTag), s.tagInUse tag = false ∧ s.ctl.mode = .operational) ∧
    (∃ (s : State) (tag : PTag), s.tagInUse tag = false ∧ s.ctl.mode = .operational ∧ s.still = true ∧ s.ret.walk = .notBegun ∧
      s.walkMayBegin = false) ∧
    (∃ (s : State) (tag : PTag), s.tagInUse tag = false ∧ (s.ctl.mode = .quiescing ∨ s.ctl.mode = .quiesced)) ∧
    (∃ (s : State) (tag : PTag), s.tagInUse tag = false ∧ s.ctl.mode ≠ .quiescing ∧ s.ctl.mode ≠ .quiesced) ∧
    (∃ (s : State) (r : LocalReq) (home : StationNo) (a : Access) (k : SegKind) (i : BitVec 4) (closed : Prop), (r.op = .flushLine ∨
      BitVec.toNat (offsetOfAddr r.addr) + r.len ≤ 64) ∧ s.segmentEntry (lineOfAddr r.addr) = .mapped home a k i ∧ a.permits r.op = true
      ∧ (¬((r.op = .pinnedRead ∨ r.op = .pinnedWrite) ∧ k = .direct)) ∧ (closed ↔ r.op = .pinnedRead ∨ home ≠ s.number ∧ ¬(r.op =
      .pinnedWrite ∧ ∃ p ∈ s.cache.pins, p.line = lineOfAddr r.addr)) ∧ closed ∧ s.ctl.mode = .quiescing) ∧
    (∃ (s : State) (r : LocalReq) (home : StationNo) (a : Access) (k : SegKind) (i : BitVec 4) (closed : Prop), (r.op = .flushLine ∨
      BitVec.toNat (offsetOfAddr r.addr) + r.len ≤ 64) ∧ s.segmentEntry (lineOfAddr r.addr) = .mapped home a k i ∧ a.permits r.op = true
      ∧ (¬((r.op = .pinnedRead ∨ r.op = .pinnedWrite) ∧ k = .direct)) ∧ (closed ↔ r.op = .pinnedRead ∨ home ≠ s.number ∧ ¬(r.op =
      .pinnedWrite ∧ ∃ p ∈ s.cache.pins, p.line = lineOfAddr r.addr)) ∧ closed ∧ s.ctl.mode = .quiesced) ∧
    (∃ (s : State) (r : LocalReq) (home : StationNo) (a : Access) (k : SegKind) (i : BitVec 4) (closed : Prop) (tag : PTag) (code :
      BitVec 3) (addr : LocalAddr) (len : BitVec 6) (data : List Byte), (r.op = .flushLine ∨ BitVec.toNat (offsetOfAddr r.addr) + r.len
      ≤ 64) ∧ s.segmentEntry (lineOfAddr r.addr) = .mapped home a k i ∧ a.permits r.op = true ∧ (¬((r.op = .pinnedRead ∨ r.op =
      .pinnedWrite) ∧ k = .direct)) ∧ (closed ↔ r.op = .pinnedRead ∨ home ≠ s.number ∧ ¬(r.op = .pinnedWrite ∧ ∃ p ∈ s.cache.pins,
      p.line = lineOfAddr r.addr)) ∧ s.accepts tag code addr len data r = true ∧ closed ∧ s.ctl.mode = .quiescing) ∧
    (∃ (s : State) (r : LocalReq) (home : StationNo) (a : Access) (k : SegKind) (i : BitVec 4) (closed : Prop) (tag : PTag) (code :
      BitVec 3) (addr : LocalAddr) (len : BitVec 6) (data : List Byte), (r.op = .flushLine ∨ BitVec.toNat (offsetOfAddr r.addr) + r.len
      ≤ 64) ∧ s.segmentEntry (lineOfAddr r.addr) = .mapped home a k i ∧ a.permits r.op = true ∧ (¬((r.op = .pinnedRead ∨ r.op =
      .pinnedWrite) ∧ k = .direct)) ∧ (closed ↔ r.op = .pinnedRead ∨ home ≠ s.number ∧ ¬(r.op = .pinnedWrite ∧ ∃ p ∈ s.cache.pins,
      p.line = lineOfAddr r.addr)) ∧ s.accepts tag code addr len data r = true ∧ closed ∧ s.ctl.mode = .quiesced) ∧
    (∃ (s : State) (r : LocalReq) (home : StationNo) (a : Access) (k : SegKind) (i : BitVec 4) (closed : Prop), (r.op = .flushLine ∨
      BitVec.toNat (offsetOfAddr r.addr) + r.len ≤ 64) ∧ s.segmentEntry (lineOfAddr r.addr) = .mapped home a k i ∧ a.permits r.op = true
      ∧ (¬((r.op = .pinnedRead ∨ r.op = .pinnedWrite) ∧ k = .direct)) ∧ (closed ↔ r.op = .pinnedRead ∨ home ≠ s.number ∧ ¬(r.op =
      .pinnedWrite ∧ ∃ p ∈ s.cache.pins, p.line = lineOfAddr r.addr)) ∧ (¬closed ∨ s.ctl.mode ≠ .quiescing ∧ s.ctl.mode ≠ .quiesced)) ∧
    (∃ (s : State) (tag : PTag) (r : LocalReq) (d : Decoded) (closed : Prop), s.tagInUse tag = false ∧ s.ctl.mode = .operational ∧
      s.calm = true ∧ s.lpu.lrq = [r] ∧ s.lpu.head = some d ∧ s.ret.walk = .notBegun ∧ s.walkMayBegin = false ∧ (closed ↔ d.item.op =
      .pinnedRead ∨ d.path ≠ .home ∧ d.home ≠ s.number ∧ ¬(d.item.op = .pinnedWrite ∧ ∃ p ∈ s.cache.pins, p.line = d.line)) ∧ closed) ∧
    (∃ (s : State) (tag : PTag) (r : LocalReq) (d : Decoded) (closed : Prop), s.tagInUse tag = false ∧ s.ctl.mode = .operational ∧
      s.calm = true ∧ s.lpu.lrq = [r] ∧ s.lpu.head = some d ∧ s.ret.walk = .notBegun ∧ s.walkMayBegin = false ∧ (closed ↔ d.item.op =
      .pinnedRead ∨ d.path ≠ .home ∧ d.home ≠ s.number ∧ ¬(d.item.op = .pinnedWrite ∧ ∃ p ∈ s.cache.pins, p.line = d.line)) ∧ (¬closed)) :=
  ⟨⟨State.reset, 3, by decide +kernel⟩,
   ⟨w0, 3, by decide +kernel⟩,
   ⟨(withPins [pinOf lR .remote] w0), 3, by decide +kernel⟩,
   ⟨(inMode .quiescing w0), 3, by decide +kernel⟩,
   ⟨w0, 3, by decide +kernel⟩,
   ⟨(inMode .quiescing w0), (req 3 .read 0x48 8), 2, .readWrite, .cached, 0, True, by decide +kernel⟩,
   ⟨(inMode .quiesced w0), (req 3 .read 0x48 8), 2, .readWrite, .cached, 0, True, by decide +kernel⟩,
   ⟨(inMode .quiescing (withPins [pinOf lR .remote] w0)), (req 3 .read 0x48 8), 2, .readWrite, .cached, 0, True, 3, 0, 0x48, 7, [],
    by decide +kernel⟩,
   ⟨(inMode .quiesced w0), (req 3 .read 0x48 8), 2, .readWrite, .cached, 0, True, 3, 0, 0x48, 7, [], by decide +kernel⟩,
   ⟨(inMode .quiescing (withPins [pinOf lR .remote] w0)), (req 3 .pinnedWrite 0x48 8), 2, .readWrite, .cached, 0, False,
    by decide +kernel⟩,
   ⟨(waitingHead (req 3 .read 0x48 8) (passed (req 3 .read 0x48 8) 2 .cached .cached) (withEntry (asKind .claim queuedFetch) w0)), 4,
    (req 3 .read 0x48 8), (passed (req 3 .read 0x48 8) 2 .cached .cached), True, by decide +kernel⟩,
   ⟨(waitingHead (req 3 .pinnedWrite 0x48 8) (passed (req 3 .pinnedWrite 0x48 8) 2 .cached .cached) (withPins [pinOf lR .remote] w0)),
    4, (req 3 .pinnedWrite 0x48 8), (passed (req 3 .pinnedWrite 0x48 8) 2 .cached .cached), False, by decide +kernel⟩⟩

theorem witness_FaultLogPopAndClear :
    (∃ (s : State) (tag : PTag) (r : FaultRecord) (rest : List FaultRecord), s.tagInUse tag = false ∧ s.lpu.log = r :: rest) ∧
    (∃ (s : State) (tag : PTag), s.tagInUse tag = false ∧ s.lpu.log = []) ∧
    (∃ (s : State) (tag : PTag), s.tagInUse tag = false) :=
  ⟨⟨(withLog 1 w0), 3, { kind := .lateJoin }, [], by decide +kernel⟩,
   ⟨w0, 3, by decide +kernel⟩,
   ⟨(withLog 8 w0), 3, by decide +kernel⟩⟩

theorem witness_StatusReadAndEventEnableWrite :
    (∃ (s : State) (tag : PTag), s.tagInUse tag = false ∧ s.lpu.log.length ≤ 8) ∧
    (∃ (s : State) (tag : PTag), s.tagInUse tag = false) :=
  ⟨⟨w0, 3, by decide +kernel⟩,
   ⟨w0, 3, by decide +kernel⟩⟩

theorem witness_StatusReadAndEventEnableWrite_line :
    ∃ (s t : State) (tag : PTag) (v : BitVec 64), s.tagInUse tag = false ∧ exec (.eventEnableWrite tag v) s = .next t :=
  ⟨withLog 1 w0, gave (oneResponse 3 .ok .none) (enabled (withLog 1 w0)), 3, 3, by decide +kernel, rfl⟩

theorem witness_ContentionOutcomes :
    (∃ (cs : List Contender), cs ≠ []) ∧
    (∃ (last : StationNo) (cs : List Contender) (w : Contender), winner last cs = some w) ∧
    (∃ (s : State), s.ctl.mode = .parked) ∧
    (∃ (s : State) (peers : List Contender) (own : Declared) (w : Contender), s.ctl.mode ≠ .parked ∧ s.bus.medium = .idle ∧ (winner
      s.bus.lastWinner ((match s.declares own with | some c => [{ number := s.number, cls := c }] | none => []) ++ peers) = some w) ∧
      w.number ≠ s.number) ∧
    (∃ (s : State) (peers : List Contender) (e : SqEntry) (rest : List SqEntry), s.ctl.mode.member = true ∧ s.bus.medium = .idle ∧
      s.bus.sq = e :: rest ∧ e.converting = false ∧ winner s.bus.lastWinner ({ number := s.number, cls := .data } :: peers) = some
      { number := s.number, cls := .data }) :=
  ⟨⟨[{ number := 2, cls := .request }, { number := 0, cls := .request }, { number := 9, cls := .data }], by decide +kernel⟩,
   ⟨15, [{ number := 2, cls := .request }, { number := 0, cls := .request }, { number := 9, cls := .data }],
    { number := 9, cls := .data }, by decide +kernel⟩,
   ⟨(inMode .parked w0), by decide +kernel⟩,
   ⟨w0, [{ number := 2, cls := .request }], .current, { number := 2, cls := .request }, by decide +kernel⟩,
   ⟨(withSq [sqEntry 0 false false] w0), [{ number := 0, cls := .request }], (sqEntry 0 false false), [], by decide +kernel⟩⟩

theorem witness_RequestContenderSendsHead :
    (∃ (s : State) (t : ReqTag) (e : PrtEntry) (i : Item) (rest : List Item), s.entry t = some e ∧ e.kind = .directRead ∧ e.waiting = i
      :: rest ∧ 1 ≤ i.len ∧ i.len ≤ 64) ∧
    (∃ (s : State) (t : ReqTag) (e : PrtEntry) (i : Item) (rest : List Item), s.entry t = some e ∧ e.kind = .directWrite ∧ e.waiting =
      i :: rest ∧ 1 ≤ i.len ∧ BitVec.toNat i.offset + i.len ≤ 64) ∧
    (∃ (s : State) (l : LineNo) (q : RqEntry), s.findRq l = some q) ∧
    (∃ (s : State), 1 ≤ s.ctl.start.expected.toNat ∧ s.ctl.start.expected.toNat ≤ 16) ∧
    (∃ (s : State), (s.ctl.mode = .operational ∨ s.ctl.mode = .quiescing ∨ s.ctl.mode = .quiesced) ∧ (∀ e ∈ s.bus.sq, e.converting =
      true)) ∧
    (∃ (s : State), (s.ctl.mode = .dormant ∨ s.ctl.mode = .isolated ∨ s.ctl.mode = .parked)) ∧
    (∃ (s : State), s.ctl.mode = .enrolling) ∧
    (∃ (s : State), (s.ctl.mode = .operational ∨ s.ctl.mode = .quiescing ∨ s.ctl.mode = .quiesced) ∧ (∃ e ∈ s.bus.sq, e.converting =
      false)) ∧
    (∃ (s : State) (peers : List Contender) (i : SendItem) (rest : List SendItem) (r : Request), s.ctl.mode ≠ .parked ∧ s.bus.medium =
      .idle ∧ s.contends = some .request ∧ s.bus.sendList = i :: rest ∧ s.itemMessage i = some r ∧ winner s.bus.lastWinner
      ({ number := s.number, cls := .request } :: peers) = some { number := s.number, cls := .request }) :=
  ⟨⟨(withEntry (PrtEntry.fresh .directRead lD none [item 3 .read] .request) w0), 0, (PrtEntry.fresh .directRead lD none [item 3 .read]
    .request), (item 3 .read), [], by decide +kernel⟩,
   ⟨(withEntry (PrtEntry.fresh .directWrite lD none [item 3 .write] .request) w0), 0, (PrtEntry.fresh .directWrite lD none [item 3
    .write] .request), (item 3 .write), [], by decide +kernel⟩,
   ⟨(withRq [returning []] w0), lR, (returning []), by decide +kernel⟩,
   ⟨State.reset, by decide +kernel⟩,
   ⟨w0, by decide +kernel⟩,
   ⟨State.reset, by decide +kernel⟩,
   ⟨enrolling, by decide +kernel⟩,
   ⟨(inMode .operational (withSend [.rq 9] (withSq [sqEntry 1 true true, sqEntry 0 false false] w0))), by decide +kernel⟩,
   ⟨(withSend [.prt 0, .rq 9] (withEntry queuedFetch w0)), [{ number := 9, cls := .request }], (.prt 0), [.rq 9], (.line .fetch 0 0
    lR), by decide +kernel⟩⟩

theorem witness_RequestMessageSoundOrDamaged :
    (∃ (bytes : List Byte) (hi : Byte) (lo : Byte), hi ++ lo ≠ crc16 bytes) ∧
    (∃ (header : Byte), BitVec.extractLsb' 5 3 header ≠ 0) ∧
    (∃ (bytes : List Byte) (n : StationNo) (r : Request), parseRequest bytes = some (n, r)) ∧
    (∃ (r : Request), r.wf = true) :=
  ⟨⟨[1, 2], 3, 4, by decide +kernel⟩,
   ⟨0x22, by decide +kernel⟩,
   ⟨(encodeRequest 2 (.ready 6)), 2, (.ready 6), by decide +kernel⟩,
   ⟨(.directRead 1 1 lD 0 63), by decide +kernel⟩⟩

theorem witness_DataMessageSoundOrDamaged :
    (∃ (bytes : List Byte) (hi : Byte) (lo : Byte), hi ++ lo ≠ crc16 bytes) ∧
    (∃ (header : Byte), BitVec.extractLsb' 5 3 header ≠ 0) ∧
    (∃ (bytes : List Byte) (n : StationNo) (m : DataMsg), parseData bytes = some (n, m)) ∧
    (∃ (m : DataMsg), m.wf = true) :=
  ⟨⟨[1, 2], 3, 4, by decide +kernel⟩,
   ⟨0x22, by decide +kernel⟩,
   ⟨(encodeData 2 dataMsg), 2, dataMsg, dataMsg_sound⟩,
   ⟨takeMsg, by decide +kernel⟩⟩

theorem witness_ArrivalByState :
    (∃ (s : State) (bytes : List Byte) (msg : Option (StationNo × Request)), s.bus.medium = .idle ∧ parseRequest bytes = msg ∧
      s.ctl.mode = .parked) ∧
    (∃ (s : State) (bytes : List Byte) (msg : Option (StationNo × Request)), s.bus.medium = .idle ∧ parseRequest bytes = msg ∧
      s.ctl.mode = .dormant) ∧
    (∃ (s : State) (bytes : List Byte) (msg : Option (StationNo × Request)), s.bus.medium = .idle ∧ parseRequest bytes = msg ∧
      s.ctl.mode = .dormant) ∧
    (∃ (s : State) (bytes : List Byte) (msg : Option (StationNo × Request)), s.bus.medium = .idle ∧ parseRequest bytes = msg ∧
      s.ctl.mode = .enrolling) ∧
    (∃ (s : State) (bytes : List Byte) (msg : Option (StationNo × Request)), s.bus.medium = .idle ∧ parseRequest bytes = msg ∧
      s.ctl.mode = .enrolling) ∧
    (∃ (s : State) (bytes : List Byte) (msg : Option (StationNo × Request)), s.bus.medium = .idle ∧ parseRequest bytes = msg ∧
      s.ctl.mode = .enrolling) ∧
    (∃ (s : State) (bytes : List Byte) (msg : Option (StationNo × Request)), s.bus.medium = .idle ∧ parseRequest bytes = msg ∧
      s.ctl.mode = .isolated) ∧
    (∃ (s : State) (bytes : List Byte) (msg : Option (StationNo × Request)), s.bus.medium = .idle ∧ parseRequest bytes = msg ∧
      s.ctl.mode.member = true) ∧
    (∃ (s : State) (bytes : List Byte) (msg : Option (StationNo × Request)), s.bus.medium = .idle ∧ parseRequest bytes = msg ∧
      s.ctl.mode.member = true) ∧
    (∃ (s : State) (bytes : List Byte) (msg : Option (StationNo × Request)), s.bus.medium = .idle ∧ parseRequest bytes = msg ∧
      s.ctl.mode.member = true) ∧
    (∃ (s : State) (bytes : List Byte) (msg : Option (StationNo × Request)), s.bus.medium = .idle ∧ parseRequest bytes = msg ∧
      s.ctl.mode.member = true) ∧
    (∃ (s : State) (homeTake : Bool), s.ctl.mode ≠ .parked ∧ s.bus.medium = .sent (OwnUnit.data homeTake)) ∧
    (∃ (s : State), s.ctl.mode = .parked) ∧
    (∃ (s : State), s.bus.medium = .idle ∧ s.ctl.mode = .dormant) ∧
    (∃ (s : State), s.bus.medium = .idle ∧ s.ctl.mode = .isolated) ∧
    (∃ (s : State) (bytes : List Byte), s.bus.medium = .idle ∧ parseData bytes = none ∧ (s.ctl.mode = .enrolling ∨ s.ctl.mode.member =
      true)) ∧
    (∃ (s : State) (bytes : List Byte) (n : StationNo) (m : DataMsg), s.bus.medium = .idle ∧ parseData bytes = some (n, m) ∧ s.ctl.mode
      = .enrolling ∧ s.lpu.log.length < 8) ∧
    (∃ (s : State) (bytes : List Byte) (n : StationNo) (m : DataMsg), s.bus.medium = .idle ∧ parseData bytes = some (n, m) ∧
      s.ctl.mode.member = true ∧ m.dest ≠ s.number ∧ s.still = true ∧ (s.homesLine m.line = false ∨ m.homeTake = false ∧ m.status ≠
      .abandoned)) :=
  ⟨⟨(inMode .parked w0), (encodeRequest 2 (.line .fetch 0 0 lR)), (some (2, .line .fetch 0 0 lR)), by decide +kernel⟩,
   ⟨State.reset, (encodeRequest 2 (.line .fetch 0 0 lR)), (some (2, .line .fetch 0 0 lR)), by decide +kernel⟩,
   ⟨State.reset, [], none, by decide +kernel⟩,
   ⟨enrolling, (encodeRequest 2 (.line .fetch 0 0 lR)), (some (2, .line .fetch 0 0 lR)), by decide +kernel⟩,
   ⟨enrolling, (encodeRequest 2 (.ready 6)), (some (2, .ready 6)), by decide +kernel⟩,
   ⟨enrolling, [], none, by decide +kernel⟩,
   ⟨(inMode .isolated w0), [], none, by decide +kernel⟩,
   ⟨w0, [], none, by decide +kernel⟩,
   ⟨w0, (encodeRequest 2 (.line .fetch 0 0 lR)), (some (2, .line .fetch 0 0 lR)), by decide +kernel⟩,
   ⟨w0, (encodeRequest 3 (.line .fetch 0 0 lR)), (some (3, .line .fetch 0 0 lR)), by decide +kernel⟩,
   ⟨w0, (encodeRequest 2 (.ready 6)), (some (2, .ready 6)), by decide +kernel⟩,
   ⟨(onBus (.sent (.data true)) w0), true, by decide +kernel⟩,
   ⟨(inMode .parked w0), by decide +kernel⟩,
   ⟨State.reset, by decide +kernel⟩,
   ⟨(inMode .isolated w0), by decide +kernel⟩,
   ⟨w0, [1, 2], by decide +kernel⟩,
   ⟨enrolling, (encodeData 2 dataMsg), 2, dataMsg, by decide +kernel, dataMsg_sound, by decide +kernel⟩,
   ⟨(withEntry awaitingFetch w0), (encodeData 2 thirdMsg), 2, thirdMsg, by decide +kernel, thirdMsg_sound, by decide +kernel⟩⟩

theorem witness_LineCacheSnoopTable :
    (∃ (s : State) (l : LineNo), s.held l = none) ∧
    (∃ (s : State) (l : LineNo) (w : WayNo) (x : LineData), s.held l = some (w, .copy, x)) ∧
    (∃ (s : State) (l : LineNo) (w : WayNo) (x : LineData) (st : LineState), st ∈ [.sole, .altered] ∧ s.held l = some (w, st, x) ∧
      s.pinned l = true) ∧
    (∃ (s : State) (l : LineNo) (w : WayNo) (x : LineData), s.held l = some (w, .sole, x) ∧ s.pinned l = false) ∧
    (∃ (s : State) (l : LineNo) (w : WayNo) (x : LineData), s.held l = some (w, .altered, x) ∧ s.pinned l = false ∧ s.bus.sq.length +
      s.sqHeld < 8) ∧
    (∃ (s : State) (l : LineNo) (w : WayNo) (x : LineData), s.held l = some (w, .altered, x) ∧ s.pinned l = false ∧ 8 ≤ s.bus.sq.length
      + s.sqHeld) :=
  ⟨⟨w0, lR, by decide +kernel⟩,
   ⟨(holding .copy w0), lR, 0, x7, by decide +kernel⟩,
   ⟨(withPins [pinOf lR .remote] (holding .sole w0)), lR, 0, x7, .sole, by decide +kernel⟩,
   ⟨(holding .sole w0), lR, 0, x7, by decide +kernel⟩,
   ⟨(withSq (List.replicate 7 (sqEntry 0 false false)) (holding .altered w0)), lR, 0, x7, by decide +kernel⟩,
   ⟨(withSq (List.replicate 8 (sqEntry 0 false false)) (holding .altered w0)), lR, 0, x7, by decide +kernel⟩⟩

theorem witness_RequestEngineSnoopTable :
    (∃ (e : PrtEntry), e.phase = .finishing) ∧
    (∃ (e : PrtEntry), e.kind = .fetch ∧ e.phase = .queued) ∧
    (∃ (e : PrtEntry), e.kind = .fetch ∧ e.phase = .awaitingData) ∧
    (∃ (e : PrtEntry), e.kind = .claim ∧ e.phase = .queued) ∧
    (∃ (e : PrtEntry), e.kind = .claim ∧ e.phase = .awaitingData) ∧
    (∃ (e : PrtEntry), e.kind = .promote ∧ e.phase = .queued) ∧
    (∃ (e : PrtEntry) (x : PrtKind), x ∈ [.directRead, .directWrite, .recall] ∧ e.kind = x ∧ e.phase ≠ .finishing) :=
  ⟨⟨owing, by decide +kernel⟩,
   ⟨queuedFetch, by decide +kernel⟩,
   ⟨awaitingFetch, by decide +kernel⟩,
   ⟨(asKind .claim queuedFetch), by decide +kernel⟩,
   ⟨(asKind .claim awaitingFetch), by decide +kernel⟩,
   ⟨queuedPromote, by decide +kernel⟩,
   ⟨(asKind .recall queuedFetch), .recall, by decide +kernel⟩⟩

theorem witness_StationAnswerIsStrongestJudgement :
    (∃ (s : State) (l : LineNo), s.findRq l = none) ∧
    (∃ (s : State) (l : LineNo) (k : LineKind), s.findRq l ≠ none ∧ k = .promote) ∧
    (∃ (s : State) (l : LineNo) (k : LineKind) (taken : ℕ), s.findRq l ≠ none ∧ k ≠ .promote ∧ s.bus.sq.length + s.sqHeld + taken < 8) ∧
    (∃ (s : State) (l : LineNo) (k : LineKind) (taken : ℕ), s.findRq l ≠ none ∧ k ≠ .promote ∧ 8 ≤ s.bus.sq.length + s.sqHeld + taken) ∧
    (∃ (s : State) (l : LineNo), s.findEntry l = none) :=
  ⟨⟨w0, lR, by decide +kernel⟩,
   ⟨(withRq [returning []] w0), lR, .promote, by decide +kernel⟩,
   ⟨(withRq [returning []] w0), lR, .fetch, 1, by decide +kernel⟩,
   ⟨(withRq [returning []] w0), lR, .fetch, 8, by decide +kernel⟩,
   ⟨w0, lR, by decide +kernel⟩⟩

theorem witness_CancelledWindowOutcomes :
    (∃ (s : State) (driven : Table (BitVec 3) 4) (w : Window) (n : StationNo) (r : Request), s.bus.medium = .answering w ∧ w.own = none
      ∧ w.msg = some (n, r) ∧ r.enrolment = false ∧ (combine driven w.drives = .void ∨ combine driven w.drives = .again) ∧
      s.noHeldExpiry = true ∧ ({ s with bus := { s.bus with medium := .idle } } : State).still = true) ∧
    (∃ (s : State) (driven : Table (BitVec 3) 4) (w : Window) (n : StationNo) (r : Request) (t : ReqTag) (e : PrtEntry), s.bus.medium =
      .answering w ∧ w.own = some (SendItem.prt t) ∧ w.msg = some (n, r) ∧ r.enrolment = false ∧ s.entry t = some e ∧ e.retry < 63 ∧
      (combine driven w.drives = .void ∨ combine driven w.drives = .again) ∧ s.noHeldExpiry = true ∧
      ({ s with bus := { s.bus with medium := .idle } } : State).still = true) ∧
    (∃ (s : State) (driven : Table (BitVec 3) 4) (w : Window) (n : StationNo) (r : Request) (t : ReqTag) (e : PrtEntry), s.bus.medium =
      .answering w ∧ w.own = some (SendItem.prt t) ∧ w.msg = some (n, r) ∧ r.enrolment = false ∧ s.entry t = some e ∧ 63 ≤ e.retry ∧
      (combine driven w.drives = .void ∨ combine driven w.drives = .again) ∧ s.noHeldExpiry = true ∧ s.lpu.log.length < 8 ∧
      s.home.wanted = [] ∧ ({ s with bus := { s.bus with medium := .idle } } : State).still = true ∧ s.ctl.mode ≠ .quiescing ∧
      e.follower = none) ∧
    (∃ (s : State) (driven : Table (BitVec 3) 4) (w : Window) (n : StationNo) (r : Request) (l : LineNo) (q : RqEntry), s.bus.medium =
      .answering w ∧ w.own = some (SendItem.rq l) ∧ w.msg = some (n, r) ∧ r.enrolment = false ∧ s.findRq l = some q ∧ (combine driven
      w.drives = .void ∨ combine driven w.drives = .again) ∧ s.noHeldExpiry = true ∧ ({ s with bus := { s.bus with medium := .idle } } :
      State).still = true) ∧
    (∃ (s : State) (driven : Table (BitVec 3) 4) (w : Window) (n : StationNo) (r : Request) (t : ReqTag) (e : PrtEntry) (f : Follower),
      s.bus.medium = .answering w ∧ w.own = some (SendItem.prt t) ∧ w.msg = some (n, r) ∧ r.enrolment = false ∧ s.entry t = some e ∧ 63
      ≤ e.retry ∧ (combine driven w.drives = .void ∨ combine driven w.drives = .again) ∧ s.noHeldExpiry = true ∧ s.lpu.log.length < 8 ∧
      s.home.wanted = [] ∧ ({ s with bus := { s.bus with medium := .idle } } : State).still = true ∧ s.ctl.mode ≠ .quiescing ∧
      e.follower = some f ∧ s.bus.sq.length < 8) ∧
    (∃ (s : State) (driven : Table (BitVec 3) 4) (w : Window) (n : StationNo) (r : Request) (t : ReqTag) (e : PrtEntry) (f : Follower),
      s.bus.medium = .answering w ∧ w.own = some (SendItem.prt t) ∧ w.msg = some (n, r) ∧ r.enrolment = false ∧ s.entry t = some e ∧ 63
      ≤ e.retry ∧ (combine driven w.drives = .void ∨ combine driven w.drives = .again) ∧ s.noHeldExpiry = true ∧ s.lpu.log.length < 8 ∧
      s.home.wanted = [] ∧ ({ s with bus := { s.bus with medium := .idle } } : State).still = true ∧ s.ctl.mode ≠ .quiescing ∧
      e.follower = some f ∧ 8 ≤ s.bus.sq.length) :=
  ⟨⟨(onBus (.answering (openWin 2 (.line .fetch 0 0 lR) none (some .clear))) w0), (driven 5), (openWin 2 (.line .fetch 0 0 lR) none
    (some .clear)), 2, (.line .fetch 0 0 lR), by decide +kernel⟩,
   ⟨(onBus (.answering (openWin 1 (.line .fetch 0 0 lR) (some (.prt 0)) none)) (withEntry (retried 62 queuedFetch) w0)), (driven 6),
    (openWin 1 (.line .fetch 0 0 lR) (some (.prt 0)) none), 1, (.line .fetch 0 0 lR), 0, (retried 62 queuedFetch), by decide +kernel⟩,
   ⟨(onBus (.answering (openWin 1 (.line .fetch 0 0 lR) (some (.prt 0)) none)) (withEntry (retried 63 queuedFetch) (w0.setWay lR 0
    (.reserved lR)))), (driven 6), (openWin 1 (.line .fetch 0 0 lR) (some (.prt 0)) none), 1, (.line .fetch 0 0 lR), 0, (retried 63
    queuedFetch), by decide +kernel⟩,
   ⟨(onBus (.answering (openWin 1 (.giveBack lR x7) (some (.rq lR)) none)) (withRq [returning [6]] w0)), (driven 6), (openWin 1
    (.giveBack lR x7) (some (.rq lR)) none), 1, (.giveBack lR x7), lR, (returning [6]), by decide +kernel⟩,
   ⟨(onBus (.answering (openWin 1 (.line .fetch 0 0 lR) (some (.prt 0)) none)) (withEntry (followed .fetch (retried 63 (listing [item 3
    .write, item 4 .read] (asKind .claim queuedFetch)))) (w0.setWay lR 0 (.reserved lR)))), (driven 6), (openWin 1 (.line .fetch 0 0 lR)
    (some (.prt 0)) none), 1, (.line .fetch 0 0 lR), 0, (followed .fetch (retried 63 (listing [item 3 .write, item 4 .read] (asKind
    .claim queuedFetch)))), { station := 2, tag := 5, gen := 1, kind := .fetch }, by decide +kernel⟩,
   ⟨(onBus (.answering (openWin 1 (.line .fetch 0 0 lR) (some (.prt 0)) none)) (withEntry (followed .fetch (retried 63 (listing [item 3
    .write, item 4 .read] (asKind .claim queuedFetch)))) (withSq (List.replicate 8 (sqEntry 0 false false)) (w0.setWay lR 0 (.reserved
    lR))))), (driven 6), (openWin 1 (.line .fetch 0 0 lR) (some (.prt 0)) none), 1, (.line .fetch 0 0 lR), 0, (followed .fetch (retried
    63 (listing [item 3 .write, item 4 .read] (asKind .claim queuedFetch)))), { station := 2, tag := 5, gen := 1, kind := .fetch },
    by decide +kernel⟩⟩

theorem witness_OwnRequestAwaitsData :
    (∃ (s : State) (driven : Table (BitVec 3) 4) (w : Window) (n : StationNo) (r : Request) (t : ReqTag) (e : PrtEntry) (v : WayNo),
      s.bus.medium = .answering w ∧ w.own = some (SendItem.prt t) ∧ w.msg = some (n, r) ∧ r.enrolment = false ∧ s.entry t = some e ∧
      e.kind = .promote ∧ e.way = some v ∧ (combine driven w.drives = .supply ∨ combine driven w.drives = .follow) ∧ s.noHeldExpiry =
      true ∧ ({ s with bus := { s.bus with medium := .idle } } : State).still = true ∧ s.ctl.mode ≠ .quiescing) ∧
    (∃ (s : State) (driven : Table (BitVec 3) 4) (w : Window) (n : StationNo) (r : Request) (t : ReqTag) (e : PrtEntry), s.bus.medium =
      .answering w ∧ w.own = some (SendItem.prt t) ∧ w.msg = some (n, r) ∧ r.enrolment = false ∧ s.entry t = some e ∧ (e.kind = .fetch ∨
      e.kind = .claim ∨ e.kind = .directRead ∨ e.kind = .recall ∧ (combine driven w.drives = .supply ∨ combine driven w.drives =
      .follow)) ∧ combine driven w.drives ≠ .void ∧ combine driven w.drives ≠ .again ∧ s.noHeldExpiry = true ∧
      ({ s with bus := { s.bus with medium := .idle } } : State).still = true) :=
  ⟨⟨(onBus (.answering (openWin 1 (.line .promote 0 0 lR) (some (.prt 0)) none)) (withEntry queuedPromote (holding .copy w0))), (driven
    4), (openWin 1 (.line .promote 0 0 lR) (some (.prt 0)) none), 1, (.line .promote 0 0 lR), 0, queuedPromote, 0, by decide +kernel⟩,
   ⟨(onBus (.answering (openWin 1 (.line .fetch 0 0 lR) (some (.prt 0)) none)) (withEntry queuedFetch w0)), (driven 1), (openWin 1
    (.line .fetch 0 0 lR) (some (.prt 0)) none), 1, (.line .fetch 0 0 lR), 0, queuedFetch, by decide +kernel⟩⟩

theorem witness_OwnRequestCompletesAtClose :
    (∃ (s : State) (driven : Table (BitVec 3) 4) (w : Window) (n : StationNo) (r : Request) (t : ReqTag) (e : PrtEntry) (i : Item),
      s.bus.medium = .answering w ∧ w.msg = some (n, r) ∧ r.enrolment = false ∧ combine driven w.drives ≠ .void ∧ combine driven
      w.drives ≠ .again ∧ s.noHeldExpiry = true ∧ s.home.wanted = [] ∧ ({ s with bus := { s.bus with medium := .idle } } : State).still
      = true ∧ s.ctl.mode ≠ .quiescing ∧ w.own = some (SendItem.prt t) ∧ s.entry t = some e ∧ e.kind = .directWrite ∧ e.waiting = [i]) ∧
    (∃ (s : State) (driven : Table (BitVec 3) 4) (w : Window) (n : StationNo) (r : Request) (t : ReqTag) (e : PrtEntry), s.bus.medium =
      .answering w ∧ w.msg = some (n, r) ∧ r.enrolment = false ∧ combine driven w.drives ≠ .void ∧ combine driven w.drives ≠ .again ∧
      s.noHeldExpiry = true ∧ s.home.wanted = [] ∧ ({ s with bus := { s.bus with medium := .idle } } : State).still = true ∧ s.ctl.mode
      ≠ .quiescing ∧ w.own = some (SendItem.prt t) ∧ s.entry t = some e ∧ e.kind = .recall ∧ (combine driven w.drives = .clear ∨ combine
      driven w.drives = .shared)) ∧
    (∃ (s : State) (driven : Table (BitVec 3) 4) (w : Window) (n : StationNo) (r : Request) (l : LineNo) (q : RqEntry), s.bus.medium =
      .answering w ∧ w.msg = some (n, r) ∧ r.enrolment = false ∧ combine driven w.drives ≠ .void ∧ combine driven w.drives ≠ .again ∧
      s.noHeldExpiry = true ∧ s.home.wanted = [] ∧ ({ s with bus := { s.bus with medium := .idle } } : State).still = true ∧ s.ctl.mode
      ≠ .quiescing ∧ w.own = some (SendItem.rq l) ∧ s.findRq l = some q ∧ (∀ e ∈ s.bus.sq, e.converting = false)) ∧
    (∃ (s : State) (driven : Table (BitVec 3) 4) (w : Window) (n : StationNo) (r : Request) (l : LineNo) (q : RqEntry), s.bus.medium =
      .answering w ∧ w.msg = some (n, r) ∧ r.enrolment = false ∧ combine driven w.drives ≠ .void ∧ combine driven w.drives ≠ .again ∧
      s.noHeldExpiry = true ∧ s.home.wanted = [] ∧ ({ s with bus := { s.bus with medium := .idle } } : State).still = true ∧ s.ctl.mode
      ≠ .quiescing ∧ w.own = some (SendItem.rq l) ∧ s.findRq l = some q ∧ (∃ e ∈ s.bus.sq, e.converting = true)) ∧
    (∃ (s : State) (driven : Table (BitVec 3) 4) (w : Window) (n : StationNo) (r : Request) (l : LineNo) (q : RqEntry) (before : List
      SqEntry) (after : List SqEntry) (e : SqEntry) (x : LineData), s.bus.medium = .answering w ∧ w.msg = some (n, r) ∧ r.enrolment =
      false ∧ combine driven w.drives ≠ .void ∧ combine driven w.drives ≠ .again ∧ s.noHeldExpiry = true ∧ s.home.wanted = [] ∧
      ({ s with bus := { s.bus with medium := .idle } } : State).still = true ∧ s.ctl.mode ≠ .quiescing ∧ w.own = some (SendItem.rq l) ∧
      s.findRq l = some q ∧ s.bus.sq = before ++ e :: after ∧ (∀ y ∈ before, y.converting = false) ∧ e.converting = true ∧ e.msg.data =
      some x ∧ (List.filter (fun y => y.line != l) s.ret.rq).length = 3 ∧ s.bus.askers = [] ∧ s.lpu.log.length < 8) ∧
    (∃ (s : State) (driven : Table (BitVec 3) 4) (w : Window) (n : StationNo) (r : Request) (t : ReqTag) (e : PrtEntry) (v : WayNo) (x
      : LineData) (q : Served), s.bus.medium = .answering w ∧ w.msg = some (n, r) ∧ r.enrolment = false ∧ combine driven w.drives ≠
      .void ∧ combine driven w.drives ≠ .again ∧ s.noHeldExpiry = true ∧ s.home.wanted = [] ∧
      ({ s with bus := { s.bus with medium := .idle } } : State).still = true ∧ s.ctl.mode ≠ .quiescing ∧ w.own = some (SendItem.prt t)
      ∧ s.entry t = some e ∧ e.kind = .promote ∧ e.way = some v ∧ s.wayAt e.line v = .holding e.line .copy x ∧ q = servedBy
      s.ctl.start.pinLimit e.line s.cache.pins x e.waiting ∧ (combine driven w.drives = .clear ∨ combine driven w.drives = .shared)) :=
  ⟨⟨(onBus (.answering (openWin 1 (.directWrite 0 0 lD 3 [9, 9]) (some (.prt 0)) none)) (withEntry (PrtEntry.fresh .directWrite lD none
    [item 3 .write] .request) w0)), (driven 0), (openWin 1 (.directWrite 0 0 lD 3 [9, 9]) (some (.prt 0)) none), 1, (.directWrite 0 0 lD
    3 [9, 9]), 0, (PrtEntry.fresh .directWrite lD none [item 3 .write] .request), (item 3 .write), by decide +kernel⟩,
   ⟨(onBus (.answering (openWin 1 (.line .recall 0 0 lH) (some (.prt 0)) none)) (withEntry (recalling [item 3 .write, item 4 .read])
    (exported (exportOf .soleOut .inFlight none) w0))), (driven 1), (openWin 1 (.line .recall 0 0 lH) (some (.prt 0)) none), 1, (.line
    .recall 0 0 lH), 0, (recalling [item 3 .write, item 4 .read]), by decide +kernel⟩,
   ⟨(onBus (.answering (openWin 1 (.giveBack lR x7) (some (.rq lR)) none)) (withTags 64 (withSend [.rq 9] (withRq [returning [6, 7]]
    w0)))), (driven 1), (openWin 1 (.giveBack lR x7) (some (.rq lR)) none), 1, (.giveBack lR x7), lR, (returning [6, 7]),
    by decide +kernel⟩,
   ⟨(onBus (.answering (openWin 1 (.giveBack lR x7) (some (.rq lR)) none)) (withSq [(sqEntry 0 false false), (sqFor 9 (sqEntry 1 true
    true))] (withSend [.rq 5, .rq 9] (withRq [returningOf 5, returning [6, 7], returningOf 7, returningOf 8] w0)))), (driven 1),
    (openWin 1 (.giveBack lR x7) (some (.rq lR)) none), 1, (.giveBack lR x7), lR, (returning [6, 7]), by decide +kernel⟩,
   ⟨(onBus (.answering (openWin 1 (.giveBack lR x7) (some (.rq lR)) none)) (withSq [(sqEntry 0 false false), (sqFor 9 (sqEntry 1 true
    true))] (withSend [.rq 5, .rq 9] (withRq [returningOf 5, returning [6, 7], returningOf 7, returningOf 8] w0)))), (driven 1),
    (openWin 1 (.giveBack lR x7) (some (.rq lR)) none), 1, (.giveBack lR x7), lR, (returning [6, 7]), [(sqEntry 0 false false)], [],
    (sqFor 9 (sqEntry 1 true true)), x7, by decide +kernel⟩,
   ⟨(onBus (.answering (openWin 1 (.line .promote 0 0 lR) (some (.prt 0)) none)) (withEntry (listing [item 3 .write, item 4 .read]
    queuedPromote) (holding .copy w0))), (driven 1), (openWin 1 (.line .promote 0 0 lR) (some (.prt 0)) none), 1, (.line .promote 0 0
    lR), 0, (listing [item 3 .write, item 4 .read] queuedPromote), 0, x7, (servedOf (holding .copy w0) (listing [item 3 .write, item 4
    .read] queuedPromote) x7), by decide +kernel⟩⟩

theorem witness_PeerRequestAppliedAtClose :
    (∃ (s : State) (driven : Table (BitVec 3) 4) (w : Window) (n : StationNo) (k : LineKind) (t : ReqTag) (g : Gen) (l : LineNo) (v :
      WayNo) (st : LineState) (x : LineData) (ch : CacheChange) (sup : Bool), s.bus.medium = .answering w ∧ w.own = none ∧ w.msg = some
      (n, .line k t g l) ∧ combine driven w.drives ≠ .void ∧ combine driven w.drives ≠ .again ∧ s.noHeldExpiry = true ∧
      ({ s with bus := { s.bus with medium := .idle } } : State).still = true ∧ s.ctl.mode ≠ .quiescing ∧ s.held l = some (v, st, x) ∧
      w.record = { Recorded.nothing with cache := ch, supply := sup }) ∧
    (∃ (s : State) (driven : Table (BitVec 3) 4) (w : Window) (n : StationNo) (k : LineKind) (t : ReqTag) (g : Gen) (l : LineNo) (q :
      RqEntry), s.bus.medium = .answering w ∧ w.own = none ∧ w.msg = some (n, .line k t g l) ∧ combine driven w.drives ≠ .void ∧ combine
      driven w.drives ≠ .again ∧ s.noHeldExpiry = true ∧ ({ s with bus := { s.bus with medium := .idle } } : State).still = true ∧
      s.ctl.mode ≠ .quiescing ∧ s.findRq l = some q ∧ w.record = { Recorded.nothing with takeover := true } ∧ (∀ e ∈ s.bus.sq,
      e.converting = false)) ∧
    (∃ (s : State) (driven : Table (BitVec 3) 4) (w : Window) (n : StationNo) (k : LineKind) (t : ReqTag) (g : Gen) (l : LineNo) (q :
      RqEntry), s.bus.medium = .answering w ∧ w.own = none ∧ w.msg = some (n, .line k t g l) ∧ combine driven w.drives ≠ .void ∧ combine
      driven w.drives ≠ .again ∧ s.noHeldExpiry = true ∧ ({ s with bus := { s.bus with medium := .idle } } : State).still = true ∧
      s.ctl.mode ≠ .quiescing ∧ s.findRq l = some q ∧ w.record = { Recorded.nothing with takeover := true } ∧ (∃ e ∈ s.bus.sq,
      e.converting = true)) ∧
    (∃ (s : State) (driven : Table (BitVec 3) 4) (w : Window) (n : StationNo) (k : LineKind) (t : ReqTag) (g : Gen) (l : LineNo) (u :
      ReqTag) (e : PrtEntry), s.bus.medium = .answering w ∧ w.own = none ∧ w.msg = some (n, .line k t g l) ∧ combine driven w.drives ≠
      .void ∧ combine driven w.drives ≠ .again ∧ s.noHeldExpiry = true ∧ ({ s with bus := { s.bus with medium := .idle } } :
      State).still = true ∧ s.ctl.mode ≠ .quiescing ∧ s.entry u = some e ∧ w.record = { Recorded.nothing with engine := .downgrade u }) ∧
    (∃ (s : State) (driven : Table (BitVec 3) 4) (w : Window) (n : StationNo) (k : LineKind) (t : ReqTag) (g : Gen) (l : LineNo) (u :
      ReqTag) (e : PrtEntry), s.bus.medium = .answering w ∧ w.own = none ∧ w.msg = some (n, .line k t g l) ∧ combine driven w.drives ≠
      .void ∧ combine driven w.drives ≠ .again ∧ s.noHeldExpiry = true ∧ ({ s with bus := { s.bus with medium := .idle } } :
      State).still = true ∧ s.ctl.mode ≠ .quiescing ∧ s.entry u = some e ∧ w.record = { Recorded.nothing with engine := .drop u }) ∧
    (∃ (s : State) (driven : Table (BitVec 3) 4) (w : Window) (n : StationNo) (k : LineKind) (t : ReqTag) (g : Gen) (l : LineNo) (u :
      ReqTag) (e : PrtEntry) (v : WayNo) (x : LineData), s.bus.medium = .answering w ∧ w.own = none ∧ w.msg = some (n, .line k t g l) ∧
      combine driven w.drives ≠ .void ∧ combine driven w.drives ≠ .again ∧ s.noHeldExpiry = true ∧
      ({ s with bus := { s.bus with medium := .idle } } : State).still = true ∧ s.ctl.mode ≠ .quiescing ∧ s.entry u = some e ∧ e.line =
      l ∧ e.way = some v ∧ s.held l = some (v, .copy, x) ∧ w.record = { Recorded.nothing with cache := .toVacant, engine := .convert u }) ∧
    (∃ (s : State) (driven : Table (BitVec 3) 4) (w : Window) (n : StationNo) (k : LineKind) (t : ReqTag) (g : Gen) (l : LineNo) (u :
      ReqTag) (e : PrtEntry), s.bus.medium = .answering w ∧ w.own = none ∧ w.msg = some (n, .line k t g l) ∧ combine driven w.drives ≠
      .void ∧ combine driven w.drives ≠ .again ∧ s.noHeldExpiry = true ∧ ({ s with bus := { s.bus with medium := .idle } } :
      State).still = true ∧ s.ctl.mode ≠ .quiescing ∧ s.entry u = some e ∧ w.record = { Recorded.nothing with engine := .follow u }) :=
  ⟨⟨(onBus (.answering (noting { Recorded.nothing with cache := .toVacant, supply := true } (openWin 2 (.line .claim 5 1 lR) none
    none))) (holding .altered w0)), (driven 3), (noting { Recorded.nothing with cache := .toVacant, supply := true } (openWin 2 (.line
    .claim 5 1 lR) none none)), 2, .claim, 5, 1, lR, 0, .altered, x7, .toVacant, true, by decide +kernel⟩,
   ⟨(onBus (.answering (noting { Recorded.nothing with takeover := true } (openWin 2 (.line .fetch 5 1 lR) none none))) (withSend [.rq
    lR] (withRq [returning [6]] w0))), (driven 3), (noting { Recorded.nothing with takeover := true } (openWin 2 (.line .fetch 5 1 lR)
    none none)), 2, .fetch, 5, 1, lR, (returning [6]), by decide +kernel⟩,
   ⟨(onBus (.answering (noting { Recorded.nothing with takeover := true } (openWin 2 (.line .fetch 5 1 lR) none none))) (withSq
    [(sqEntry 0 false false), (sqFor 9 (sqEntry 1 true true))] (withSend [.rq lR] (withRq [returningOf 5, returning [6, 7], returningOf
    7, returningOf 8] w0)))), (driven 3), (noting { Recorded.nothing with takeover := true } (openWin 2 (.line .fetch 5 1 lR) none
    none)), 2, .fetch, 5, 1, lR, (returning [6, 7]), by decide +kernel⟩,
   ⟨(onBus (.answering (noting { Recorded.nothing with engine := .downgrade 0 } (openWin 2 (.line .fetch 5 1 lR) none none)))
    (withEntry awaitingFetch w0)), (driven 2), (noting { Recorded.nothing with engine := .downgrade 0 } (openWin 2 (.line .fetch 5 1 lR)
    none none)), 2, .fetch, 5, 1, lR, 0, awaitingFetch, by decide +kernel⟩,
   ⟨(onBus (.answering (noting { Recorded.nothing with engine := .drop 0 } (openWin 2 (.line .claim 5 1 lR) none none))) (withEntry
    awaitingFetch w0)), (driven 1), (noting { Recorded.nothing with engine := .drop 0 } (openWin 2 (.line .claim 5 1 lR) none none)), 2,
    .claim, 5, 1, lR, 0, awaitingFetch, by decide +kernel⟩,
   ⟨(onBus (.answering (noting { Recorded.nothing with cache := .toVacant, engine := .convert 0 } (openWin 2 (.line .claim 5 1 lR) none
    none))) (withEntry queuedPromote (holding .copy w0))), (driven 2), (noting
    { Recorded.nothing with cache := .toVacant, engine := .convert 0 } (openWin 2 (.line .claim 5 1 lR) none none)), 2, .claim, 5, 1,
    lR, 0, queuedPromote, 0, x7, by decide +kernel⟩,
   ⟨(onBus (.answering (noting { Recorded.nothing with engine := .follow 0 } (openWin 2 (.line .fetch 5 1 lR) none none))) (withEntry
    (asKind .claim awaitingFetch) w0)), (driven 4), (noting { Recorded.nothing with engine := .follow 0 } (openWin 2 (.line .fetch 5 1
    lR) none none)), 2, .fetch, 5, 1, lR, 0, (asKind .claim awaitingFetch), by decide +kernel⟩⟩

theorem witness_HomeAppliesAtClose :
    (∃ (s : State) (driven : Table (BitVec 3) 4) (w : Window) (n : StationNo) (r : Request) (l : LineNo) (c : AnswerCode) (d :
      LineData), s.bus.medium = .answering w ∧ w.own = none ∧ w.msg = some (n, r) ∧ w.record =
      { Recorded.nothing with home := true, homeHold := w.record.homeHold } ∧ combine driven w.drives = c ∧ c ≠ .void ∧ c ≠ .again ∧
      s.noHeldExpiry = true ∧ ({ s with bus := { s.bus with medium := .idle } } : State).still = true ∧ r = .giveBack l d ∧
      (s.findExport l = none ∨ ∃ x, s.findExport l = some x ∧ x.state = .inFlight)) ∧
    (∃ (s : State) (driven : Table (BitVec 3) 4) (w : Window) (n : StationNo) (r : Request) (l : LineNo) (c : AnswerCode) (d :
      LineData) (x : ExportEntry), s.bus.medium = .answering w ∧ w.own = none ∧ w.msg = some (n, r) ∧ w.record =
      { Recorded.nothing with home := true, homeHold := w.record.homeHold } ∧ combine driven w.drives = c ∧ c ≠ .void ∧ c ≠ .again ∧
      s.noHeldExpiry = true ∧ ({ s with bus := { s.bus with medium := .idle } } : State).still = true ∧ r = .giveBack l d ∧ s.findExport
      l = some x ∧ x.cls = .soleOut ∧ x.state ≠ .inFlight) ∧
    (∃ (s : State) (driven : Table (BitVec 3) 4) (w : Window) (n : StationNo) (r : Request) (l : LineNo) (c : AnswerCode) (d :
      LineData) (x : ExportEntry), s.bus.medium = .answering w ∧ w.own = none ∧ w.msg = some (n, r) ∧ w.record =
      { Recorded.nothing with home := true, homeHold := w.record.homeHold } ∧ combine driven w.drives = c ∧ c ≠ .void ∧ c ≠ .again ∧
      s.noHeldExpiry = true ∧ ({ s with bus := { s.bus with medium := .idle } } : State).still = true ∧ r = .giveBack l d ∧ s.findExport
      l = some x ∧ x.cls = .sharedOut ∧ x.state ≠ .inFlight ∧ (s.home.wanted = [] ∨ s.freeTag = none)) ∧
    (∃ (s : State) (driven : Table (BitVec 3) 4) (w : Window) (n : StationNo) (r : Request) (l : LineNo) (c : AnswerCode) (t : ReqTag)
      (g : Gen), s.bus.medium = .answering w ∧ w.own = none ∧ w.msg = some (n, r) ∧ w.record =
      { Recorded.nothing with home := true, homeHold := w.record.homeHold } ∧ combine driven w.drives = c ∧ c ≠ .void ∧ c ≠ .again ∧
      s.noHeldExpiry = true ∧ ({ s with bus := { s.bus with medium := .idle } } : State).still = true ∧ l ∉ s.home.wanted ∧ r = .line
      .fetch t g l ∧ c = .clear) ∧
    (∃ (s : State) (driven : Table (BitVec 3) 4) (w : Window) (n : StationNo) (r : Request) (l : LineNo) (c : AnswerCode) (t : ReqTag)
      (g : Gen), s.bus.medium = .answering w ∧ w.own = none ∧ w.msg = some (n, r) ∧ w.record =
      { Recorded.nothing with home := true, homeHold := w.record.homeHold } ∧ combine driven w.drives = c ∧ c ≠ .void ∧ c ≠ .again ∧
      s.noHeldExpiry = true ∧ ({ s with bus := { s.bus with medium := .idle } } : State).still = true ∧ l ∉ s.home.wanted ∧ r = .line
      .fetch t g l ∧ c = .shared) ∧
    (∃ (s : State) (driven : Table (BitVec 3) 4) (w : Window) (n : StationNo) (r : Request) (l : LineNo) (c : AnswerCode) (t : ReqTag)
      (g : Gen), s.bus.medium = .answering w ∧ w.own = none ∧ w.msg = some (n, r) ∧ w.record =
      { Recorded.nothing with home := true, homeHold := w.record.homeHold } ∧ combine driven w.drives = c ∧ c ≠ .void ∧ c ≠ .again ∧
      s.noHeldExpiry = true ∧ ({ s with bus := { s.bus with medium := .idle } } : State).still = true ∧ l ∉ s.home.wanted ∧ r = .line
      .fetch t g l ∧ (c = .supply ∨ c = .follow)) ∧
    (∃ (s : State) (driven : Table (BitVec 3) 4) (w : Window) (n : StationNo) (r : Request) (l : LineNo) (c : AnswerCode) (t : ReqTag)
      (g : Gen), s.bus.medium = .answering w ∧ w.own = none ∧ w.msg = some (n, r) ∧ w.record =
      { Recorded.nothing with home := true, homeHold := w.record.homeHold } ∧ combine driven w.drives = c ∧ c ≠ .void ∧ c ≠ .again ∧
      s.noHeldExpiry = true ∧ ({ s with bus := { s.bus with medium := .idle } } : State).still = true ∧ l ∉ s.home.wanted ∧ r = .line
      .claim t g l ∧ (c = .clear ∨ c = .shared)) ∧
    (∃ (s : State) (driven : Table (BitVec 3) 4) (w : Window) (n : StationNo) (r : Request) (l : LineNo) (c : AnswerCode) (t : ReqTag)
      (g : Gen), s.bus.medium = .answering w ∧ w.own = none ∧ w.msg = some (n, r) ∧ w.record =
      { Recorded.nothing with home := true, homeHold := w.record.homeHold } ∧ combine driven w.drives = c ∧ c ≠ .void ∧ c ≠ .again ∧
      s.noHeldExpiry = true ∧ ({ s with bus := { s.bus with medium := .idle } } : State).still = true ∧ l ∉ s.home.wanted ∧ r = .line
      .claim t g l ∧ (c = .supply ∨ c = .follow)) ∧
    (∃ (s : State) (driven : Table (BitVec 3) 4) (w : Window) (n : StationNo) (r : Request) (l : LineNo) (c : AnswerCode) (t : ReqTag)
      (g : Gen), s.bus.medium = .answering w ∧ w.own = none ∧ w.msg = some (n, r) ∧ w.record =
      { Recorded.nothing with home := true, homeHold := w.record.homeHold } ∧ combine driven w.drives = c ∧ c ≠ .void ∧ c ≠ .again ∧
      s.noHeldExpiry = true ∧ ({ s with bus := { s.bus with medium := .idle } } : State).still = true ∧ l ∉ s.home.wanted ∧ r = .line
      .promote t g l) ∧
    (∃ (s : State) (driven : Table (BitVec 3) 4) (w : Window) (n : StationNo) (r : Request) (l : LineNo) (c : AnswerCode) (t : ReqTag)
      (g : Gen) (off : Offset) (len : BitVec 6), s.bus.medium = .answering w ∧ w.own = none ∧ w.msg = some (n, r) ∧ w.record =
      { Recorded.nothing with home := true, homeHold := w.record.homeHold } ∧ combine driven w.drives = c ∧ c ≠ .void ∧ c ≠ .again ∧
      s.noHeldExpiry = true ∧ ({ s with bus := { s.bus with medium := .idle } } : State).still = true ∧ r = .directRead t g l off len) ∧
    (∃ (s : State) (driven : Table (BitVec 3) 4) (w : Window) (n : StationNo) (r : Request) (l : LineNo) (c : AnswerCode) (t : ReqTag)
      (g : Gen) (mask : BitVec 64) (bs : List Byte), s.bus.medium = .answering w ∧ w.own = none ∧ w.msg = some (n, r) ∧ w.record =
      { Recorded.nothing with home := true, homeHold := w.record.homeHold } ∧ combine driven w.drives = c ∧ c ≠ .void ∧ c ≠ .again ∧
      s.noHeldExpiry = true ∧ ({ s with bus := { s.bus with medium := .idle } } : State).still = true ∧ r = .directWrite t g l mask bs) :=
  ⟨⟨(onBus (.answering (noting (homeClear true) (openWin 2 (.giveBack lH x7) none (some .clear)))) w0), (driven 1), (noting (homeClear
    true) (openWin 2 (.giveBack lH x7) none (some .clear))), 2, (.giveBack lH x7), lH, .clear, x7, by decide +kernel⟩,
   ⟨(onBus (.answering (noting (homeClear true) (openWin 2 (.giveBack lH x7) none (some .clear)))) (exported (exportOf .soleOut .none
    none) w0)), (driven 1), (noting (homeClear true) (openWin 2 (.giveBack lH x7) none (some .clear))), 2, (.giveBack lH x7), lH,
    .clear, x7, (exportOf .soleOut .none none), by decide +kernel⟩,
   ⟨(onBus (.answering (noting (homeClear true) (openWin 2 (.giveBack lH x7) none (some .clear)))) (exported (exportOf .sharedOut .none
    (some 256)) w0)), (driven 1), (noting (homeClear true) (openWin 2 (.giveBack lH x7) none (some .clear))), 2, (.giveBack lH x7), lH,
    .clear, x7, (exportOf .sharedOut .none (some 256)), by decide +kernel⟩,
   ⟨(onBus (.answering (noting (homeClear true) (openWin 2 (.line .fetch 5 1 lH) none (some .clear)))) w0), (driven 1), (noting
    (homeClear true) (openWin 2 (.line .fetch 5 1 lH) none (some .clear))), 2, (.line .fetch 5 1 lH), lH, .clear, 5, 1,
    by decide +kernel⟩,
   ⟨(onBus (.answering (noting (homeClear true) (openWin 2 (.line .fetch 5 1 lH) none (some .clear)))) w0), (driven 2), (noting
    (homeClear true) (openWin 2 (.line .fetch 5 1 lH) none (some .clear))), 2, (.line .fetch 5 1 lH), lH, .shared, 5, 1,
    by decide +kernel⟩,
   ⟨(onBus (.answering (noting (homeClear true) (openWin 2 (.line .fetch 5 1 lH) none (some .clear)))) w0), (driven 3), (noting
    (homeClear true) (openWin 2 (.line .fetch 5 1 lH) none (some .clear))), 2, (.line .fetch 5 1 lH), lH, .supply, 5, 1,
    by decide +kernel⟩,
   ⟨(onBus (.answering (noting (homeClear true) (openWin 2 (.line .claim 5 1 lH) none (some .clear)))) w0), (driven 1), (noting
    (homeClear true) (openWin 2 (.line .claim 5 1 lH) none (some .clear))), 2, (.line .claim 5 1 lH), lH, .clear, 5, 1,
    by decide +kernel⟩,
   ⟨(onBus (.answering (noting (homeClear true) (openWin 2 (.line .claim 5 1 lH) none (some .clear)))) w0), (driven 4), (noting
    (homeClear true) (openWin 2 (.line .claim 5 1 lH) none (some .clear))), 2, (.line .claim 5 1 lH), lH, .follow, 5, 1,
    by decide +kernel⟩,
   ⟨(onBus (.answering (noting (homeClear false) (openWin 2 (.line .promote 5 1 lH) none (some .clear)))) (exported (exportOf
    .sharedOut .none none) w0)), (driven 2), (noting (homeClear false) (openWin 2 (.line .promote 5 1 lH) none (some .clear))), 2,
    (.line .promote 5 1 lH), lH, .shared, 5, 1, by decide +kernel⟩,
   ⟨(onBus (.answering (noting (homeClear true) (openWin 2 (.directRead 5 1 lH 0 7) none (some .clear)))) (working (.absorbWrite lH x7)
    w0)), (driven 1), (noting (homeClear true) (openWin 2 (.directRead 5 1 lH 0 7) none (some .clear))), 2, (.directRead 5 1 lH 0 7),
    lH, .clear, 5, 1, 0, 7, by decide +kernel⟩,
   ⟨(onBus (.answering (noting (homeClear true) (openWin 2 (.directWrite 5 1 lH 3 [1, 2]) none (some .clear)))) w0), (driven 1),
    (noting (homeClear true) (openWin 2 (.directWrite 5 1 lH 3 [1, 2]) none (some .clear))), 2, (.directWrite 5 1 lH 3 [1, 2]), lH,
    .clear, 5, 1, 3, [1, 2], by decide +kernel⟩⟩

theorem witness_AnnounceCloseRecords :
    (∃ (s : State) (driven : Table (BitVec 3) 4) (w : Window) (n : StationNo) (f : BitVec 4) (c : Claim), s.bus.medium = .answering w ∧
      w.own = none ∧ w.msg = some (n, .announce f [c]) ∧ combine driven w.drives = .clear ∧ s.ctl.mode = .dormant ∧ s.ctl.roll.closed =
      false ∧ s.ctl.roll.contested.has n = false ∧ look s.ctl.roll.announced n = none ∧ look s.ctl.roll.claims c.segment =
      ClaimState.unclaimed ∧ ({ s with bus := { s.bus with medium := .idle } } : State).still = true) ∧
    (∃ (s : State) (driven : Table (BitVec 3) 4) (w : Window) (n : StationNo) (f : BitVec 4) (cs : List Claim) (i : SendItem),
      s.bus.medium = .answering w ∧ w.msg = some (n, .announce f cs) ∧ ({ s with bus := { s.bus with medium := .idle } } : State).still
      = true ∧ (combine driven w.drives = .void ∨ combine driven w.drives = .again) ∧ w.own = some i ∧ s.ctl.mode = .enrolling) ∧
    (∃ (s : State) (driven : Table (BitVec 3) 4) (w : Window) (n : StationNo) (f : BitVec 4) (cs : List Claim), s.bus.medium =
      .answering w ∧ w.msg = some (n, .announce f cs) ∧ ({ s with bus := { s.bus with medium := .idle } } : State).still = true ∧
      (combine driven w.drives = .void ∨ combine driven w.drives = .again) ∧ (w.own = none ∨ s.ctl.mode ≠ .enrolling)) ∧
    (∃ (s : State) (driven : Table (BitVec 3) 4) (w : Window) (n : StationNo) (f : BitVec 4) (cs : List Claim), s.bus.medium =
      .answering w ∧ w.msg = some (n, .announce f cs) ∧ ({ s with bus := { s.bus with medium := .idle } } : State).still = true ∧
      combine driven w.drives = .clear ∧ (s.ctl.mode ≠ .dormant ∧ s.ctl.mode ≠ .enrolling ∨ s.ctl.mode = .dormant ∧ s.ctl.roll.closed =
      true ∨ s.ctl.mode = .enrolling ∧ s.ctl.roll.closed = true ∧ s.bus.latePeers.has n = true ∨ s.ctl.roll.closed = false ∧
      s.ctl.roll.contested.has n = true)) ∧
    (∃ (s : State) (driven : Table (BitVec 3) 4) (w : Window) (n : StationNo) (f : BitVec 4) (cs : List Claim), s.bus.medium =
      .answering w ∧ w.msg = some (n, .announce f cs) ∧ ({ s with bus := { s.bus with medium := .idle } } : State).still = true ∧
      combine driven w.drives = .clear ∧ s.ctl.mode = .enrolling ∧ s.ctl.roll.closed = true ∧ s.bus.latePeers.has n = false ∧
      s.lpu.log.length < 8) ∧
    (∃ (s : State) (driven : Table (BitVec 3) 4) (w : Window) (n : StationNo) (f : BitVec 4) (cs : List Claim), s.bus.medium =
      .answering w ∧ w.msg = some (n, .announce f cs) ∧ ({ s with bus := { s.bus with medium := .idle } } : State).still = true ∧
      combine driven w.drives = .clear ∧ s.ctl.roll.closed = false ∧ s.ctl.roll.contested.has n = false ∧ s.ctl.mode = .enrolling ∧ n =
      s.number ∧ w.own = none ∧ s.lpu.log.length < 8) ∧
    (∃ (s : State) (driven : Table (BitVec 3) 4) (w : Window) (n : StationNo) (f : BitVec 4) (cs : List Claim), s.bus.medium =
      .answering w ∧ w.msg = some (n, .announce f cs) ∧ ({ s with bus := { s.bus with medium := .idle } } : State).still = true ∧
      combine driven w.drives = .clear ∧ s.ctl.roll.closed = false ∧ s.ctl.roll.contested.has n = false ∧ (s.ctl.mode = .dormant ∨
      s.ctl.mode = .enrolling ∧ ¬(n = s.number ∧ w.own = none)) ∧ look s.ctl.roll.announced n ≠ none) ∧
    (∃ (s : State) (driven : Table (BitVec 3) 4) (w : Window) (n : StationNo) (f : BitVec 4) (cs : List Claim) (t : State),
      s.bus.medium = .answering w ∧ w.msg = some (n, .announce f cs) ∧ ({ s with bus := { s.bus with medium := .idle } } : State).still
      = true ∧ combine driven w.drives = .clear ∧ s.ctl.roll.closed = false ∧ s.ctl.roll.contested.has n = false ∧ (s.ctl.mode =
      .dormant ∨ s.ctl.mode = .enrolling ∧ ¬(n = s.number ∧ w.own = none)) ∧ look s.ctl.roll.announced n = none ∧ t =
      ({ s with ctl.roll.announced := put s.ctl.roll.announced n (some (f.toNat + 1)), bus.medium := .idle, out := noOutput } :
      State).applyClaims n 0 cs) ∧
    (∃ (s : State) (c : Claim), look s.ctl.roll.claims c.segment = ClaimState.unclaimed) ∧
    (∃ (s : State) (c : Claim), look s.ctl.roll.claims c.segment = ClaimState.contested) ∧
    (∃ (s : State) (c : Claim) (h0 : StationNo) (a : Access) (k : SegKind) (j : BitVec 4), look s.ctl.roll.claims c.segment =
      ClaimState.claimed h0 a k j ∧ s.ctl.mode ≠ .enrolling) ∧
    (∃ (s : State) (c : Claim) (h0 : StationNo) (a : Access) (k : SegKind) (j : BitVec 4), look s.ctl.roll.claims c.segment =
      ClaimState.claimed h0 a k j ∧ s.ctl.mode = .enrolling ∧ s.lpu.log.length < 8) ∧
    (∃ (s : State) (trigger : Prop), (trigger ↔ s.ctl.mode = .enrolling ∧ s.ctl.roll.ownAnnounce = true ∧ s.ctl.roll.readyQueued =
      false ∧ (s.targetCount ≤ s.ctl.roll.validSet.count ∨ s.ctl.roll.limitPassed = true ∨ s.ctl.roll.closed = true)) ∧ trigger) ∧
    (∃ (s : State) (trigger : Prop), (trigger ↔ s.ctl.mode = .enrolling ∧ s.ctl.roll.ownAnnounce = true ∧ s.ctl.roll.readyQueued =
      false ∧ (s.targetCount ≤ s.ctl.roll.validSet.count ∨ s.ctl.roll.limitPassed = true ∨ s.ctl.roll.closed = true)) ∧ (¬trigger)) ∧
    (∃ (s : State) (trigger : Prop), (trigger ↔ s.ctl.mode = .enrolling ∧ s.ctl.roll.ownAnnounce = true ∧ s.ctl.roll.readyQueued =
      false ∧ (s.targetCount ≤ s.ctl.roll.validSet.count ∨ s.ctl.roll.limitPassed = true ∨ s.ctl.roll.closed = true))) ∧
    (∃ (s : State) (trigger : Prop), (trigger ↔ s.ctl.mode = .enrolling ∧ s.ctl.roll.ownAnnounce = true ∧ s.ctl.roll.readyQueued =
      false ∧ (s.targetCount ≤ s.ctl.roll.validSet.count ∨ s.ctl.roll.limitPassed = true ∨ s.ctl.roll.closed = true))) :=
  ⟨⟨(onBus (.answering (openWin 2 (.announce 1 [{ segment := 0, access := .readWrite, kind := .cached }]) none none)) State.reset),
    (driven 1), (openWin 2 (.announce 1 [{ segment := 0, access := .readWrite, kind := .cached }]) none none), 2, 1,
    { segment := 0, access := .readWrite, kind := .cached }, by decide +kernel⟩,
   ⟨(onBus (.answering (openWin 1 (.announce 1 []) (some .announce) none)) (emptyRoll enrolling)), (driven 6), (openWin 1 (.announce 1
    []) (some .announce) none), 1, 1, [], .announce, by decide +kernel⟩,
   ⟨(onBus (.answering (openWin 2 (.announce 1 [{ segment := 0, access := .readWrite, kind := .cached }]) none none)) State.reset),
    (driven 6), (openWin 2 (.announce 1 [{ segment := 0, access := .readWrite, kind := .cached }]) none none), 2, 1,
    [{ segment := 0, access := .readWrite, kind := .cached }], by decide +kernel⟩,
   ⟨(onBus (.answering (openWin 3 (.announce 1 [{ segment := 0, access := .readWrite, kind := .cached }]) none none)) w0), (driven 1),
    (openWin 3 (.announce 1 [{ segment := 0, access := .readWrite, kind := .cached }]) none none), 3, 1,
    [{ segment := 0, access := .readWrite, kind := .cached }], by decide +kernel⟩,
   ⟨(onBus (.answering (openWin 3 (.announce 1 [{ segment := 0, access := .readWrite, kind := .cached }]) none none)) (withRoll
    (closedRoll enrolling.ctl.roll) enrolling)), (driven 1), (openWin 3 (.announce 1
    [{ segment := 0, access := .readWrite, kind := .cached }]) none none), 3, 1,
    [{ segment := 0, access := .readWrite, kind := .cached }], by decide +kernel⟩,
   ⟨(onBus (.answering (openWin 1 (.announce 1 [{ segment := 0, access := .readWrite, kind := .cached }]) none none)) enrolling),
    (driven 1), (openWin 1 (.announce 1 [{ segment := 0, access := .readWrite, kind := .cached }]) none none), 1, 1,
    [{ segment := 0, access := .readWrite, kind := .cached }], by decide +kernel⟩,
   ⟨(onBus (.answering (openWin 2 (.announce 1 [{ segment := 0, access := .readWrite, kind := .cached }]) none none)) enrolling),
    (driven 1), (openWin 2 (.announce 1 [{ segment := 0, access := .readWrite, kind := .cached }]) none none), 2, 1,
    [{ segment := 0, access := .readWrite, kind := .cached }], by decide +kernel⟩,
   ⟨(onBus (.answering (openWin 2 (.announce 1 [{ segment := 0, access := .readWrite, kind := .cached },
    { segment := 0, access := .readWrite, kind := .cached }, { segment := 9, access := .readOnly, kind := .direct }]) none none))
    State.reset), (driven 1), (openWin 2 (.announce 1 [{ segment := 0, access := .readWrite, kind := .cached },
    { segment := 0, access := .readWrite, kind := .cached }, { segment := 9, access := .readOnly, kind := .direct }]) none none), 2, 1,
    [{ segment := 0, access := .readWrite, kind := .cached }, { segment := 0, access := .readWrite, kind := .cached },
    { segment := 9, access := .readOnly, kind := .direct }], (State.applyClaims
    { (onBus (.answering (openWin 2 (.announce 1 [{ segment := 0, access := .readWrite, kind := .cached }, { segment := 0, access := .readWrite, kind := .cached }, { segment := 9, access := .readOnly, kind := .direct }]) none none)) State.reset) with ctl.roll.announced := put (onBus (.answering (openWin 2 (.announce 1 [{ segment := 0, access := .readWrite, kind := .cached }, { segment := 0, access := .readWrite, kind := .cached }, { segment := 9, access := .readOnly, kind := .direct }]) none none)) State.reset).ctl.roll.announced 2 (some 2), bus.medium := .idle, out := noOutput }
    2 0 [{ segment := 0, access := .readWrite, kind := .cached }, { segment := 0, access := .readWrite, kind := .cached },
    { segment := 9, access := .readOnly, kind := .direct }]), by decide +kernel⟩,
   ⟨State.reset, { segment := 0, access := .readWrite, kind := .cached }, by decide +kernel⟩,
   ⟨(withRoll { Roll.reset with claims := put (fill 8 .unclaimed) 0 .contested } State.reset),
    { segment := 0, access := .readWrite, kind := .cached }, by decide +kernel⟩,
   ⟨(withRoll enrolling.ctl.roll State.reset), { segment := 0, access := .readWrite, kind := .cached }, 2, .readWrite, .cached, 0,
    by decide +kernel⟩,
   ⟨enrolling, { segment := 0, access := .readWrite, kind := .cached }, 2, .readWrite, .cached, 0, by decide +kernel⟩,
   ⟨(withRoll (beforeReady enrolling.ctl.roll) enrolling), True, by decide +kernel⟩,
   ⟨enrolling, False, by decide +kernel⟩,
   ⟨(withRoll (beforeReady enrolling.ctl.roll) enrolling), True, by decide +kernel⟩,
   ⟨(withRoll (beforeReady enrolling.ctl.roll) enrolling), True, by decide +kernel⟩⟩

theorem witness_ReadyCloseOutcomes :
    (∃ (s : State) (driven : Table (BitVec 3) 4) (w : Window) (n : StationNo) (set : StationSet) (i : SendItem), s.bus.medium =
      .answering w ∧ w.msg = some (n, .ready set) ∧ ({ s with bus := { s.bus with medium := .idle } } : State).still = true ∧ (combine
      driven w.drives = .void ∨ combine driven w.drives = .again) ∧ w.own = some i ∧ s.ctl.mode = .enrolling) ∧
    (∃ (s : State) (driven : Table (BitVec 3) 4) (w : Window) (n : StationNo) (set : StationSet), s.bus.medium = .answering w ∧ w.msg =
      some (n, .ready set) ∧ ({ s with bus := { s.bus with medium := .idle } } : State).still = true ∧ (combine driven w.drives = .void
      ∨ combine driven w.drives = .again) ∧ (w.own = none ∨ s.ctl.mode ≠ .enrolling)) ∧
    (∃ (s : State) (driven : Table (BitVec 3) 4) (w : Window) (n : StationNo) (set : StationSet), s.bus.medium = .answering w ∧ w.msg =
      some (n, .ready set) ∧ ({ s with bus := { s.bus with medium := .idle } } : State).still = true ∧ combine driven w.drives = .clear
      ∧ s.ctl.mode ≠ .dormant ∧ s.ctl.mode ≠ .enrolling) ∧
    (∃ (s : State) (driven : Table (BitVec 3) 4) (w : Window) (n : StationNo) (set : StationSet), s.bus.medium = .answering w ∧ w.msg =
      some (n, .ready set) ∧ ({ s with bus := { s.bus with medium := .idle } } : State).still = true ∧ combine driven w.drives = .clear
      ∧ s.ctl.mode = .dormant) ∧
    (∃ (s : State) (driven : Table (BitVec 3) 4) (w : Window) (n : StationNo) (set : StationSet) (record : FaultRecord), s.bus.medium =
      .answering w ∧ w.msg = some (n, .ready set) ∧ ({ s with bus := { s.bus with medium := .idle } } : State).still = true ∧ combine
      driven w.drives = .clear ∧ s.ctl.mode = .enrolling ∧ s.lpu.log.length < 8 ∧ (s.ctl.roll.closed = false ∧ s.ctl.roll.ownAnnounce =
      false ∧ record = { kind := FaultKind.lateJoin, peer := some n } ∨ (s.ctl.roll.closed = true ∨ s.ctl.roll.ownAnnounce = true) ∧ set
      ≠ s.ctl.roll.validSet ∧ record = { kind := FaultKind.enrolMismatch, peer := some n })) ∧
    (∃ (s : State) (driven : Table (BitVec 3) 4) (w : Window) (n : StationNo) (set : StationSet) (ready : StationSet) (items : List
      SendItem), s.bus.medium = .answering w ∧ w.msg = some (n, .ready set) ∧ ({ s with bus := { s.bus with medium := .idle } } :
      State).still = true ∧ combine driven w.drives = .clear ∧ s.ctl.mode = .enrolling ∧ (s.ctl.roll.closed = true ∨
      s.ctl.roll.ownAnnounce = true) ∧ set = s.ctl.roll.validSet ∧ (ready = if set.has n = true then s.ctl.roll.readySet.add n else
      s.ctl.roll.readySet) ∧ (items = if s.ctl.roll.ownAnnounce = true ∧ s.ctl.roll.readyQueued = false then List.filter (fun x => x !=
      SendItem.ready) s.bus.sendList ++ [SendItem.ready] else s.bus.sendList) ∧ ready ≠ set) ∧
    (∃ (s : State) (driven : Table (BitVec 3) 4) (w : Window) (n : StationNo) (set : StationSet) (ready : StationSet) (items : List
      SendItem), s.bus.medium = .answering w ∧ w.msg = some (n, .ready set) ∧ ({ s with bus := { s.bus with medium := .idle } } :
      State).still = true ∧ combine driven w.drives = .clear ∧ s.ctl.mode = .enrolling ∧ (s.ctl.roll.closed = true ∨
      s.ctl.roll.ownAnnounce = true) ∧ set = s.ctl.roll.validSet ∧ (ready = if set.has n = true then s.ctl.roll.readySet.add n else
      s.ctl.roll.readySet) ∧ (items = if s.ctl.roll.ownAnnounce = true ∧ s.ctl.roll.readyQueued = false then List.filter (fun x => x !=
      SendItem.ready) s.bus.sendList ++ [SendItem.ready] else s.bus.sendList) ∧ ready = set) :=
  ⟨⟨(onBus (.answering (openWin 1 (.ready 6) (some .ready) none)) enrolling), (driven 6), (openWin 1 (.ready 6) (some .ready) none), 1,
    6, .ready, by decide +kernel⟩,
   ⟨(onBus (.answering (openWin 2 (.ready 6) none none)) State.reset), (driven 5), (openWin 2 (.ready 6) none none), 2, 6,
    by decide +kernel⟩,
   ⟨(onBus (.answering (openWin 2 (.ready 6) none none)) w0), (driven 1), (openWin 2 (.ready 6) none none), 2, 6, by decide +kernel⟩,
   ⟨(onBus (.answering (openWin 2 (.ready 6) none none)) State.reset), (driven 1), (openWin 2 (.ready 6) none none), 2, 6,
    by decide +kernel⟩,
   ⟨(onBus (.answering (openWin 2 (.ready 6) none none)) (emptyRoll enrolling)), (driven 1), (openWin 2 (.ready 6) none none), 2, 6,
    { kind := .lateJoin, peer := some 2 }, by decide +kernel⟩,
   ⟨(onBus (.answering (openWin 2 (.ready 14) none none)) enrolling3), (driven 1), (openWin 2 (.ready 14) none none), 2, 14, 6, [],
    by decide +kernel⟩,
   ⟨(onBus (.answering (openWin 2 (.ready 6) none none)) enrolling), (driven 1), (openWin 2 (.ready 6) none none), 2, 6, 6, [],
    by decide +kernel⟩⟩

theorem witness_GoodDataServesEntry :
    (∃ (s : State) (bytes : List Byte) (n : StationNo) (m : DataMsg) (e : PrtEntry) (x : LineData) (v : WayNo) (st : LineState) (q :
      Served), meetsEntry s bytes n m e ∧ e.phase = .awaitingData ∧ m.status = .good ∧ m.data = some x ∧ s.home.wanted = [] ∧ s.still =
      true ∧ (e.kind = .fetch ∨ e.kind = .claim) ∧ e.fillState m.grant = some st ∧ e.way = some v ∧ q = servedBy s.ctl.start.pinLimit
      e.line s.cache.pins x e.waiting ∧ e.follower = none) ∧
    (∃ (s : State) (bytes : List Byte) (n : StationNo) (m : DataMsg) (e : PrtEntry) (x : LineData) (v : WayNo) (st : LineState) (q :
      Served) (f : Follower), meetsEntry s bytes n m e ∧ e.phase = .awaitingData ∧ m.status = .good ∧ m.data = some x ∧ s.home.wanted =
      [] ∧ s.still = true ∧ (e.kind = .fetch ∨ e.kind = .claim) ∧ e.fillState m.grant = some st ∧ e.way = some v ∧ q = servedBy
      s.ctl.start.pinLimit e.line s.cache.pins x e.waiting ∧ e.follower = some f ∧ e.dropAfterUse = false ∧ (∀ i ∈ e.waiting, i.op =
      .read ∨ i.op = .write) ∧ s.sqFree = true) ∧
    (∃ (s : State) (bytes : List Byte) (n : StationNo) (m : DataMsg) (e : PrtEntry) (x : LineData) (v : WayNo) (st : LineState) (q :
      Served) (f : Follower), meetsEntry s bytes n m e ∧ e.phase = .awaitingData ∧ m.status = .good ∧ m.data = some x ∧ s.home.wanted =
      [] ∧ s.still = true ∧ (e.kind = .fetch ∨ e.kind = .claim) ∧ e.fillState m.grant = some st ∧ e.way = some v ∧ q = servedBy
      s.ctl.start.pinLimit e.line s.cache.pins x e.waiting ∧ e.follower = some f ∧ e.dropAfterUse = false ∧ (∀ i ∈ e.waiting, i.op =
      .read ∨ i.op = .write) ∧ s.sqFree = false) ∧
    (∃ (s : State) (bytes : List Byte) (n : StationNo) (m : DataMsg) (e : PrtEntry) (x : LineData) (i : Item), meetsEntry s bytes n m e
      ∧ e.phase = .awaitingData ∧ m.status = .good ∧ m.data = some x ∧ s.home.wanted = [] ∧ s.still = true ∧ e.kind = .directRead ∧
      e.waiting = [i]) ∧
    (∃ (s : State) (bytes : List Byte) (n : StationNo) (m : DataMsg) (e : PrtEntry) (x : LineData), meetsEntry s bytes n m e ∧ e.phase
      = .awaitingData ∧ m.status = .good ∧ m.data = some x ∧ s.home.wanted = [] ∧ s.still = true ∧ e.kind = .recall ∧ s.hwqFree = true) ∧
    (∃ (s : State) (bytes : List Byte) (n : StationNo) (m : DataMsg) (e : PrtEntry) (x : LineData), meetsEntry s bytes n m e ∧ e.phase
      = .awaitingData ∧ m.status = .good ∧ m.data = some x ∧ s.home.wanted = [] ∧ s.still = true ∧ e.kind = .recall ∧ s.hwqFree = false) :=
  ⟨⟨(withEntry (listing [item 3 .write, item 4 .read] (asKind .claim awaitingFetch)) (w0.setWay lR 0 (.reserved lR))), (encodeData 2
    dataMsg), 2, dataMsg, (listing [item 3 .write, item 4 .read] (asKind .claim awaitingFetch)), x7, 0, .sole, (servedOf (w0.setWay lR 0
    (.reserved lR)) (listing [item 3 .write, item 4 .read] (asKind .claim awaitingFetch)) x7), ⟨by decide +kernel, by decide +kernel,
    by decide +kernel, dataMsg_sound, by decide +kernel⟩, by decide +kernel⟩,
   ⟨(withEntry (followed .fetch (listing [item 3 .write, item 4 .read] (asKind .claim awaitingFetch))) (w0.setWay lR 0 (.reserved
    lR))), (encodeData 2 dataMsg), 2, dataMsg, (followed .fetch (listing [item 3 .write, item 4 .read] (asKind .claim awaitingFetch))),
    x7, 0, .sole, (servedOf (w0.setWay lR 0 (.reserved lR)) (followed .fetch (listing [item 3 .write, item 4 .read] (asKind .claim
    awaitingFetch))) x7), { station := 2, tag := 5, gen := 1, kind := .fetch }, ⟨by decide +kernel, by decide +kernel,
    by decide +kernel, dataMsg_sound, by decide +kernel⟩, by decide +kernel⟩,
   ⟨(withEntry (followed .fetch (listing [item 3 .write, item 4 .read] (asKind .claim awaitingFetch))) (withSq (List.replicate 8
    (sqEntry 0 false false)) (w0.setWay lR 0 (.reserved lR)))), (encodeData 2 dataMsg), 2, dataMsg, (followed .fetch (listing [item 3
    .write, item 4 .read] (asKind .claim awaitingFetch))), x7, 0, .sole, (servedOf (withSq (List.replicate 8 (sqEntry 0 false false))
    (w0.setWay lR 0 (.reserved lR))) (followed .fetch (listing [item 3 .write, item 4 .read] (asKind .claim awaitingFetch))) x7),
    { station := 2, tag := 5, gen := 1, kind := .fetch }, ⟨by decide +kernel, by decide +kernel, by decide +kernel, dataMsg_sound,
    by decide +kernel⟩, by decide +kernel⟩,
   ⟨(withEntry awaitingDirect w0), (encodeData 2 (ungranted lD dataMsg)), 2, (ungranted lD dataMsg), awaitingDirect, x7, (item 3
    .read), ⟨by decide +kernel, by decide +kernel, by decide +kernel, directMsg_sound, by decide +kernel⟩, by decide +kernel⟩,
   ⟨(withEntry (awaitingRecall [item 3 .write, item 4 .read]) (exported (exportOf .soleOut .inFlight none) w0)), (encodeData 2
    (ungranted lH dataMsg)), 2, (ungranted lH dataMsg), (awaitingRecall [item 3 .write, item 4 .read]), x7, ⟨by decide +kernel,
    by decide +kernel, by decide +kernel, recallMsg_sound, by decide +kernel⟩, by decide +kernel⟩,
   ⟨(withEntry (awaitingRecall [item 3 .write, item 4 .read]) (fullHwq (exported (exportOf .soleOut .inFlight none) w0))), (encodeData
    2 (ungranted lH dataMsg)), 2, (ungranted lH dataMsg), (awaitingRecall [item 3 .write, item 4 .read]), x7, ⟨by decide +kernel,
    by decide +kernel, by decide +kernel, recallMsg_sound, by decide +kernel⟩, by decide +kernel⟩⟩

theorem witness_FailedDataAndDuplicates :
    (∃ (s : State) (bytes : List Byte) (n : StationNo) (m : DataMsg) (e : PrtEntry), meetsEntry s bytes n m e ∧ s.home.wanted = [] ∧
      s.still = true ∧ e.phase = .awaitingData ∧ e.kind ≠ .recall ∧ (m.status = .memoryError ∨ m.status = .good ∧ (e.kind = .fetch ∨
      e.kind = .claim) ∧ e.fillState m.grant = none) ∧ e.follower = none) ∧
    (∃ (s : State) (bytes : List Byte) (n : StationNo) (m : DataMsg) (e : PrtEntry) (f : Follower), meetsEntry s bytes n m e ∧
      s.home.wanted = [] ∧ s.still = true ∧ e.phase = .awaitingData ∧ e.kind ≠ .recall ∧ (m.status = .memoryError ∨ m.status = .good ∧
      (e.kind = .fetch ∨ e.kind = .claim) ∧ e.fillState m.grant = none) ∧ e.follower = some f ∧ s.sqFree = true) ∧
    (∃ (s : State) (bytes : List Byte) (n : StationNo) (m : DataMsg) (e : PrtEntry) (f : Follower), meetsEntry s bytes n m e ∧
      s.home.wanted = [] ∧ s.still = true ∧ e.phase = .awaitingData ∧ e.kind ≠ .recall ∧ (m.status = .memoryError ∨ m.status = .good ∧
      (e.kind = .fetch ∨ e.kind = .claim) ∧ e.fillState m.grant = none) ∧ e.follower = some f ∧ s.sqFree = false) ∧
    (∃ (s : State) (bytes : List Byte) (n : StationNo) (m : DataMsg) (e : PrtEntry) (exports : Table (List ExportEntry) 7) (e' :
      PrtEntry), meetsEntry s bytes n m e ∧ s.home.wanted = [] ∧ s.still = true ∧ (exports = if m.status = .abandoned ∧ s.homesLine
      m.line = true then put s.home.exports (exportIndex m.line) (List.map (fun x => if x.line = m.line then
      { line := x.line, cls := x.cls, state := x.state, awaiting := none } else x) (s.exportSet m.line)) else s.home.exports) ∧ e.phase
      = .awaitingData ∧ m.status = .abandoned ∧ e.retry < 63 ∧ e' =
      { kind := e.kind, line := e.line, way := e.way, phase := .queued, expected := none, retry := e.retry + 1, timer := none, expiryHeld := e.expiryHeld, downgrade := e.downgrade, dropAfterUse := e.dropAfterUse, waiting := e.waiting, follower := e.follower, owes := e.owes, filledByHome := e.filledByHome, wrote := e.wrote, origin := e.origin }
      ∧ e.follower = none) ∧
    (∃ (s : State) (bytes : List Byte) (n : StationNo) (m : DataMsg) (e : PrtEntry) (exports : Table (List ExportEntry) 7) (e' :
      PrtEntry) (f : Follower), meetsEntry s bytes n m e ∧ s.home.wanted = [] ∧ s.still = true ∧ (exports = if m.status = .abandoned ∧
      s.homesLine m.line = true then put s.home.exports (exportIndex m.line) (List.map (fun x => if x.line = m.line then
      { line := x.line, cls := x.cls, state := x.state, awaiting := none } else x) (s.exportSet m.line)) else s.home.exports) ∧ e.phase
      = .awaitingData ∧ m.status = .abandoned ∧ e.retry < 63 ∧ e' =
      { kind := e.kind, line := e.line, way := e.way, phase := .queued, expected := none, retry := e.retry + 1, timer := none, expiryHeld := e.expiryHeld, downgrade := e.downgrade, dropAfterUse := e.dropAfterUse, waiting := e.waiting, follower := e.follower, owes := e.owes, filledByHome := e.filledByHome, wrote := e.wrote, origin := e.origin }
      ∧ e.follower = some f ∧ s.sqFree = true) ∧
    (∃ (s : State) (bytes : List Byte) (n : StationNo) (m : DataMsg) (e : PrtEntry) (exports : Table (List ExportEntry) 7) (e' :
      PrtEntry) (f : Follower), meetsEntry s bytes n m e ∧ s.home.wanted = [] ∧ s.still = true ∧ (exports = if m.status = .abandoned ∧
      s.homesLine m.line = true then put s.home.exports (exportIndex m.line) (List.map (fun x => if x.line = m.line then
      { line := x.line, cls := x.cls, state := x.state, awaiting := none } else x) (s.exportSet m.line)) else s.home.exports) ∧ e.phase
      = .awaitingData ∧ m.status = .abandoned ∧ e.retry < 63 ∧ e' =
      { kind := e.kind, line := e.line, way := e.way, phase := .queued, expected := none, retry := e.retry + 1, timer := none, expiryHeld := e.expiryHeld, downgrade := e.downgrade, dropAfterUse := e.dropAfterUse, waiting := e.waiting, follower := e.follower, owes := e.owes, filledByHome := e.filledByHome, wrote := e.wrote, origin := e.origin }
      ∧ e.follower = some f ∧ s.sqFree = false) ∧
    (∃ (s : State) (bytes : List Byte) (n : StationNo) (m : DataMsg) (e : PrtEntry) (exports : Table (List ExportEntry) 7), meetsEntry
      s bytes n m e ∧ s.home.wanted = [] ∧ s.still = true ∧ (exports = if m.status = .abandoned ∧ s.homesLine m.line = true then put
      s.home.exports (exportIndex m.line) (List.map (fun x => if x.line = m.line then
      { line := x.line, cls := x.cls, state := x.state, awaiting := none } else x) (s.exportSet m.line)) else s.home.exports) ∧ e.phase
      = .awaitingData ∧ m.status = .abandoned ∧ 63 ≤ e.retry ∧ s.lpu.log.length < 8 ∧ e.follower = none) ∧
    (∃ (s : State) (bytes : List Byte) (n : StationNo) (m : DataMsg) (e : PrtEntry) (exports : Table (List ExportEntry) 7) (f :
      Follower), meetsEntry s bytes n m e ∧ s.home.wanted = [] ∧ s.still = true ∧ (exports = if m.status = .abandoned ∧ s.homesLine
      m.line = true then put s.home.exports (exportIndex m.line) (List.map (fun x => if x.line = m.line then
      { line := x.line, cls := x.cls, state := x.state, awaiting := none } else x) (s.exportSet m.line)) else s.home.exports) ∧ e.phase
      = .awaitingData ∧ m.status = .abandoned ∧ 63 ≤ e.retry ∧ s.lpu.log.length < 8 ∧ e.follower = some f ∧ s.sqFree = true) ∧
    (∃ (s : State) (bytes : List Byte) (n : StationNo) (m : DataMsg) (e : PrtEntry) (exports : Table (List ExportEntry) 7) (f :
      Follower), meetsEntry s bytes n m e ∧ s.home.wanted = [] ∧ s.still = true ∧ (exports = if m.status = .abandoned ∧ s.homesLine
      m.line = true then put s.home.exports (exportIndex m.line) (List.map (fun x => if x.line = m.line then
      { line := x.line, cls := x.cls, state := x.state, awaiting := none } else x) (s.exportSet m.line)) else s.home.exports) ∧ e.phase
      = .awaitingData ∧ m.status = .abandoned ∧ 63 ≤ e.retry ∧ s.lpu.log.length < 8 ∧ e.follower = some f ∧ s.sqFree = false) ∧
    (∃ (s : State) (bytes : List Byte) (n : StationNo) (m : DataMsg) (e : PrtEntry) (exports : Table (List ExportEntry) 7), meetsEntry
      s bytes n m e ∧ s.home.wanted = [] ∧ s.still = true ∧ (exports = if m.status = .abandoned ∧ s.homesLine m.line = true then put
      s.home.exports (exportIndex m.line) (List.map (fun x => if x.line = m.line then
      { line := x.line, cls := x.cls, state := x.state, awaiting := none } else x) (s.exportSet m.line)) else s.home.exports) ∧ e.phase
      = .finishing ∧ (e.owes = .handOff ∨ m.status = .abandoned)) :=
  ⟨⟨(withEntry (listing [item 3 .write, item 4 .read] (asKind .claim awaitingFetch)) (w0.setWay lR 0 (.reserved lR))), (encodeData 2
    (failedMsg .memoryError dataMsg)), 2, (failedMsg .memoryError dataMsg), (listing [item 3 .write, item 4 .read] (asKind .claim
    awaitingFetch)), ⟨by decide +kernel, by decide +kernel, by decide +kernel, errorMsg_sound, by decide +kernel⟩, by decide +kernel⟩,
   ⟨(withEntry (followed .fetch (listing [item 3 .write, item 4 .read] (asKind .claim awaitingFetch))) (w0.setWay lR 0 (.reserved
    lR))), (encodeData 2 (failedMsg .memoryError dataMsg)), 2, (failedMsg .memoryError dataMsg), (followed .fetch (listing [item 3
    .write, item 4 .read] (asKind .claim awaitingFetch))), { station := 2, tag := 5, gen := 1, kind := .fetch }, ⟨by decide +kernel,
    by decide +kernel, by decide +kernel, errorMsg_sound, by decide +kernel⟩, by decide +kernel⟩,
   ⟨(withEntry (followed .fetch (listing [item 3 .write, item 4 .read] (asKind .claim awaitingFetch))) (withSq (List.replicate 8
    (sqEntry 0 false false)) (w0.setWay lR 0 (.reserved lR)))), (encodeData 2 (failedMsg .memoryError dataMsg)), 2, (failedMsg
    .memoryError dataMsg), (followed .fetch (listing [item 3 .write, item 4 .read] (asKind .claim awaitingFetch))),
    { station := 2, tag := 5, gen := 1, kind := .fetch }, ⟨by decide +kernel, by decide +kernel, by decide +kernel, errorMsg_sound,
    by decide +kernel⟩, by decide +kernel⟩,
   ⟨(withEntry (retried 62 awaitingFetch) (w0.setWay lR 0 (.reserved lR))), (encodeData 2 (failedMsg .abandoned dataMsg)), 2,
    (failedMsg .abandoned dataMsg), (retried 62 awaitingFetch), ((w0.setWay lR 0 (.reserved lR))).home.exports, (requeuedAs (retried 62
    awaitingFetch)), ⟨by decide +kernel, by decide +kernel, by decide +kernel, abandonedMsg_sound, by decide +kernel⟩,
    by decide +kernel⟩,
   ⟨(withEntry (retried 62 (followed .fetch (asKind .claim awaitingFetch))) (w0.setWay lR 0 (.reserved lR))), (encodeData 2 (failedMsg
    .abandoned dataMsg)), 2, (failedMsg .abandoned dataMsg), (retried 62 (followed .fetch (asKind .claim awaitingFetch))), ((w0.setWay
    lR 0 (.reserved lR))).home.exports, (requeuedAs (retried 62 (followed .fetch (asKind .claim awaitingFetch)))),
    { station := 2, tag := 5, gen := 1, kind := .fetch }, ⟨by decide +kernel, by decide +kernel, by decide +kernel, abandonedMsg_sound,
    by decide +kernel⟩, by decide +kernel⟩,
   ⟨(withEntry (retried 62 (followed .fetch (asKind .claim awaitingFetch))) (withSq (List.replicate 8 (sqEntry 0 false false))
    (w0.setWay lR 0 (.reserved lR)))), (encodeData 2 (failedMsg .abandoned dataMsg)), 2, (failedMsg .abandoned dataMsg), (retried 62
    (followed .fetch (asKind .claim awaitingFetch))), ((withSq (List.replicate 8 (sqEntry 0 false false)) (w0.setWay lR 0 (.reserved
    lR)))).home.exports, (requeuedAs (retried 62 (followed .fetch (asKind .claim awaitingFetch)))),
    { station := 2, tag := 5, gen := 1, kind := .fetch }, ⟨by decide +kernel, by decide +kernel, by decide +kernel, abandonedMsg_sound,
    by decide +kernel⟩, by decide +kernel⟩,
   ⟨(withEntry (retried 63 (listing [item 3 .write, item 4 .read] awaitingFetch)) (w0.setWay lR 0 (.reserved lR))), (encodeData 2
    (failedMsg .abandoned dataMsg)), 2, (failedMsg .abandoned dataMsg), (retried 63 (listing [item 3 .write, item 4 .read]
    awaitingFetch)), ((w0.setWay lR 0 (.reserved lR))).home.exports, ⟨by decide +kernel, by decide +kernel, by decide +kernel,
    abandonedMsg_sound, by decide +kernel⟩, by decide +kernel⟩,
   ⟨(withEntry (followed .fetch (retried 63 (listing [item 3 .write, item 4 .read] (asKind .claim awaitingFetch)))) (w0.setWay lR 0
    (.reserved lR))), (encodeData 2 (failedMsg .abandoned dataMsg)), 2, (failedMsg .abandoned dataMsg), (followed .fetch (retried 63
    (listing [item 3 .write, item 4 .read] (asKind .claim awaitingFetch)))), ((w0.setWay lR 0 (.reserved lR))).home.exports,
    { station := 2, tag := 5, gen := 1, kind := .fetch }, ⟨by decide +kernel, by decide +kernel, by decide +kernel, abandonedMsg_sound,
    by decide +kernel⟩, by decide +kernel⟩,
   ⟨(withEntry (followed .fetch (retried 63 (listing [item 3 .write, item 4 .read] (asKind .claim awaitingFetch)))) (withSq
    (List.replicate 8 (sqEntry 0 false false)) (w0.setWay lR 0 (.reserved lR)))), (encodeData 2 (failedMsg .abandoned dataMsg)), 2,
    (failedMsg .abandoned dataMsg), (followed .fetch (retried 63 (listing [item 3 .write, item 4 .read] (asKind .claim
    awaitingFetch)))), ((withSq (List.replicate 8 (sqEntry 0 false false)) (w0.setWay lR 0 (.reserved lR)))).home.exports,
    { station := 2, tag := 5, gen := 1, kind := .fetch }, ⟨by decide +kernel, by decide +kernel, by decide +kernel, abandonedMsg_sound,
    by decide +kernel⟩, by decide +kernel⟩,
   ⟨(withEntry (handing .fetch) (holding .sole w0)), (encodeData 2 dataMsg), 2, dataMsg, (handing .fetch), w0.home.exports,
    ⟨by decide +kernel, by decide +kernel, by decide +kernel, dataMsg_sound, by decide +kernel⟩, by decide +kernel⟩⟩

theorem witness_HomeTakeDataAbsorbed :
    (∃ (s : State) (bytes : List Byte) (n : StationNo) (m : DataMsg) (x : LineData), s.ctl.mode.member = true ∧ s.bus.medium = .idle ∧
      parseData bytes = some (n, m) ∧ m.dest ≠ s.number ∧ m.homeTake = true ∧ m.data = some x ∧ s.homesLine m.line = true ∧ s.still =
      true ∧ s.ctl.enrolled.has n = true ∧ s.awaitingSet m.line = true ∧ s.hwqFree = true ∧ s.home.wanted = []) ∧
    (∃ (s : State) (bytes : List Byte) (n : StationNo) (m : DataMsg) (x : LineData), s.ctl.mode.member = true ∧ s.bus.medium = .idle ∧
      parseData bytes = some (n, m) ∧ m.dest ≠ s.number ∧ m.homeTake = true ∧ m.data = some x ∧ s.homesLine m.line = true ∧ s.still =
      true ∧ s.ctl.enrolled.has n = true ∧ s.awaitingSet m.line = true ∧ s.hwqFree = false) ∧
    (∃ (s : State) (bytes : List Byte) (n : StationNo) (m : DataMsg) (x : LineData), s.ctl.mode.member = true ∧ s.bus.medium = .idle ∧
      parseData bytes = some (n, m) ∧ m.dest ≠ s.number ∧ m.homeTake = true ∧ m.data = some x ∧ s.homesLine m.line = true ∧ s.still =
      true ∧ (s.ctl.enrolled.has n = false ∨ s.awaitingSet m.line = false)) ∧
    (∃ (s : State) (bytes : List Byte) (n : StationNo) (m : DataMsg), s.ctl.mode.member = true ∧ s.bus.medium = .idle ∧ parseData bytes
      = some (n, m) ∧ m.dest ≠ s.number ∧ m.status = .abandoned ∧ m.homeTake = false ∧ s.homesLine m.line = true ∧ s.still = true ∧
      (s.home.wanted = [] ∨ s.freeTag = none)) :=
  ⟨⟨(exported (exportOf .sharedOut .none (some 256)) w0), (encodeData 2 takeMsg), 2, takeMsg, x7, by decide +kernel, by decide +kernel,
    takeMsg_sound, by decide +kernel⟩,
   ⟨(fullHwq (exported (exportOf .sharedOut .none (some 256)) w0)), (encodeData 2 takeMsg), 2, takeMsg, x7, by decide +kernel,
    by decide +kernel, takeMsg_sound, by decide +kernel⟩,
   ⟨w0, (encodeData 2 takeMsg), 2, takeMsg, x7, by decide +kernel, by decide +kernel, takeMsg_sound, by decide +kernel⟩,
   ⟨(exported (exportOf .sharedOut .none (some 256)) w0), (encodeData 2 clearingMsg), 2, clearingMsg, by decide +kernel,
    by decide +kernel, clearingMsg_sound, by decide +kernel⟩⟩

theorem witness_AcknowledgementOutcomes :
    (∃ (s : State) (a : AckWindow), s.bus.medium = .acking a ∧ a.own = false ∧ ({ s with bus := { s.bus with medium := .idle } } :
      State).still = true) ∧
    (∃ (s : State) (a : AckWindow) (dest : BitVec 3) (e : SqEntry) (rest : List SqEntry), s.bus.medium = .acking a ∧ a.own = true ∧
      a.dest = none ∧ s.bus.sq = e :: rest ∧ e.converting = false ∧ e.msg.homeTake = false ∧ e.destState = .owed ∧ dest = 4 ∧
      ({ s with bus := { s.bus with medium := .idle, sq := rest } } : State).still = true) ∧
    (∃ (s : State) (a : AckWindow) (dest : BitVec 3) (e : SqEntry) (rest : List SqEntry), s.bus.medium = .acking a ∧ a.own = true ∧
      a.dest = none ∧ s.bus.sq = e :: rest ∧ e.converting = false ∧ e.msg.homeTake = false ∧ e.destState = .owed ∧ dest ≠ 4 ∧ dest ≠ 2 ∧
      e.tries < 4 ∧ a.homeTake = false ∧ ({ s with bus := { s.bus with medium := .idle } } : State).still = true) ∧
    (∃ (s : State) (a : AckWindow) (dest : BitVec 3) (e : SqEntry) (rest : List SqEntry), s.bus.medium = .acking a ∧ a.own = true ∧
      a.dest = none ∧ s.bus.sq = e :: rest ∧ e.converting = false ∧ e.msg.homeTake = false ∧ e.destState = .owed ∧ dest ≠ 4 ∧ dest ≠ 2 ∧
      e.tries = 4 ∧ e.onlyFresh = false ∧ s.lpu.log.length < 8 ∧ ({ s with bus := { s.bus with medium := .idle, sq := rest } } :
      State).still = true) ∧
    (∃ (s : State) (a : AckWindow) (dest : BitVec 3) (home : BitVec 3) (e : SqEntry) (rest : List SqEntry) (d : Delivery) (h0 :
      Delivery), s.bus.medium = .acking a ∧ a.own = true ∧ a.dest = none ∧ a.home = none ∧ s.bus.sq = e :: rest ∧ e.converting = false ∧
      (d = if e.destState = .owed then if dest = 4 then .taken else if dest = 2 then .stale else .owed else e.destState) ∧ (h0 = if
      e.homeState = .owed ∧ a.homeTake = true then if home = 4 then .taken else if home = 2 then .stale else .owed else e.homeState) ∧
      (d = .owed ∨ e.msg.homeTake = true ∧ h0 = .owed) ∧ e.tries < 4 ∧ ({ s with bus := { s.bus with medium := .idle } } : State).still
      = true) ∧
    (∃ (s : State) (a : AckWindow) (dest : BitVec 3) (home : BitVec 3) (e : SqEntry) (rest : List SqEntry) (d : Delivery) (h0 :
      Delivery) (d' : Delivery) (h' : Delivery), s.bus.medium = .acking a ∧ a.own = true ∧ a.dest = none ∧ a.home = none ∧ s.bus.sq = e
      :: rest ∧ e.converting = false ∧ (d = if e.destState = .owed then if dest = 4 then .taken else if dest = 2 then .stale else .owed
      else e.destState) ∧ (h0 = if e.homeState = .owed ∧ a.homeTake = true then if home = 4 then .taken else if home = 2 then .stale
      else .owed else e.homeState) ∧ (d' = if d = .owed then .failed else d) ∧ (h' = if h0 = .owed ∧ e.msg.homeTake = true then .failed
      else h0) ∧ (¬(d = .owed ∨ e.msg.homeTake = true ∧ h0 = .owed) ∨ 4 ≤ e.tries) ∧ e.onlyFresh = false ∧ s.lpu.log.length + 2 ≤ 8 ∧
      ({ s with bus := { s.bus with medium := .idle, sq := rest } } : State).still = true) ∧
    (∃ (s : State) (a : AckWindow) (dest : BitVec 3) (home : BitVec 3) (e : SqEntry) (rest : List SqEntry) (d : Delivery) (h0 :
      Delivery) (d' : Delivery) (h' : Delivery), s.bus.medium = .acking a ∧ a.own = true ∧ a.dest = none ∧ a.home = none ∧ s.bus.sq = e
      :: rest ∧ e.converting = false ∧ (d = if e.destState = .owed then if dest = 4 then .taken else if dest = 2 then .stale else .owed
      else e.destState) ∧ (h0 = if e.homeState = .owed ∧ a.homeTake = true then if home = 4 then .taken else if home = 2 then .stale
      else .owed else e.homeState) ∧ (d' = if d = .owed then .failed else d) ∧ (h' = if h0 = .owed ∧ e.msg.homeTake = true then .failed
      else h0) ∧ (¬(d = .owed ∨ e.msg.homeTake = true ∧ h0 = .owed) ∨ 4 ≤ e.tries) ∧ e.onlyFresh = true ∧ ((if e.msg.homeTake = true
      then h' else d') = .taken) ∧ ({ s with bus := { s.bus with medium := .idle, sq := rest } } : State).still = true) ∧
    (∃ (s : State) (a : AckWindow) (dest : BitVec 3) (home : BitVec 3) (e : SqEntry) (rest : List SqEntry) (d : Delivery) (h0 :
      Delivery) (d' : Delivery) (h' : Delivery), s.bus.medium = .acking a ∧ a.own = true ∧ a.dest = none ∧ a.home = none ∧ s.bus.sq = e
      :: rest ∧ e.converting = false ∧ (d = if e.destState = .owed then if dest = 4 then .taken else if dest = 2 then .stale else .owed
      else e.destState) ∧ (h0 = if e.homeState = .owed ∧ a.homeTake = true then if home = 4 then .taken else if home = 2 then .stale
      else .owed else e.homeState) ∧ (d' = if d = .owed then .failed else d) ∧ (h' = if h0 = .owed ∧ e.msg.homeTake = true then .failed
      else h0) ∧ (¬(d = .owed ∨ e.msg.homeTake = true ∧ h0 = .owed) ∨ 4 ≤ e.tries) ∧ e.onlyFresh = true ∧ ((if e.msg.homeTake = true
      then h' else d') ≠ .taken) ∧ s.rqFree = false ∧ ({ s with bus := { s.bus with medium := .idle } } : State).still = true) ∧
    (∃ (s : State) (a : AckWindow) (dest : BitVec 3) (home : BitVec 3) (e : SqEntry) (rest : List SqEntry) (d : Delivery) (h0 :
      Delivery) (d' : Delivery) (h' : Delivery) (x : LineData), s.bus.medium = .acking a ∧ a.own = true ∧ a.dest = none ∧ a.home = none
      ∧ s.bus.sq = e :: rest ∧ e.converting = false ∧ (d = if e.destState = .owed then if dest = 4 then .taken else if dest = 2 then
      .stale else .owed else e.destState) ∧ (h0 = if e.homeState = .owed ∧ a.homeTake = true then if home = 4 then .taken else if home =
      2 then .stale else .owed else e.homeState) ∧ (d' = if d = .owed then .failed else d) ∧ (h' = if h0 = .owed ∧ e.msg.homeTake = true
      then .failed else h0) ∧ (¬(d = .owed ∨ e.msg.homeTake = true ∧ h0 = .owed) ∨ 4 ≤ e.tries) ∧ e.onlyFresh = true ∧ ((if
      e.msg.homeTake = true then h' else d') ≠ .taken) ∧ s.rqFree = true ∧ e.msg.data = some x ∧ (∀ q ∈ rest, q.converting = false) ∧
      s.portEmpty = true ∧ s.home.wanted = [] ∧ (s.home.port ≠ .idle ∨ s.home.hwq = []) ∧ s.ctl.mode ≠ .quiescing ∧ s.lpu.log.length < 8
      ∧ s.bus.askers = []) ∧
    (∃ (s : State) (a : AckWindow) (dest : BitVec 3) (home : BitVec 3) (e : SqEntry) (rest : List SqEntry) (d : Delivery) (h0 :
      Delivery) (d' : Delivery) (h' : Delivery), s.bus.medium = .acking a ∧ a.own = true ∧ a.dest = none ∧ a.home = none ∧ s.bus.sq = e
      :: rest ∧ e.converting = false ∧ (d = if e.destState = .owed then if dest = 4 then .taken else if dest = 2 then .stale else .owed
      else e.destState) ∧ (h0 = if e.homeState = .owed ∧ a.homeTake = true then if home = 4 then .taken else if home = 2 then .stale
      else .owed else e.homeState) ∧ (d' = if d = .owed then .failed else d) ∧ (h' = if h0 = .owed ∧ e.msg.homeTake = true then .failed
      else h0) ∧ (¬(d = .owed ∨ e.msg.homeTake = true ∧ h0 = .owed) ∨ 4 ≤ e.tries) ∧ e.onlyFresh = false ∧ s.lpu.log.length + 2 ≤ 8 ∧
      s.bus.askers ≠ [] ∧ (∀ q ∈ rest, q.converting = false) ∧ s.portEmpty = true ∧ s.home.wanted = [] ∧ (s.home.port ≠ .idle ∨
      s.home.hwq = []) ∧ s.ctl.mode ≠ .quiescing) ∧
    (∃ (s : State) (a : AckWindow) (dest : BitVec 3) (home : BitVec 3) (e : SqEntry) (rest : List SqEntry) (d : Delivery) (h0 :
      Delivery) (d' : Delivery) (h' : Delivery), s.bus.medium = .acking a ∧ a.own = true ∧ a.dest = none ∧ a.home = none ∧ s.bus.sq = e
      :: rest ∧ e.converting = false ∧ (d = if e.destState = .owed then if dest = 4 then .taken else if dest = 2 then .stale else .owed
      else e.destState) ∧ (h0 = if e.homeState = .owed ∧ a.homeTake = true then if home = 4 then .taken else if home = 2 then .stale
      else .owed else e.homeState) ∧ (d' = if d = .owed then .failed else d) ∧ (h' = if h0 = .owed ∧ e.msg.homeTake = true then .failed
      else h0) ∧ (¬(d = .owed ∨ e.msg.homeTake = true ∧ h0 = .owed) ∨ 4 ≤ e.tries) ∧ e.onlyFresh = true ∧ ((if e.msg.homeTake = true
      then h' else d') = .taken) ∧ s.bus.askers ≠ [] ∧ (∀ q ∈ rest, q.converting = false) ∧ s.portEmpty = true ∧ s.home.wanted = [] ∧
      (s.home.port ≠ .idle ∨ s.home.hwq = []) ∧ s.ctl.mode ≠ .quiescing) ∧
    (∃ (s : State) (a : AckWindow) (dest : BitVec 3) (home : BitVec 3) (e : SqEntry) (rest : List SqEntry) (d : Delivery) (h0 :
      Delivery) (d' : Delivery) (h' : Delivery) (x : LineData), s.bus.medium = .acking a ∧ a.own = true ∧ a.dest = none ∧ a.home = none
      ∧ s.bus.sq = e :: rest ∧ e.converting = false ∧ (d = if e.destState = .owed then if dest = 4 then .taken else if dest = 2 then
      .stale else .owed else e.destState) ∧ (h0 = if e.homeState = .owed ∧ a.homeTake = true then if home = 4 then .taken else if home =
      2 then .stale else .owed else e.homeState) ∧ (d' = if d = .owed then .failed else d) ∧ (h' = if h0 = .owed ∧ e.msg.homeTake = true
      then .failed else h0) ∧ (¬(d = .owed ∨ e.msg.homeTake = true ∧ h0 = .owed) ∨ 4 ≤ e.tries) ∧ e.onlyFresh = true ∧ ((if
      e.msg.homeTake = true then h' else d') ≠ .taken) ∧ s.rqFree = true ∧ e.msg.data = some x ∧ (∀ q ∈ rest, q.converting = false) ∧
      s.portEmpty = true ∧ s.home.wanted = [] ∧ (s.home.port ≠ .idle ∨ s.home.hwq = []) ∧ s.ctl.mode ≠ .quiescing ∧ s.lpu.log.length < 8
      ∧ s.bus.askers ≠ []) :=
  ⟨⟨(onBus (.acking (ackOf false)) w0), (ackOf false), by decide +kernel⟩,
   ⟨(onBus (.acking (ackOf true)) (withSq [sqEntry 1 false false] w0)), (ackOf true), 4, (sqEntry 1 false false), [],
    by decide +kernel⟩,
   ⟨(onBus (.acking (ackOf true)) (withSq [sqEntry 3 false false] w0)), (ackOf true), 0, (sqEntry 3 false false), [],
    by decide +kernel⟩,
   ⟨(onBus (.acking (ackOf true)) (withSq [sqEntry 4 false false] w0)), (ackOf true), 3, (sqEntry 4 false false), [],
    by decide +kernel⟩,
   ⟨(onBus (.acking (takeAck true)) (withSq [(homeTaking .owed (sqEntry 1 false true))] w0)), (takeAck true), 4, 3, (homeTaking .owed
    (sqEntry 1 false true)), [], .taken, .owed, by decide +kernel⟩,
   ⟨(onBus (.acking (takeAck false)) (withSq [(sqEntry 1 false false)] w0)), (takeAck false), 2, 0, (sqEntry 1 false false), [],
    .stale, .owed, .stale, .owed, by decide +kernel⟩,
   ⟨(onBus (.acking (takeAck true)) (withSq [(homeTaking .owed (sqEntry 1 false true))] w0)), (takeAck true), 2, 4, (homeTaking .owed
    (sqEntry 1 false true)), [], .stale, .taken, .stale, .taken, by decide +kernel⟩,
   ⟨(onBus (.acking (takeAck false)) (withSq [(sqEntry 1 false true)] (withRq (List.replicate 4 (returning [])) w0))), (takeAck false),
    2, 0, (sqEntry 1 false true), [], .stale, .owed, .stale, .owed, by decide +kernel⟩,
   ⟨(onBus (.acking (takeAck false)) (withSq [(sqEntry 1 false true)] (portTaken w0))), (takeAck false), 2, 0, (sqEntry 1 false true),
    [], .stale, .owed, .stale, .owed, x7, by decide +kernel⟩,
   ⟨(onBus (.acking (takeAck false)) (withSq ((sqEntry 1 false false) :: (List.replicate 7 (sqEntry 0 false false))) (withAskers [.prt
    0, .home] (withEntry owing w0)))), (takeAck false), 4, 0, (sqEntry 1 false false), (List.replicate 7 (sqEntry 0 false false)),
    .taken, .owed, .taken, .owed, by decide +kernel⟩,
   ⟨(onBus (.acking (takeAck false)) (withSq ((sqEntry 1 false true) :: (List.replicate 7 (sqEntry 0 false false))) (withAskers [.prt
    0, .home] (withEntry owing w0)))), (takeAck false), 4, 0, (sqEntry 1 false true), (List.replicate 7 (sqEntry 0 false false)),
    .taken, .owed, .taken, .owed, by decide +kernel⟩,
   ⟨(onBus (.acking (takeAck false)) (withSq ((sqEntry 1 false true) :: (List.replicate 7 (sqEntry 0 false false))) (withAskers [.prt
    0, .home] (withEntry owing w0)))), (takeAck false), 2, 0, (sqEntry 1 false true), (List.replicate 7 (sqEntry 0 false false)),
    .stale, .owed, .stale, .owed, x7, by decide +kernel⟩⟩

theorem witness_LocalMemoryCompletion :
    (∃ (s : State) (a : MemAddr) (l : LineNo) (tag : PTag) (off : Offset) (len : ℕ), s.home.port = .busy ∧
      ({ s with home := { s.home with hwq := [], port := .idle } } : State).still = true ∧ s.home.hwq =
      [{ addr := a, work := .localRead l tag off len }] ∧ BitVec.toNat a + len ≤ s.home.fitted ∧ (∀ p ∈ s.cache.pins, p.tag ≠ tag)) ∧
    (∃ (s : State) (a : MemAddr) (l : LineNo) (tag : PTag) (off : Offset) (len : ℕ) (bs : List Byte), s.home.port = .busy ∧
      ({ s with home := { s.home with hwq := [], port := .idle } } : State).still = true ∧ s.home.hwq =
      [{ addr := a, work := .localWrite l tag off len bs }] ∧ BitVec.toNat a + bs.length ≤ s.home.fitted) ∧
    (∃ (s : State) (a : MemAddr) (w : HwqWork) (tag : PTag) (l : LineNo) (off : Offset) (len : ℕ) (bs : List Byte) (ok : Bool),
      s.home.port = .busy ∧ s.home.hwq = [{ addr := a, work := w }] ∧ (w = .localRead l tag off len ∨ w = .localWrite l tag off len bs)
      ∧ (ok = false ∨ (w = .localRead l tag off len ∧ ∃ i < len, s.home.fitted ≤ BitVec.toNat a + i) ∨ w = .localWrite l tag off len bs
      ∧ ∃ i < bs.length, s.home.fitted ≤ BitVec.toNat a + i) ∧ s.lpu.log.length < 8 ∧ (∀ p ∈ s.cache.pins, p.tag ≠ tag) ∧
      ({ s with home := { s.home with hwq := [], port := .idle } } : State).still = true) ∧
    (∃ (s : State) (a : MemAddr) (l : LineNo) (tag : PTag) (off : Offset) (len : ℕ), s.home.port = .busy ∧
      ({ s with home := { s.home with hwq := [], port := .idle } } : State).still = true ∧ s.home.hwq =
      [{ addr := a, work := .localRead l tag off len }] ∧ (∃ p ∈ s.cache.pins, p.line = l ∧ p.tag = tag ∧ p.held = false ∧ p.path =
      PinPath.home) ∧ BitVec.toNat a + len ≤ s.home.fitted) ∧
    (∃ (s : State) (a : MemAddr) (l : LineNo) (tag : PTag) (off : Offset) (len : ℕ) (ok : Bool), s.home.port = .busy ∧
      ({ s with home := { s.home with hwq := [], port := .idle } } : State).still = true ∧ s.home.hwq =
      [{ addr := a, work := .localRead l tag off len }] ∧ (∃ p ∈ s.cache.pins, p.line = l ∧ p.tag = tag ∧ p.held = false ∧ p.path =
      PinPath.home) ∧ (ok = false ∨ ∃ i < len, s.home.fitted ≤ BitVec.toNat a + i) ∧ s.lpu.log.length < 8 ∧ s.ctl.mode ≠ .quiescing) :=
  ⟨⟨(working (.localRead lH 3 0 8) w0), 0, lH, 3, 0, 8, by decide +kernel⟩,
   ⟨(working (.localWrite lH 3 0 2 [5, 6]) w0), 0, lH, 3, 0, 2, [5, 6], by decide +kernel⟩,
   ⟨(working (.localRead lH 3 0 8) w0), 0, (.localRead lH 3 0 8), 3, lH, 0, 8, [], false, by decide +kernel⟩,
   ⟨(withPins [pendingPin 3] (working (.localRead lH 3 0 8) w0)), 0, lH, 3, 0, 8, by decide +kernel⟩,
   ⟨(withPins [pendingPin 3] (working (.localRead lH 3 0 8) w0)), 0, lH, 3, 0, 8, false, by decide +kernel⟩⟩

theorem witness_HomeMemoryCompletion :
    (∃ (s : State) (a : MemAddr) (k : HwqWork) (more : List HwqEntry) (l : LineNo) (n : StationNo) (t : ReqTag) (g : Gen) (gr : Grant)
      (x : LineData), s.home.port = .busy ∧ s.home.hwq = { addr := a, work := k } :: more ∧ s.still = true ∧ (k = .supplyRead n t g l gr
      ∨ k = .directRead n t g l ∧ gr = .none) ∧ x = LineData.ofBytes (List.map (fun i => Memory.read s.home.mem (BitVec.toNat a + i))
      (List.range 64)) ∧ BitVec.toNat a + 64 ≤ s.home.fitted ∧ s.sqFree = true) ∧
    (∃ (s : State) (a : MemAddr) (k : HwqWork) (more : List HwqEntry) (l : LineNo) (n : StationNo) (t : ReqTag) (g : Gen) (gr : Grant)
      (x : LineData), s.home.port = .busy ∧ s.home.hwq = { addr := a, work := k } :: more ∧ s.still = true ∧ (k = .supplyRead n t g l gr
      ∨ k = .directRead n t g l ∧ gr = .none) ∧ x = LineData.ofBytes (List.map (fun i => Memory.read s.home.mem (BitVec.toNat a + i))
      (List.range 64)) ∧ BitVec.toNat a + 64 ≤ s.home.fitted ∧ s.sqFree = false) ∧
    (∃ (s : State) (a : MemAddr) (k : HwqWork) (more : List HwqEntry) (l : LineNo) (n : StationNo) (t : ReqTag) (g : Gen) (gr : Grant)
      (ok : Bool), s.home.port = .busy ∧ s.home.hwq = { addr := a, work := k } :: more ∧ s.still = true ∧ (k = .supplyRead n t g l gr ∨
      k = .directRead n t g l ∧ gr = .none) ∧ (ok = false ∨ s.home.fitted < BitVec.toNat a + 64) ∧ s.lpu.log.length < 8 ∧ s.sqFree =
      true) ∧
    (∃ (s : State) (a : MemAddr) (k : HwqWork) (more : List HwqEntry) (l : LineNo) (n : StationNo) (t : ReqTag) (g : Gen) (gr : Grant)
      (ok : Bool), s.home.port = .busy ∧ s.home.hwq = { addr := a, work := k } :: more ∧ s.still = true ∧ (k = .supplyRead n t g l gr ∨
      k = .directRead n t g l ∧ gr = .none) ∧ (ok = false ∨ s.home.fitted < BitVec.toNat a + 64) ∧ s.lpu.log.length < 8 ∧ s.sqFree =
      false) ∧
    (∃ (s : State) (a : MemAddr) (k : HwqWork) (more : List HwqEntry) (l : LineNo) (x : LineData) (n : Option StationNo), s.home.port =
      .busy ∧ s.home.hwq = { addr := a, work := k } :: more ∧ s.still = true ∧ (k = .absorbWrite l x ∧ n = none ∨ k = .recallWrite l x ∧
      n = none ∨ ∃ m, n = some m ∧ k = .returnWrite l m x) ∧ BitVec.toNat a + 64 ≤ s.home.fitted) ∧
    (∃ (s : State) (a : MemAddr) (k : HwqWork) (more : List HwqEntry) (l : LineNo) (x : LineData) (n : Option StationNo) (ok : Bool),
      s.home.port = .busy ∧ s.home.hwq = { addr := a, work := k } :: more ∧ s.still = true ∧ (k = .absorbWrite l x ∧ n = none ∨ k =
      .recallWrite l x ∧ n = none ∨ ∃ m, n = some m ∧ k = .returnWrite l m x) ∧ (ok = false ∨ s.home.fitted < BitVec.toNat a + 64) ∧
      s.lpu.log.length < 8) ∧
    (∃ (s : State) (a : MemAddr) (k : HwqWork) (more : List HwqEntry) (l : LineNo) (n : StationNo) (mask : BitVec 64) (bs : List Byte),
      s.home.port = .busy ∧ s.home.hwq = { addr := a, work := k } :: more ∧ s.still = true ∧ k = .directWrite l n mask bs ∧ bs.length =
      List.countP (fun i => mask.getLsbD i) (List.range 64) ∧ (∀ i < 64, mask.getLsbD i = true → BitVec.toNat a + i < s.home.fitted)) ∧
    (∃ (s : State) (a : MemAddr) (k : HwqWork) (more : List HwqEntry) (l : LineNo) (n : StationNo) (mask : BitVec 64) (bs : List Byte)
      (ok : Bool), s.home.port = .busy ∧ s.home.hwq = { addr := a, work := k } :: more ∧ s.still = true ∧ k = .directWrite l n mask bs ∧
      bs.length = List.countP (fun i => mask.getLsbD i) (List.range 64) ∧ (ok = false ∨ ∃ i < 64, mask.getLsbD i = true ∧ s.home.fitted
      ≤ BitVec.toNat a + i) ∧ s.lpu.log.length < 8) :=
  ⟨⟨(working (.supplyRead 2 5 1 lH .sole) w0), 0, (.supplyRead 2 5 1 lH .sole), [], lH, 2, 5, 1, .sole, (fill 6 0), by decide +kernel⟩,
   ⟨(working (.supplyRead 2 5 1 lH .sole) (withSq (List.replicate 8 (sqEntry 0 false false)) w0)), 0, (.supplyRead 2 5 1 lH .sole), [],
    lH, 2, 5, 1, .sole, (fill 6 0), by decide +kernel⟩,
   ⟨(working (.supplyRead 2 5 1 lH .sole) w0), 0, (.supplyRead 2 5 1 lH .sole), [], lH, 2, 5, 1, .sole, false, by decide +kernel⟩,
   ⟨(working (.supplyRead 2 5 1 lH .sole) (withSq (List.replicate 8 (sqEntry 0 false false)) w0)), 0, (.supplyRead 2 5 1 lH .sole), [],
    lH, 2, 5, 1, .sole, false, by decide +kernel⟩,
   ⟨(working (.returnWrite lH 2 x7) w0), 0, (.returnWrite lH 2 x7), [], lH, x7, (some 2), by decide +kernel⟩,
   ⟨(working (.returnWrite lH 2 x7) w0), 0, (.returnWrite lH 2 x7), [], lH, x7, (some 2), false, by decide +kernel⟩,
   ⟨(working (.directWrite lH 2 9 [1, 2]) w0), 0, (.directWrite lH 2 9 [1, 2]), [], lH, 2, 9, [1, 2], by decide +kernel⟩,
   ⟨(working (.directWrite lH 2 9 [1, 2]) w0), 0, (.directWrite lH 2 9 [1, 2]), [], lH, 2, 9, [1, 2], false, by decide +kernel⟩⟩

theorem witness_OtherTimerExpiryOutcomes :
    (∃ (s : State) (l : LineNo), s.awaitingSet l = true ∧ s.lpu.log.length < 8 ∧ s.home.wanted = [] ∧ s.still = true) ∧
    (∃ (s : State) (p : PinEntry), s.findPin p.line = some p ∧ p.held = true ∧ p.timer.isSome = true ∧ s.lpu.log.length < 8 ∧ s.still =
      true ∧ s.ctl.mode ≠ .quiescing) ∧
    (∃ (s : State) (p : PinEntry), s.findPin p.line = some p ∧ p.held = true ∧ p.timer.isSome = true ∧ s.lpu.log.length < 8 ∧ s.still =
      true ∧ s.ctl.mode = .quiescing) ∧
    (∃ (s : State), s.ctl.mode = .enrolling ∧ s.ctl.roll.timer.isSome = true ∧ s.ctl.roll.closed = true ∧ s.lpu.log.length < 8) ∧
    (∃ (s : State), s.ctl.mode = .enrolling ∧ s.ctl.roll.timer.isSome = true ∧ s.ctl.roll.closed = false ∧ (s.ctl.roll.ownAnnounce =
      false ∨ s.ctl.roll.readyQueued = true)) ∧
    (∃ (s : State), s.ctl.mode = .enrolling ∧ s.ctl.roll.timer.isSome = true ∧ s.ctl.roll.closed = false ∧ s.ctl.roll.ownAnnounce =
      true ∧ s.ctl.roll.readyQueued = false) :=
  ⟨⟨(exported (exportOf .sharedOut .none (some 256)) w0), lH, by decide +kernel⟩,
   ⟨(withPins [pinOf lR .remote] (holding .sole w0)), (pinOf lR .remote), by decide +kernel⟩,
   ⟨(withPins [pinOf lR .remote] (inMode .quiescing (holding .sole w0))), (pinOf lR .remote), by decide +kernel⟩,
   ⟨(withRoll (closedRoll enrolling.ctl.roll) enrolling), by decide +kernel⟩,
   ⟨enrolling, by decide +kernel⟩,
   ⟨(withRoll (beforeReady enrolling.ctl.roll) enrolling), by decide +kernel⟩⟩

theorem witness_DataTimerExpiryOutcomes :
    (∃ (s : State) (t : ReqTag) (e : PrtEntry), s.entry t = some e ∧ s.lpu.log.length < 8 ∧ s.home.wanted = [] ∧ s.ctl.mode ≠
      .quiescing ∧ s.still = true ∧ e.phase = .awaitingData ∧ e.timer.isSome = true ∧ s.underAnswer e.line = true) ∧
    (∃ (s : State) (t : ReqTag) (e : PrtEntry), s.entry t = some e ∧ s.lpu.log.length < 8 ∧ s.home.wanted = [] ∧ s.ctl.mode ≠
      .quiescing ∧ s.still = true ∧ e.phase = .awaitingData ∧ e.timer.isSome = true ∧ s.underAnswer e.line = false ∧ e.follower = none) ∧
    (∃ (s : State) (t : ReqTag) (e : PrtEntry) (f : Follower), s.entry t = some e ∧ s.lpu.log.length < 8 ∧ s.home.wanted = [] ∧
      s.ctl.mode ≠ .quiescing ∧ s.still = true ∧ e.phase = .awaitingData ∧ e.timer.isSome = true ∧ s.underAnswer e.line = false ∧
      e.follower = some f ∧ s.sqFree = true) ∧
    (∃ (s : State) (t : ReqTag) (e : PrtEntry) (f : Follower), s.entry t = some e ∧ s.lpu.log.length < 8 ∧ s.home.wanted = [] ∧
      s.ctl.mode ≠ .quiescing ∧ s.still = true ∧ e.phase = .awaitingData ∧ e.timer.isSome = true ∧ s.underAnswer e.line = false ∧
      e.follower = some f ∧ s.sqFree = false) ∧
    (∃ (s : State) (t : ReqTag) (e : PrtEntry) (driven : Table (BitVec 3) 4) (w : Window) (n : StationNo) (k : LineKind) (u : ReqTag)
      (g : Gen) (l : LineNo), s.entry t = some e ∧ s.lpu.log.length < 8 ∧ s.home.wanted = [] ∧ s.ctl.mode ≠ .quiescing ∧ s.bus.medium =
      .answering w ∧ w.own = none ∧ w.msg = some (n, .line k u g l) ∧ e.expiryHeld = true ∧ e.follower = none ∧ (∀ (t' : ReqTag), t' ≠ t
      → ∀ (e' : PrtEntry), s.entry t' = some e' → e'.expiryHeld = false) ∧ ({ s with bus := { s.bus with medium := .idle } } :
      State).still = true ∧ (combine driven w.drives = .void ∨ combine driven w.drives = .again ∨ w.record = Recorded.nothing)) ∧
    (∃ (s : State) (t : ReqTag) (e : PrtEntry) (driven : Table (BitVec 3) 4) (w : Window) (n : StationNo) (k : LineKind) (u : ReqTag)
      (g : Gen) (l : LineNo) (f : Follower), s.entry t = some e ∧ s.lpu.log.length < 8 ∧ s.home.wanted = [] ∧ s.ctl.mode ≠ .quiescing ∧
      s.bus.medium = .answering w ∧ w.own = none ∧ w.msg = some (n, .line k u g l) ∧ e.expiryHeld = true ∧ e.follower = none ∧ (∀ (t' :
      ReqTag), t' ≠ t → ∀ (e' : PrtEntry), s.entry t' = some e' → e'.expiryHeld = false) ∧
      ({ s with bus := { s.bus with medium := .idle } } : State).still = true ∧ (f =
      { station := n, tag := u, gen := g, kind := if k = .fetch then FollowerKind.fetch else if k = .recall then FollowerKind.recall else FollowerKind.claim })
      ∧ combine driven w.drives = .follow ∧ w.record = { Recorded.nothing with engine := .follow t } ∧ s.bus.sq.length < 8) ∧
    (∃ (s : State) (t : ReqTag) (e : PrtEntry) (driven : Table (BitVec 3) 4) (w : Window) (n : StationNo) (k : LineKind) (u : ReqTag)
      (g : Gen) (l : LineNo) (f : Follower), s.entry t = some e ∧ s.lpu.log.length < 8 ∧ s.home.wanted = [] ∧ s.ctl.mode ≠ .quiescing ∧
      s.bus.medium = .answering w ∧ w.own = none ∧ w.msg = some (n, .line k u g l) ∧ e.expiryHeld = true ∧ e.follower = none ∧ (∀ (t' :
      ReqTag), t' ≠ t → ∀ (e' : PrtEntry), s.entry t' = some e' → e'.expiryHeld = false) ∧
      ({ s with bus := { s.bus with medium := .idle } } : State).still = true ∧ (f =
      { station := n, tag := u, gen := g, kind := if k = .fetch then FollowerKind.fetch else if k = .recall then FollowerKind.recall else FollowerKind.claim })
      ∧ combine driven w.drives = .follow ∧ w.record = { Recorded.nothing with engine := .follow t } ∧ 8 ≤ s.bus.sq.length) ∧
    (∃ (s : State) (t : ReqTag) (e : PrtEntry), s.entry t = some e ∧ s.lpu.log.length < 8 ∧ s.home.wanted = [] ∧ s.still = true ∧
      e.phase = .awaitingData ∧ e.timer.isSome = true ∧ s.underAnswer e.line = false ∧ e.follower = none ∧ s.ctl.mode = .quiescing) :=
  ⟨⟨(withEntry (listing [item 3 .write, item 4 .read] (asKind .claim awaitingFetch)) (onBus (.answering (openWin 2 (.line .fetch 5 1
    lR) none none)) (w0.setWay lR 0 (.reserved lR)))), 0, (listing [item 3 .write, item 4 .read] (asKind .claim awaitingFetch)),
    by decide +kernel⟩,
   ⟨(withEntry (listing [item 3 .write, item 4 .read] (asKind .claim awaitingFetch)) (w0.setWay lR 0 (.reserved lR))), 0, (listing
    [item 3 .write, item 4 .read] (asKind .claim awaitingFetch)), by decide +kernel⟩,
   ⟨(withEntry (followed .fetch (listing [item 3 .write, item 4 .read] (asKind .claim awaitingFetch))) (w0.setWay lR 0 (.reserved
    lR))), 0, (followed .fetch (listing [item 3 .write, item 4 .read] (asKind .claim awaitingFetch))),
    { station := 2, tag := 5, gen := 1, kind := .fetch }, by decide +kernel⟩,
   ⟨(withEntry (followed .fetch (listing [item 3 .write, item 4 .read] (asKind .claim awaitingFetch))) (withSq (List.replicate 8
    (sqEntry 0 false false)) (w0.setWay lR 0 (.reserved lR)))), 0, (followed .fetch (listing [item 3 .write, item 4 .read] (asKind
    .claim awaitingFetch))), { station := 2, tag := 5, gen := 1, kind := .fetch }, by decide +kernel⟩,
   ⟨(onBus (.answering (noting (Recorded.nothing) (openWin 2 (.line .fetch 5 1 lR) none none))) (withEntry (expiryHeldOf (listing [item
    3 .write, item 4 .read] (asKind .claim awaitingFetch))) (w0.setWay lR 0 (.reserved lR)))), 0, (expiryHeldOf (listing [item 3 .write,
    item 4 .read] (asKind .claim awaitingFetch))), (driven 6), (noting (Recorded.nothing) (openWin 2 (.line .fetch 5 1 lR) none none)),
    2, .fetch, 5, 1, lR, by decide +kernel⟩,
   ⟨(onBus (.answering (noting ({ Recorded.nothing with engine := .follow 0 }) (openWin 2 (.line .fetch 5 1 lR) none none))) (withEntry
    (expiryHeldOf (listing [item 3 .write, item 4 .read] (asKind .claim awaitingFetch))) (w0.setWay lR 0 (.reserved lR)))), 0,
    (expiryHeldOf (listing [item 3 .write, item 4 .read] (asKind .claim awaitingFetch))), (driven 4), (noting
    ({ Recorded.nothing with engine := .follow 0 }) (openWin 2 (.line .fetch 5 1 lR) none none)), 2, .fetch, 5, 1, lR,
    { station := 2, tag := 5, gen := 1, kind := .fetch }, by decide +kernel⟩,
   ⟨(onBus (.answering (noting ({ Recorded.nothing with engine := .follow 0 }) (openWin 2 (.line .fetch 5 1 lR) none none))) (withEntry
    (expiryHeldOf (listing [item 3 .write, item 4 .read] (asKind .claim awaitingFetch))) (withSq (List.replicate 8 (sqEntry 0 false
    false)) (w0.setWay lR 0 (.reserved lR))))), 0, (expiryHeldOf (listing [item 3 .write, item 4 .read] (asKind .claim awaitingFetch))),
    (driven 4), (noting ({ Recorded.nothing with engine := .follow 0 }) (openWin 2 (.line .fetch 5 1 lR) none none)), 2, .fetch, 5, 1,
    lR, { station := 2, tag := 5, gen := 1, kind := .fetch }, by decide +kernel⟩,
   ⟨(withEntry (listing [item 3 .write, item 4 .read] (asKind .claim awaitingFetch)) (inMode .quiescing (w0.setWay lR 0 (.reserved
    lR)))), 0, (listing [item 3 .write, item 4 .read] (asKind .claim awaitingFetch)), by decide +kernel⟩⟩

theorem witness_HeadJudgedAgainOutcomes :
    (∃ (s : State) (r : LocalReq) (d : Decoded), s.calm = true ∧ s.lpu.lrq = [r] ∧ s.lpu.head = some d ∧ s.judgeHead d =
      HeadAction.waits) ∧
    (∃ (s : State) (r : LocalReq) (d : Decoded) (w : WayNo) (st : LineState) (x : LineData), s.calm = true ∧ s.lpu.lrq = [r] ∧
      s.lpu.head = some d ∧ d.path = .cached ∧ d.item.op = .read ∧ s.findEntry d.line = none ∧ s.findRq d.line = none ∧ s.inTransit
      d.line = false ∧ s.held d.line = some (w, st, x)) :=
  ⟨⟨(withEntry (asKind .recall queuedFetch) (waitingHead (req 3 .read 0x40 8) (passed (req 3 .read 0x40 8) 2 .cached .cached) w0)),
    (req 3 .read 0x40 8), (passed (req 3 .read 0x40 8) 2 .cached .cached), by decide +kernel⟩,
   ⟨(waitingHead (req 3 .read 0x40 8) (passed (req 3 .read 0x40 8) 2 .cached .cached) (holding .sole w0)), (req 3 .read 0x40 8),
    (passed (req 3 .read 0x40 8) 2 .cached .cached), 0, .sole, x7, by decide +kernel⟩⟩

theorem witness_SqPlaceGivenToOldestAsker :
    (∃ (s : State) (first : Asker) (rest : List Asker) (t : ReqTag) (e : PrtEntry) (f : Follower), s.bus.askers = first :: rest ∧
      s.sqFree = true ∧ (rest = [] ∨ s.bus.sq.length + s.sqHeld = 7) ∧ s.portEmpty = true ∧ s.home.wanted = [] ∧ (s.home.port ≠ .idle ∨
      s.home.hwq = []) ∧ s.ctl.mode ≠ .quiescing ∧ (∀ q ∈ s.bus.sq, q.converting = false) ∧ first = .prt t ∧ s.entry t = some e ∧ e.owes
      = .abandoned ∧ e.follower = some f ∧ e.phase = .finishing) ∧
    (∃ (s : State) (first : Asker) (rest : List Asker) (t : ReqTag) (e : PrtEntry) (f : Follower), s.bus.askers = first :: rest ∧
      s.sqFree = true ∧ (rest = [] ∨ s.bus.sq.length + s.sqHeld = 7) ∧ s.portEmpty = true ∧ s.home.wanted = [] ∧ (s.home.port ≠ .idle ∨
      s.home.hwq = []) ∧ s.ctl.mode ≠ .quiescing ∧ (∀ q ∈ s.bus.sq, q.converting = false) ∧ first = .prt t ∧ s.entry t = some e ∧ e.owes
      = .abandoned ∧ e.follower = some f ∧ e.phase = .queued) ∧
    (∃ (s : State) (first : Asker) (rest : List Asker) (t : ReqTag) (e : PrtEntry) (f : Follower) (v : WayNo) (st : LineState) (x :
      LineData), s.bus.askers = first :: rest ∧ s.sqFree = true ∧ (rest = [] ∨ s.bus.sq.length + s.sqHeld = 7) ∧ s.portEmpty = true ∧
      s.home.wanted = [] ∧ (s.home.port ≠ .idle ∨ s.home.hwq = []) ∧ s.ctl.mode ≠ .quiescing ∧ (∀ q ∈ s.bus.sq, q.converting = false) ∧
      first = .prt t ∧ s.entry t = some e ∧ e.owes = .handOff ∧ e.follower = some f ∧ e.way = some v ∧ s.wayAt e.line v = .holding
      e.line st x) ∧
    (∃ (s : State) (first : Asker) (rest : List Asker) (a : MemAddr) (k : HwqWork) (more : List HwqEntry) (n : StationNo) (t : ReqTag)
      (g : Gen) (l : LineNo) (gr : Grant) (x : LineData), s.bus.askers = first :: rest ∧ s.sqFree = true ∧ (rest = [] ∨ s.bus.sq.length
      + s.sqHeld = 7) ∧ s.portEmpty = true ∧ s.home.wanted = [] ∧ (s.home.port ≠ .idle ∨ s.home.hwq = []) ∧ s.ctl.mode ≠ .quiescing ∧ (∀
      q ∈ s.bus.sq, q.converting = false) ∧ first = .home ∧ s.home.hwq = { addr := a, work := k } :: more ∧ (k = .supplyRead n t g l gr
      ∨ k = .directRead n t g l ∧ gr = .none) ∧ s.home.port = .holding (some x)) ∧
    (∃ (s : State) (first : Asker) (rest : List Asker) (a : MemAddr) (k : HwqWork) (more : List HwqEntry) (n : StationNo) (t : ReqTag)
      (g : Gen) (l : LineNo) (gr : Grant), s.bus.askers = first :: rest ∧ s.sqFree = true ∧ (rest = [] ∨ s.bus.sq.length + s.sqHeld = 7)
      ∧ s.portEmpty = true ∧ s.home.wanted = [] ∧ (s.home.port ≠ .idle ∨ s.home.hwq = []) ∧ s.ctl.mode ≠ .quiescing ∧ (∀ q ∈ s.bus.sq,
      q.converting = false) ∧ first = .home ∧ s.home.hwq = { addr := a, work := k } :: more ∧ (k = .supplyRead n t g l gr ∨ k =
      .directRead n t g l ∧ gr = .none) ∧ s.home.port = .holding none) :=
  ⟨⟨(withAskers [.prt 0, .home, .prt 3] (withSq (List.replicate 7 (sqEntry 0 false false)) (withEntry owing w0))), (.prt 0), [.home,
    .prt 3], 0, owing, { station := 2, tag := 5, gen := 1, kind := .fetch }, by decide +kernel⟩,
   ⟨(withAskers [.prt 0, .home] (withSq (List.replicate 7 (sqEntry 0 false false)) (withEntry (requeued owing) w0))), (.prt 0),
    [.home], 0, (requeued owing), { station := 2, tag := 5, gen := 1, kind := .fetch }, by decide +kernel⟩,
   ⟨(withAskers [.prt 0, .prt 1] (withSq (List.replicate 7 (sqEntry 0 false false)) (withEntry (handing .fetch) (holding .altered
    w0)))), (.prt 0), [.prt 1], 0, (handing .fetch), { station := 2, tag := 5, gen := 1, kind := .fetch }, 0, .altered, x7,
    by decide +kernel⟩,
   ⟨(withAskers [.home, .prt 1] (withSq (List.replicate 7 (sqEntry 0 false false)) (keeping (some x7) (.supplyRead 2 5 1 lH .sole)
    w0))), (.home), [.prt 1], 0, (.supplyRead 2 5 1 lH .sole), [], 2, 5, 1, lH, .sole, x7, by decide +kernel⟩,
   ⟨(withAskers [.home, .prt 1] (withSq (List.replicate 7 (sqEntry 0 false false)) (keeping none (.supplyRead 2 5 1 lH .sole) w0))),
    (.home), [.prt 1], 0, (.supplyRead 2 5 1 lH .sole), [], 2, 5, 1, lH, .sole, by decide +kernel⟩⟩

theorem witness_ConversionAndVictimRecall :
    (∃ (s : State) (before : List SqEntry) (after : List SqEntry) (e : SqEntry) (x : LineData), s.bus.sq = before ++ e :: after ∧ (∀ q
      ∈ before, q.converting = false) ∧ e.converting = true ∧ e.msg.data = some x ∧ s.rqFree = true ∧ (s.ret.rq.length = 3 ∨ ∀ q ∈
      after, q.converting = false) ∧ s.bus.askers = [] ∧ s.portEmpty = true ∧ s.home.wanted = [] ∧ (s.home.port ≠ .idle ∨ s.home.hwq =
      []) ∧ s.ctl.mode ≠ .quiescing ∧ s.lpu.log.length < 8) ∧
    (∃ (s : State) (t : ReqTag) (l : LineNo) (before : List LineNo) (after : List LineNo) (x : ExportEntry), s.freeTag = some t ∧
      s.home.wanted = before ++ l :: after ∧ (before.all fun k => Option.all (fun y => y.awaiting.isSome) (s.findExport k)) = true ∧
      s.findExport l = some x ∧ x.awaiting = none ∧ ((∀ (u : ReqTag), u ≠ t → s.entry u ≠ none) ∨ (after.all fun k => k == l ||
      Option.all (fun y => y.awaiting.isSome) (s.findExport k)) = true) ∧ s.portEmpty = true ∧ (s.home.port ≠ .idle ∨ s.home.hwq = []) ∧
      s.bus.askers = [] ∧ (∀ q ∈ s.bus.sq, q.converting = false) ∧ s.ctl.mode ≠ .quiescing) :=
  ⟨⟨(withSq [(sqEntry 0 false false), (sqEntry 0 false false), (sqEntry 1 true true), (sqFor 9 (sqEntry 1 true true)), (sqEntry 0 false
    false)] (withRq [returningOf 5, returningOf 6, returningOf 7] (portTaken (holding .copy w0)))), [(sqEntry 0 false false), (sqEntry 0
    false false)], [(sqFor 9 (sqEntry 1 true true)), (sqEntry 0 false false)], (sqEntry 1 true true), x7, by decide +kernel⟩,
   ⟨(oneTagLeft (wanting [lH, lH + 128, lH + 256] (manyWanted (some 9) none none w0))), 7, (lH + 128), [lH], [lH + 256], (wantedOf 1
    none), by decide +kernel⟩⟩

theorem witness_QuiesceWalkAndEntry :
    (∃ (s : State), s.ctl.mode = .quiescing ∧ s.ret.walk = .notBegun ∧ s.walkMayBegin = true ∧ (∀ p < 2048, s.walkAt p = .empty) ∧
      s.portEmpty = true ∧ (s.home.port ≠ .idle ∨ s.home.hwq = []) ∧ s.home.wanted = [] ∧ s.bus.askers = [] ∧ (∀ q ∈ s.bus.sq,
      q.converting = false) ∧ (s.ret.rq = [] ∧ s.bus.sq = [] ∧ s.sqHeld = 0 ∧ ∀ (t : ReqTag), s.entry t = none)) ∧
    (∃ (s : State), s.ctl.mode = .quiescing ∧ s.ret.walk = .notBegun ∧ s.walkMayBegin = true ∧ (∀ p < 2048, s.walkAt p = .empty) ∧
      s.portEmpty = true ∧ (s.home.port ≠ .idle ∨ s.home.hwq = []) ∧ s.home.wanted = [] ∧ s.bus.askers = [] ∧ (∀ q ∈ s.bus.sq,
      q.converting = false) ∧ (¬(s.ret.rq = [] ∧ s.bus.sq = [] ∧ s.sqHeld = 0 ∧ ∀ (t : ReqTag), s.entry t = none))) ∧
    (∃ (s : State), s.ctl.mode = .quiescing ∧ s.portEmpty = true ∧ (s.home.port ≠ .idle ∨ s.home.hwq = []) ∧ s.home.wanted = [] ∧
      s.bus.askers = [] ∧ (∀ q ∈ s.bus.sq, q.converting = false) ∧ s.ret.walk = .notBegun ∧ s.walkMayBegin = true) ∧
    (∃ (s : State) (p : ℕ) (next : Walk), s.ctl.mode = .quiescing ∧ s.portEmpty = true ∧ (s.home.port ≠ .idle ∨ s.home.hwq = []) ∧
      s.home.wanted = [] ∧ s.bus.askers = [] ∧ (∀ q ∈ s.bus.sq, q.converting = false) ∧ s.ret.walk = .atWay p ∧ p < 2048 ∧ (next = if p
      + 1 < 2048 then .atWay (p + 1) else .done) ∧ s.walkAt p = .empty) ∧
    (∃ (s : State) (p : ℕ) (next : Walk) (l : LineNo) (st : LineState) (x : LineData), s.ctl.mode = .quiescing ∧ s.portEmpty = true ∧
      (s.home.port ≠ .idle ∨ s.home.hwq = []) ∧ s.home.wanted = [] ∧ s.bus.askers = [] ∧ (∀ q ∈ s.bus.sq, q.converting = false) ∧
      s.ret.walk = .atWay p ∧ p < 2048 ∧ (next = if p + 1 < 2048 then .atWay (p + 1) else .done) ∧ s.walkAt p = .holding l st x ∧
      s.underAnswer l = false ∧ s.inTransit l = false ∧ st ≠ .altered) ∧
    (∃ (s : State) (p : ℕ) (next : Walk) (l : LineNo) (st : LineState) (x : LineData), s.ctl.mode = .quiescing ∧ s.portEmpty = true ∧
      (s.home.port ≠ .idle ∨ s.home.hwq = []) ∧ s.home.wanted = [] ∧ s.bus.askers = [] ∧ (∀ q ∈ s.bus.sq, q.converting = false) ∧
      s.ret.walk = .atWay p ∧ p < 2048 ∧ (next = if p + 1 < 2048 then .atWay (p + 1) else .done) ∧ s.walkAt p = .holding l st x ∧
      s.underAnswer l = false ∧ s.inTransit l = false ∧ st = .altered ∧ s.rqFree = true) ∧
    (∃ (s : State) (p : ℕ) (next : Walk) (l : LineNo) (st : LineState) (x : LineData), s.ctl.mode = .quiescing ∧ s.portEmpty = true ∧
      (s.home.port ≠ .idle ∨ s.home.hwq = []) ∧ s.home.wanted = [] ∧ s.bus.askers = [] ∧ (∀ q ∈ s.bus.sq, q.converting = false) ∧
      s.ret.walk = .atWay p ∧ p < 2048 ∧ (next = if p + 1 < 2048 then .atWay (p + 1) else .done) ∧ s.walkAt p = .holding l st x ∧
      (s.underAnswer l = true ∨ s.inTransit l = true ∨ st = .altered ∧ s.rqFree = false)) ∧
    (∃ (s : State), s.ctl.mode = .quiescing ∧ s.ret.walk = .done ∧ s.ret.rq = [] ∧ s.bus.sq = [] ∧ s.sqHeld = 0 ∧ s.cache.pins = [] ∧
      (∀ (t : ReqTag), s.entry t = none)) ∧
    (∃ (s : State), (s.ctl.mode ≠ .quiescing ∨ s.ret.walk ≠ .done ∨ s.ret.rq ≠ [] ∨ s.bus.sq ≠ [] ∨ s.sqHeld ≠ 0 ∨ s.cache.pins ≠ [] ∨
      ∃ t, s.entry t ≠ none)) :=
  ⟨⟨(inMode .quiescing (portTaken w0)), by decide +kernel, by decide +kernel, by decide +kernel, fun p _ => walkAt_empty _ rfl p, by decide +kernel⟩,
   ⟨(withEntry (asKind .recall queuedFetch) (inMode .quiescing (portTaken w0))), by decide +kernel, by decide +kernel, by decide +kernel, fun p _ => walkAt_empty _ rfl p, by decide +kernel⟩,
   ⟨(inMode .quiescing (holding .altered w0)), by decide +kernel⟩,
   ⟨(walking (.atWay 8) (inMode .quiescing w0)), 8, (.atWay 9), by decide +kernel⟩,
   ⟨(walking (.atWay 8) (inMode .quiescing (holding .copy w0))), 8, (.atWay 9), lR, .copy, x7, by decide +kernel⟩,
   ⟨(walking (.atWay 8) (inMode .quiescing (holding .altered w0))), 8, (.atWay 9), lR, .altered, x7, by decide +kernel⟩,
   ⟨(walking (.atWay 8) (inMode .quiescing (withRq (List.replicate 4 (returning [])) (holding .altered w0)))), 8, (.atWay 9), lR,
    .altered, x7, by decide +kernel⟩,
   ⟨(walking .done (inMode .quiescing w0)), by decide +kernel⟩,
   ⟨(walking .done (inMode .quiescing (withEntry queuedFetch w0))), by decide +kernel⟩⟩

theorem witness_NamedUpdateResults :
    (∃ (l : LineNo) (k : LineNo), rlcIndex k ≠ rlcIndex l) ∧
    (∃ (t : ReqTag) (u : ReqTag), u ≠ t) ∧
    (∃ (s : State) (l : LineNo) (w : WayNo) (x : LineData), s.held l = some (w, .copy, x)) ∧
    (∃ (s : State) (l : LineNo) (h0 : StationNo) (a : Access) (k : SegKind) (i : BitVec 4), s.segmentEntry l = .mapped h0 a k i) ∧
    (∃ (i : Item), (i.op = .read ∨ i.op = .pinnedRead)) ∧
    (∃ (i : Item), (i.op = .write ∨ i.op = .pinnedWrite)) :=
  ⟨⟨lR, (lR+1), by decide +kernel⟩,
   ⟨0, 4, by decide +kernel⟩,
   ⟨(holding .copy w0), lR, 0, x7, by decide +kernel⟩,
   ⟨w0, lH, 1, .readWrite, .cached, 0, by decide +kernel⟩,
   ⟨(item 3 .read), by decide +kernel⟩,
   ⟨(item 3 .write), by decide +kernel⟩⟩

end Sys2Proof.Tests
end

section
/-!
PROOF. O7. No command but a reset takes a station out of Operational, Quiescing and Quiesced, and outside these no command touches the
Segment Table or the enrolled set: what each update of the model does to the three fields, and the invariant of R4 and R145 from it.
-/

namespace Sys2Proof.Machine

/-! ### The three fields that membership of the pool is read from -/

/-- The fields that `State.outsideUnmapped` reads. -/
def State.membership (s : State) : Mode × Table SegEntry 8 × StationSet := (s.ctl.mode, s.segments, s.ctl.enrolled)

/-- The invariant is a fact about these fields alone. -/
theorem outsideUnmapped_iff (s : State) :
    s.outsideUnmapped = true ↔
      s.ctl.mode.member = true ∨ (∀ x ∈ s.segments.toList, x = .unmapped) ∧ s.ctl.enrolled = 0 := by
  simp only [State.outsideUnmapped, Bool.or_eq_true, Bool.and_eq_true, List.all_eq_true, beq_iff_eq]

/-- The station is a member afterwards, or it was none before and has kept its Segment Table and its enrolled set: no membership is
lost, and none is prepared from outside (R4, R145). -/
def State.KeepsMembership (s t : State) : Prop :=
  t.ctl.mode.member = true ∨ s.ctl.mode.member = false ∧ t.segments = s.segments ∧ t.ctl.enrolled = s.ctl.enrolled

variable {s t u : State}

theorem State.KeepsMembership.of_eq (h : t.membership = s.membership) : s.KeepsMembership t := by
  simp only [State.membership, Prod.mk.injEq] at h
  obtain ⟨hmode, hseg, henr⟩ := h
  cases hm : s.ctl.mode.member with
  | true => exact .inl (by rw [hmode, hm])
  | false => exact .inr ⟨hm, hseg, henr⟩

theorem State.KeepsMembership.refl (s : State) : s.KeepsMembership s := .of_eq rfl

theorem State.KeepsMembership.trans (h : s.KeepsMembership t) (h' : t.KeepsMembership u) : s.KeepsMembership u := by
  rcases h' with h' | ⟨hm', hseg', henr'⟩
  · exact .inl h'
  · rcases h with h | ⟨hm, hseg, henr⟩
    · exact absurd h (by simp [hm'])
    · exact .inr ⟨hm, hseg'.trans hseg, henr'.trans henr⟩

/-- What leaves the three fields alone may follow. -/
theorem State.KeepsMembership.then_eq (h : s.KeepsMembership t) (h' : u.membership = t.membership) : s.KeepsMembership u :=
  h.trans (.of_eq h')

theorem State.KeepsMembership.outsideUnmapped (h : s.KeepsMembership t) (hs : s.outsideUnmapped = true) :
    t.outsideUnmapped = true := by
  rw [outsideUnmapped_iff] at hs ⊢
  rcases h with h | ⟨hm, hseg, henr⟩
  · exact .inl h
  · rw [hseg, henr]
    exact .inr (hs.resolve_left (by simp [hm]))

/-! ### The named operations (Machine/Flags.lean, Machine/Ops.lean) -/

variable (s)

@[simp] theorem reply_membership (tag : PTag) (st : Status) (p : Payload) : (s.reply tag st p).membership = s.membership := rfl
@[simp] theorem answer_membership (tag : PTag) (st : Status) (p : Payload) : (s.answer tag st p).membership = s.membership := rfl
@[simp] theorem popHead_membership : s.popHead.membership = s.membership := rfl
@[simp] theorem begin_membership : s.begin.membership = s.membership := rfl
@[simp] theorem removePin_membership (l : LineNo) : (s.removePin l).membership = s.membership := rfl
@[simp] theorem addPin_membership (p : PinEntry) : (s.addPin p).membership = s.membership := rfl
@[simp] theorem holdPin_membership (l : LineNo) : (s.holdPin l).membership = s.membership := rfl
@[simp] theorem setWay_membership (l : LineNo) (w : WayNo) (x : Way) : (s.setWay l w x).membership = s.membership := rfl
@[simp] theorem touch_membership (l : LineNo) (w : WayNo) : (s.touch l w).membership = s.membership := rfl
@[simp] theorem walkEmpty_membership (p : Nat) : (s.walkEmpty p).membership = s.membership := rfl
@[simp] theorem setEntry_membership (t : ReqTag) (e : PrtEntry) : (s.setEntry t e).membership = s.membership := rfl
@[simp] theorem freeEntry_membership (t : ReqTag) : (s.freeEntry t).membership = s.membership := rfl
@[simp] theorem makeEntry_membership (t : ReqTag) (e : PrtEntry) : (s.makeEntry t e).membership = s.membership := rfl
@[simp] theorem setTurn_membership (t : Turn) : (s.setTurn t).membership = s.membership := rfl
@[simp] theorem enqueue_membership (i : SendItem) : (s.enqueue i).membership = s.membership := rfl
@[simp] theorem dequeue_membership (i : SendItem) : (s.dequeue i).membership = s.membership := rfl
@[simp] theorem addSq_membership (m : DataMsg) (f : Bool) : (s.addSq m f).membership = s.membership := rfl
@[simp] theorem ask_membership (a : Asker) : (s.ask a).membership = s.membership := rfl
@[simp] theorem idle_membership : s.idle.membership = s.membership := rfl
@[simp] theorem openWindow_membership (w : Window) : (s.openWindow w).membership = s.membership := rfl
@[simp] theorem openAck_membership (own homeTake : Bool) (dest home : Option AckCode) :
    (s.openAck own homeTake dest home).membership = s.membership := rfl
@[simp] theorem addRq_membership (l : LineNo) (d : LineData) (ts : List PTag) : (s.addRq l d ts).membership = s.membership := rfl
@[simp] theorem setWalk_membership (w : Walk) : (s.setWalk w).membership = s.membership := rfl
@[simp] theorem addLineWork_membership (w : HwqWork) : (s.addLineWork w).membership = s.membership := rfl
@[simp] theorem addItemWork_membership (l : LineNo) (i : Item) : (s.addItemWork l i).membership = s.membership := rfl
@[simp] theorem setExportSet_membership (l : LineNo) (es : List ExportEntry) :
    (s.setExportSet l es).membership = s.membership := rfl
@[simp] theorem changeExport_membership (l : LineNo) (f : ExportEntry → ExportEntry) :
    (s.changeExport l f).membership = s.membership := rfl
@[simp] theorem clearAwaiting_membership (l : LineNo) : (s.clearAwaiting l).membership = s.membership := rfl
@[simp] theorem setAwaiting_membership (l : LineNo) : (s.setAwaiting l).membership = s.membership := rfl
@[simp] theorem removeExport_membership (l : LineNo) : (s.removeExport l).membership = s.membership := rfl
@[simp] theorem recallStarts_membership (l : LineNo) : (s.recallStarts l).membership = s.membership := rfl
@[simp] theorem mergeWay_membership (l : LineNo) (w : WayNo) (i : Item) : (s.mergeWay l w i).membership = s.membership := rfl
@[simp] theorem serveRead_membership (l : LineNo) (w : WayNo) (i : Item) : (s.serveRead l w i).membership = s.membership := rfl
@[simp] theorem awaitData_membership (t : ReqTag) (e : PrtEntry) (g : Grant) : (s.awaitData t e g).membership = s.membership := rfl
@[simp] theorem changeSqHead_membership (f : SqEntry → SqEntry) : (s.changeSqHead f).membership = s.membership := rfl
@[simp] theorem dropSqHead_membership : s.dropSqHead.membership = s.membership := rfl
@[simp] theorem writeHome_membership (ps : List Host.Cell) : (s.writeHome ps).membership = s.membership := rfl
@[simp] theorem failWrite_membership (e : HwqEntry) : (s.failWrite e).membership = s.membership := rfl
@[simp] theorem holdResult_membership (r : Option LineData) : (s.holdResult r).membership = s.membership := rfl
@[simp] theorem setGap_membership : s.setGap.membership = s.membership := rfl
@[simp] theorem joinLrq_membership (r : LocalReq) : (s.joinLrq r).membership = s.membership := rfl

/-- Whole blocks other than the Segment Table and the Station Controller may be written. -/
@[simp] theorem withLpu_membership (x : LocalPort) : ({ s with lpu := x } : State).membership = s.membership := rfl
@[simp] theorem withRet_membership (x : ReturnUnit) : ({ s with ret := x } : State).membership = s.membership := rfl
@[simp] theorem withHome_membership (x : HomeUnit) : ({ s with home := x } : State).membership = s.membership := rfl
@[simp] theorem withBusOut_membership (x : BusInterface) (o : Outputs) :
    ({ s with bus := x, out := o } : State).membership = s.membership := rfl

@[simp] theorem addFault_membership (r : FaultRecord) : (s.addFault r).membership = s.membership := by
  simp [State.membership]
@[simp] theorem startPort_membership : s.startPort.membership = s.membership := by unfold State.startPort; split <;> rfl
@[simp] theorem popHwq_membership : s.popHwq.membership = s.membership := by simp [State.popHwq]
@[simp] theorem createOrSet_membership (l : LineNo) (c : ExportClass) : (s.createOrSet l c).membership = s.membership := by
  unfold State.createOrSet; split <;> simp
@[simp] theorem answerFlushes_membership (ts : List PTag) : (s.answerFlushes ts).membership = s.membership := by
  induction ts generalizing s with
  | nil => rfl
  | cons t ts ih => exact ih (s.answer t .ok .none)
@[simp] theorem removeRq_membership (l : LineNo) : (s.removeRq l).membership = s.membership := by
  unfold State.removeRq; split <;> simp

/-! ### The LRQ head (Machine/Head.lean) -/

@[simp] theorem makeAtFree_membership (e : PrtEntry) : (s.makeAtFree e).membership = s.membership := by
  unfold State.makeAtFree; split <;> simp
@[simp] theorem pendPin_membership (i : Item) (l : LineNo) (p : PinPath) : (s.pendPin i l p).membership = s.membership := by
  unfold State.pendPin; split <;> simp
@[simp] theorem attachItem_membership (t : ReqTag) (i : Item) : (s.attachItem t i).membership = s.membership := by
  unfold State.attachItem; split <;> simp
@[simp] theorem evict_membership (l : LineNo) (w : WayNo) : (s.evict l w).membership = s.membership := by
  unfold State.evict; split <;> simp

@[simp] theorem actHead_membership (d : Decoded) (a : HeadAction) : (s.actHead d a).membership = s.membership := by
  cases a with
  | pinRecall => exact makeAtFree_membership s _
  | _ => simp [State.actHead]

@[simp] theorem startHead_membership (d : Decoded) : (s.startHead d).1.membership = s.membership := by
  unfold State.startHead; dsimp only; split
  · rfl
  · split <;> simp

@[simp] theorem refuseDecode_membership (r : LocalReq) (st : Status) (p : Payload) :
    (s.refuseDecode r st p).membership = s.membership := by
  unfold State.refuseDecode; split <;> simp

@[simp] theorem headOnce_membership : s.headOnce.1.membership = s.membership := by
  unfold State.headOnce
  split
  · rfl
  · split
    · simp
    · split <;> simp

/-! ### What follows in the same event (Machine/Settle.lean) -/

@[simp] theorem handOff_membership (t : ReqTag) (e : PrtEntry) (f : Follower) (w : WayNo) :
    (s.handOff t e f w).membership = s.membership := by simp [State.handOff]
@[simp] theorem placeAbandoned_membership (t : ReqTag) (e : PrtEntry) (f : Follower) :
    (s.placeAbandoned t e f).membership = s.membership := by
  unfold State.placeAbandoned; dsimp only; split <;> simp
@[simp] theorem placePrt_membership (t : ReqTag) : (s.placePrt t).membership = s.membership := by
  unfold State.placePrt
  split
  · rfl
  · split <;> simp
@[simp] theorem placeHome_membership : s.placeHome.membership = s.membership := by
  unfold State.placeHome
  split
  · split <;> simp
  all_goals rfl
@[simp] theorem giveTo_membership (a : Asker) : (s.giveTo a).membership = s.membership := by
  cases a <;> simp [State.giveTo]
@[simp] theorem giveOne_membership : s.giveOne.membership = s.membership := by
  unfold State.giveOne
  split
  · rfl
  · split <;> simp
@[simp] theorem givePlaces_membership (n : Nat) : (State.givePlaces n s).membership = s.membership := by
  induction n generalizing s with
  | zero => rfl
  | succ n ih => unfold State.givePlaces; split <;> simp [ih]

@[simp] theorem emptyCopy_membership (l : LineNo) : (s.emptyCopy l).membership = s.membership := by
  unfold State.emptyCopy; split <;> simp
@[simp] theorem convert_membership (e : SqEntry) : (s.convert e).membership = s.membership := by simp [State.convert]
@[simp] theorem convertOne_membership : s.convertOne.membership = s.membership := by
  unfold State.convertOne
  split
  · split <;> simp
  · rfl
@[simp] theorem convertAll_membership (n : Nat) : (State.convertAll n s).membership = s.membership := by
  induction n generalizing s with
  | zero => rfl
  | succ n ih => unfold State.convertAll; split <;> simp [ih]

@[simp] theorem victimOne_membership : s.victimOne.membership = s.membership := by
  unfold State.victimOne; split <;> simp [State.makeVictim]
@[simp] theorem allocate_membership (n : Nat) (a b j : Bool) : (s.allocate n a b j).membership = s.membership := by
  induction n generalizing s a b j with
  | zero => rfl
  | succ n ih => unfold State.allocate; (repeat' split) <;> simp [ih]

@[simp] theorem walkFrom_membership (n p : Nat) : (s.walkFrom n p).membership = s.membership := by
  induction n generalizing s p with
  | zero => simp [State.walkFrom]
  | succ n ih => unfold State.walkFrom; (repeat' split) <;> simp [ih]
@[simp] theorem runWalk_membership : s.runWalk.membership = s.membership := by
  unfold State.runWalk; (repeat' split) <;> simp

/-- R131: Quiesced is entered, and nothing else of the three fields changes. -/
theorem enterQuiesced_keepsMembership : s.KeepsMembership s.enterQuiesced := by
  unfold State.enterQuiesced
  split
  · exact .inl rfl
  · exact .refl s

/-- What follows an event changes the station state from Quiescing to Quiesced alone. -/
theorem settle_keepsMembership (s0 : State) (j : Judged) : s.KeepsMembership (s.settle s0 j) := by
  refine .trans (.of_eq ?_) (enterQuiesced_keepsMembership _)
  simp only [State.allocateAfter, startPort_membership, runWalk_membership, allocate_membership, givePlaces_membership,
    convertAll_membership]

/-- What leaves the three fields alone, and what then follows in the same event. -/
theorem State.KeepsMembership.settle {s t : State} (h : s.KeepsMembership t) (s0 : State) (j : Judged) :
    s.KeepsMembership (t.settle s0 j) :=
  h.trans (settle_keepsMembership t s0 j)

theorem State.KeepsMembership.settle_of_eq {s t : State} (h : t.membership = s.membership) (s0 : State) (j : Judged) :
    s.KeepsMembership (t.settle s0 j) :=
  (of_eq h).settle s0 j

/-! ### The Request Engine (Machine/Engine.lean) -/

@[simp] theorem serveItem_membership (l : LineNo) (w : WayNo) (i : Item) :
    (State.serveItem l w s i).membership = s.membership := by
  unfold State.serveItem
  split
  case h_4 =>
    split
    · split <;> simp
    · simp
  all_goals simp
@[simp] theorem serve_membership (l : LineNo) (w : WayNo) (is : List Item) : (s.serve l w is).membership = s.membership := by
  induction is generalizing s with
  | nil => rfl
  | cons i is ih => exact (ih (State.serveItem l w s i)).trans (serveItem_membership s l w i)
@[simp] theorem answerAll_membership (is : List Item) (st : Status) : (s.answerAll is st).membership = s.membership := by
  rw [answerAll_eq]; rfl

@[simp] theorem dropPendingPin_membership (e : PrtEntry) : (s.dropPendingPin e).membership = s.membership := by
  unfold State.dropPendingPin; split <;> simp
@[simp] theorem emptyReserved_membership (e : PrtEntry) : (s.emptyReserved e).membership = s.membership := by
  unfold State.emptyReserved; split <;> simp
@[simp] theorem recallFails_membership (t : ReqTag) (e : PrtEntry) (st : Status) :
    (s.recallFails t e st).membership = s.membership := by
  unfold State.recallFails; dsimp only; (repeat' split) <;> simp
@[simp] theorem abandonOrFree_membership (t : ReqTag) (e : PrtEntry) : (s.abandonOrFree t e).membership = s.membership := by
  unfold State.abandonOrFree; split <;> simp
@[simp] theorem endEntry_membership (t : ReqTag) (e : PrtEntry) (st : Status) :
    (s.endEntry t e st).membership = s.membership := by simp [State.endEntry]
@[simp] theorem exhaust_membership (t : ReqTag) (e : PrtEntry) : (s.exhaust t e).membership = s.membership := by
  simp [State.exhaust]
@[simp] theorem timeOut_membership (t : ReqTag) (e : PrtEntry) : (s.timeOut t e).membership = s.membership := by
  simp [State.timeOut]

@[simp] theorem cancelEntry_membership (t : ReqTag) (e : PrtEntry) : (s.cancelEntry t e).membership = s.membership := by
  unfold State.cancelEntry; dsimp only; split <;> simp
@[simp] theorem completePromote_membership (t : ReqTag) (e : PrtEntry) (w : WayNo) :
    (s.completePromote t e w).membership = s.membership := by simp [State.completePromote]
@[simp] theorem promoteToClaim_membership (t : ReqTag) (e : PrtEntry) (w : WayNo) :
    (s.promoteToClaim t e w).membership = s.membership := by simp [State.promoteToClaim]
/-- Work for a whole list joins the HWQ. -/
@[simp] theorem addItemWorks_membership (l : LineNo) (is : List Item) :
    (is.foldl (fun s i => s.addItemWork l i) s).membership = s.membership := by
  induction is generalizing s with
  | nil => rfl
  | cons i is ih => exact ih (s.addItemWork l i)
@[simp] theorem completeRecall_membership (t : ReqTag) (e : PrtEntry) : (s.completeRecall t e).membership = s.membership := by
  unfold State.completeRecall; dsimp only; split <;> simp
@[simp] theorem ownResult_membership (t : ReqTag) (e : PrtEntry) (c : AnswerCode) :
    (s.ownResult t e c).membership = s.membership := by
  unfold State.ownResult; (repeat' split) <;> simp

@[simp] theorem afterServing_membership (t : ReqTag) (e : PrtEntry) (w : WayNo) (fromHome : Bool) :
    (s.afterServing t e w fromHome).membership = s.membership := by
  unfold State.afterServing; dsimp only; (repeat' split) <;> simp
@[simp] theorem fillLine_membership (t : ReqTag) (e : PrtEntry) (w : WayNo) (st : LineState) (d : LineData) (fromHome : Bool) :
    (s.fillLine t e w st d fromHome).membership = s.membership := by simp [State.fillLine]
@[simp] theorem takeLine_membership (t : ReqTag) (e : PrtEntry) (g : Grant) (d : LineData) (sender : StationNo) :
    (s.takeLine t e g d sender).membership = s.membership := by
  unfold State.takeLine; split <;> simp
/-- Each request of a list answered with bytes of a line. -/
@[simp] theorem answerBytes_membership (d : LineData) (is : List Item) :
    (is.foldl (fun s i => s.answer i.tag .ok (.bytes (d.bytes i.offset.toNat i.len))) s).membership = s.membership := by
  induction is generalizing s with
  | nil => rfl
  | cons i is ih => exact ih (s.answer i.tag .ok (.bytes (d.bytes i.offset.toNat i.len)))
@[simp] theorem takeDirect_membership (t : ReqTag) (e : PrtEntry) (d : LineData) :
    (s.takeDirect t e d).membership = s.membership := by simp [State.takeDirect]
@[simp] theorem takeRecall_membership (t : ReqTag) (e : PrtEntry) (d : LineData) :
    (s.takeRecall t e d).membership = s.membership := by simp [State.takeRecall]
@[simp] theorem takeAbandoned_membership (t : ReqTag) (e : PrtEntry) : (s.takeAbandoned t e).membership = s.membership := by
  unfold State.takeAbandoned; dsimp only; (repeat' split) <;> simp
@[simp] theorem takeMessage_membership (t : ReqTag) (e : PrtEntry) (m : DataMsg) (sender : StationNo) :
    (s.takeMessage t e m sender).membership = s.membership := by
  unfold State.takeMessage; dsimp only; (repeat' split) <;> simp
@[simp] theorem destinationTakes_membership (sender : StationNo) (m : DataMsg) :
    (s.destinationTakes sender m).2.membership = s.membership := by
  unfold State.destinationTakes; dsimp only; (repeat' split) <;> simp

@[simp] theorem expireData_membership (t : ReqTag) : (s.expireData t).membership = s.membership := by
  unfold State.expireData; (repeat' split) <;> simp
@[simp] theorem takeHeldExpiry_membership (t : ReqTag) : (s.takeHeldExpiry t).membership = s.membership := by
  unfold State.takeHeldExpiry; (repeat' split) <;> simp
@[simp] theorem takeHeldExpiries_membership : s.takeHeldExpiries.membership = s.membership := by
  simp [State.takeHeldExpiries, allTags]

/-! ### Judgements and changes at close (Machine/Snoop.lean) -/

@[simp] theorem markVictim_membership (l : LineNo) : (s.markVictim l).membership = s.membership := by
  unfold State.markVictim; split <;> simp
@[simp] theorem markForRequest_membership (r : Request) : (s.markForRequest r).membership = s.membership := by
  unfold State.markForRequest; (repeat' split) <;> simp
@[simp] theorem closeCache_membership (rec : Recorded) (k : LineKind) (dest : StationNo) (t : ReqTag) (g : Gen) (l : LineNo) :
    (s.closeCache rec k dest t g l).membership = s.membership := by
  unfold State.closeCache; dsimp only; (repeat' split) <;> simp
@[simp] theorem closeTakeover_membership (rec : Recorded) (k : LineKind) (dest : StationNo) (t : ReqTag) (g : Gen)
    (l : LineNo) : (s.closeTakeover rec k dest t g l).membership = s.membership := by
  unfold State.closeTakeover; (repeat' split) <;> simp
@[simp] theorem changeEntry_membership (t : ReqTag) (f : PrtEntry → PrtEntry) : (s.changeEntry t f).membership = s.membership := by
  unfold State.changeEntry; split <;> simp
@[simp] theorem convertPromote_membership (t : ReqTag) : (s.convertPromote t).membership = s.membership := by
  unfold State.convertPromote; dsimp only; (repeat' split) <;> simp
@[simp] theorem closeEngine_membership (rec : Recorded) (c : AnswerCode) (k : LineKind) (sender : StationNo) (t : ReqTag)
    (g : Gen) : (s.closeEngine rec c k sender t g).membership = s.membership := by
  unfold State.closeEngine; (repeat' split) <;> simp
@[simp] theorem returnSettles_membership (l : LineNo) : (s.returnSettles l).membership = s.membership := by
  unfold State.returnSettles; (repeat' split) <;> simp
@[simp] theorem homeChange_membership (sender : StationNo) (r : Request) (c : AnswerCode) :
    (s.homeChange sender r c).membership = s.membership := by
  unfold State.homeChange; (repeat' split) <;> simp
@[simp] theorem applyPeer_membership (sender : StationNo) (r : Request) (rec : Recorded) (c : AnswerCode) :
    (s.applyPeer sender r rec c).membership = s.membership := by
  unfold State.applyPeer; dsimp only; (repeat' split) <;> simp
@[simp] theorem applyOwn_membership (i : SendItem) (c : AnswerCode) : (s.applyOwn i c).membership = s.membership := by
  unfold State.applyOwn; (repeat' split) <;> simp
@[simp] theorem closeWindow_membership (w : Window) (c : AnswerCode) : (s.closeWindow w c).membership = s.membership := by
  unfold State.closeWindow; dsimp only; (repeat' split) <;> simp

/-! ### Enrolment (Machine/Roll.lean) -/

@[simp] theorem notePeer_membership (n : StationNo) : (s.notePeer n).membership = s.membership := by
  unfold State.notePeer; split <;> simp
@[simp] theorem queueReady_membership : s.queueReady.membership = s.membership := by
  unfold State.queueReady; split <;> rfl
@[simp] theorem applyClaim_membership (n : StationNo) (i : Nat) (c : Claim) : (s.applyClaim n i c).membership = s.membership := by
  unfold State.applyClaim
  dsimp only
  split
  · rfl
  · rfl
  · split
    · rw [addFault_membership]; rfl
    · rfl
@[simp] theorem applyClaims_membership (n : StationNo) (i : Nat) (cs : List Claim) :
    (s.applyClaims n i cs).membership = s.membership := by
  induction cs generalizing s i with
  | nil => rfl
  | cons c cs ih => exact (ih (s.applyClaim n i c) (i + 1)).trans (applyClaim_membership s n i c)
@[simp] theorem contestNumber_membership (n : StationNo) : (s.contestNumber n).membership = s.membership := rfl
@[simp] theorem withRoll_membership (x : Roll) : ({ s with ctl.roll := x } : State).membership = s.membership := rfl
@[simp] theorem recordAnnounce_membership (n : StationNo) (f : BitVec 4) (cs : List Claim) (own : Bool) :
    (s.recordAnnounce n f cs own).membership = s.membership := by
  unfold State.recordAnnounce; dsimp only; split <;> simp
@[simp] theorem closeRoll_membership : s.closeRoll.membership = s.membership := by
  unfold State.closeRoll; split <;> rfl
@[simp] theorem countReady_membership (n : StationNo) : (s.countReady n).membership = s.membership := by
  unfold State.countReady; split <;> rfl

/-- What leaves the three fields alone leaves the station state alone. -/
theorem mode_of_membership {s t : State} (h : t.membership = s.membership) : t.ctl.mode = s.ctl.mode :=
  congrArg (fun x => x.1) h

/-- R154: a station becomes Isolated; from outside the pool it stays outside. -/
theorem isolate_keepsMembership (r : FaultRecord) (h : s.ctl.mode.member = false) : s.KeepsMembership (s.isolate r) :=
  .inr ⟨h, addFault_segments s r, congrArg (fun c => c.enrolled) (addFault_ctl s r)⟩

/-- R151: the entry into Operational. -/
theorem checkOperational_keepsMembership : s.KeepsMembership s.checkOperational := by
  unfold State.checkOperational
  split
  · exact .inl rfl
  · exact .refl s

/-- R150 at an Enrolling station. -/
theorem enrolReady_keepsMembership (n : StationNo) (set : StationSet) (h : s.ctl.mode = .enrolling) :
    s.KeepsMembership (s.enrolReady n set) := by
  have hclosed : s.KeepsMembership s.closeRoll := .of_eq (closeRoll_membership s)
  have hmode : s.closeRoll.ctl.mode.member = false := by rw [mode_of_membership (closeRoll_membership s), h]; rfl
  unfold State.enrolReady
  dsimp only
  split
  · exact hclosed.trans (isolate_keepsMembership _ _ hmode)
  · split
    · exact hclosed.trans (isolate_keepsMembership _ _ hmode)
    · exact (hclosed.then_eq (by simp)).trans (checkOperational_keepsMembership _)

/-- R146, R150: the close of a Ready. -/
theorem takeReady_keepsMembership (n : StationNo) (set : StationSet) : s.KeepsMembership (s.takeReady n set) := by
  unfold State.takeReady
  split
  case h_2 h => exact enrolReady_keepsMembership s n set h
  all_goals exact .of_eq rfl

/-- R146, R147: the close of an Announce. -/
theorem takeAnnounce_keepsMembership (n : StationNo) (f : BitVec 4) (cs : List Claim) (own : Bool) :
    s.KeepsMembership (s.takeAnnounce n f cs own) := by
  unfold State.takeAnnounce
  split
  case isFalse => exact .refl s
  case isTrue hmode =>
    have hout : s.ctl.mode.member = false := by rcases hmode with h | h <;> rw [h] <;> rfl
    split
    · exact .of_eq (by split <;> simp)
    · split
      · exact .refl s
      · split
        · exact isolate_keepsMembership s _ hout
        · exact .of_eq (by split <;> simp)

/-- R149, R151: the enrolment timer. -/
theorem expireEnrolment_keepsMembership : s.KeepsMembership s.expireEnrolment := by
  unfold State.expireEnrolment
  split
  case isFalse => exact .refl s
  case isTrue h =>
    split
    · exact isolate_keepsMembership s _ (by rw [h.1]; rfl)
    · exact .of_eq (by simp)

/-- R143: a Join that is taken. -/
theorem joinRoll_keepsMembership (h : s.ctl.mode = .dormant) : s.KeepsMembership s.joinRoll := by
  have hout : s.ctl.mode.member = false := by rw [h]; rfl
  unfold State.joinRoll
  split
  · exact isolate_keepsMembership s _ hout
  · split
    · exact isolate_keepsMembership s _ hout
    · exact .inr ⟨hout, rfl, rfl⟩

/-! ### The pool bus (Machine/Bus.lean, Machine/BusEvents.lean) -/

@[simp] theorem sendRequest_membership : s.sendRequest.membership = s.membership := by
  unfold State.sendRequest; (repeat' split) <;> simp
@[simp] theorem sendData_membership : s.sendData.membership = s.membership := by
  unfold State.sendData; split <;> rfl
@[simp] theorem send_membership (c : ContenderClass) : (s.send c).membership = s.membership := by
  unfold State.send; (repeat' split) <;> simp
@[simp] theorem contend_membership (peers : List Contender) (d : Declared) : (s.contend peers d).membership = s.membership := by
  unfold State.contend; dsimp only; (repeat' split) <;> simp

@[simp] theorem judgeArrival_membership (sender : StationNo) (r : Request) :
    (s.judgeArrival sender r).membership = s.membership := by
  unfold State.judgeArrival; dsimp only; split <;> simp
@[simp] theorem memberArrival_membership (sender : StationNo) (r : Request) :
    (s.memberArrival sender r).membership = s.membership := by
  unfold State.memberArrival; split <;> simp

/-- R43, R153: a peer's request message makes an Enrolling station Isolated at most. -/
theorem peerArrival_keepsMembership (msg : Option (StationNo × Request)) : s.KeepsMembership (s.peerArrival msg) := by
  unfold State.peerArrival
  split
  case h_3 hmode =>
    split
    · exact .of_eq (by simp)
    · split
      · exact .of_eq (by simp)
      · exact (isolate_keepsMembership s _ (by rw [hmode]; rfl)).then_eq (openWindow_membership _ _)
  all_goals exact .of_eq (by (repeat' split) <;> simp)

@[simp] theorem homeTakes_membership (sender : StationNo) (m : DataMsg) : (s.homeTakes sender m).2.membership = s.membership := by
  unfold State.homeTakes; (repeat' split) <;> simp
@[simp] theorem abandonedAtHome_membership (m : DataMsg) : (s.abandonedAtHome m).membership = s.membership := by
  unfold State.abandonedAtHome; split <;> simp
@[simp] theorem homePart_membership (sender : StationNo) (m : DataMsg) : (s.homePart sender m).2.membership = s.membership := by
  unfold State.homePart; dsimp only; split <;> simp
@[simp] theorem destPart_membership (sender : StationNo) (m : DataMsg) : (s.destPart sender m).2.membership = s.membership := by
  unfold State.destPart; dsimp only; split <;> simp

theorem memberData_keepsMembership (sender : StationNo) (m : DataMsg) : s.KeepsMembership (s.memberData sender m) :=
  .settle_of_eq (by simp) _ _

/-- R146, R153, R154: a peer's data message makes an Enrolling station Isolated at most. -/
theorem peerData_keepsMembership (msg : Option (StationNo × DataMsg)) : s.KeepsMembership (s.peerData msg) := by
  unfold State.peerData
  split
  case h_3 hmode =>
    split
    · exact .of_eq (by simp)
    · exact (isolate_keepsMembership s _ (by rw [hmode]; rfl)).then_eq (openAck_membership _ _ _ _ _)
  case h_5 | h_6 | h_7 =>
    split
    · exact .of_eq (by simp)
    · exact memberData_keepsMembership s _ _
  all_goals exact .of_eq (by simp)

@[simp] theorem failedRecords_membership (e : SqEntry) : (s.failedRecords e).membership = s.membership := by
  unfold State.failedRecords; dsimp only; (repeat' split) <;> simp
@[simp] theorem endDelivery_membership (e : SqEntry) : (s.endDelivery e).membership = s.membership := by
  unfold State.endDelivery; (repeat' split) <;> simp
@[simp] theorem senderAck_membership (read : Option SqEntry) : (s.senderAck read).1.membership = s.membership := by
  unfold State.senderAck; (repeat' split) <;> simp

theorem closeAck_keepsMembership (a : AckWindow) (dest home : BitVec 3) : s.KeepsMembership (s.closeAck a dest home) :=
  .settle_of_eq (by simp) _ _

@[simp] theorem requeueOwn_membership (own : Option SendItem) : (s.requeueOwn own).membership = s.membership := by
  unfold State.requeueOwn; (repeat' split) <;> simp

theorem closeAnnounce_keepsMembership (own : Option SendItem) (n : StationNo) (f : BitVec 4) (cs : List Claim)
    (c : AnswerCode) : s.KeepsMembership (s.closeAnnounce own n f cs c) := by
  cases c with
  | clear => exact takeAnnounce_keepsMembership s n f cs own.isSome
  | void | again => exact .of_eq (requeueOwn_membership s own)
  | shared | supply | follow => exact .refl s

theorem closeReady_keepsMembership (own : Option SendItem) (n : StationNo) (set : StationSet) (c : AnswerCode) :
    s.KeepsMembership (s.closeReady own n set c) := by
  cases c with
  | clear => exact takeReady_keepsMembership s n set
  | void | again => exact .of_eq (requeueOwn_membership s own)
  | shared | supply | follow => exact .refl s

theorem closeAny_keepsMembership (w : Window) (c : AnswerCode) : s.KeepsMembership (s.closeAny w c) := by
  unfold State.closeAny
  split
  · exact (closeAnnounce_keepsMembership s _ _ _ _ c).then_eq (idle_membership _)
  · exact (closeReady_keepsMembership s _ _ _ c).then_eq (idle_membership _)
  all_goals exact .of_eq (closeWindow_membership s w c)

variable {s} in
theorem closeAnswer_keepsMembership {t : State} {kind : WindowKind} {driven : Table (BitVec 3) 4}
    (h : s.closeAnswer kind driven = .next t) : s.KeepsMembership t := by
  unfold State.closeAnswer at h
  split at h
  case h_1 => cases h; exact .refl s
  case h_2 w _ =>
    split at h
    · cases h; exact (closeAny_keepsMembership s w _).settle s .all
    · cases h
  all_goals cases h

/-! ### The control window and the local port (Machine/Registers.lean, Machine/LocalPort.lean) -/

@[simp] theorem recheckHead_membership : s.recheckHead.membership = s.membership := by
  unfold State.recheckHead; split <;> simp

theorem doJoin_keepsMembership (tag : PTag) : s.KeepsMembership (s.doJoin tag) := by
  unfold State.doJoin
  split
  · exact .of_eq (by simp)
  case isFalse hmode =>
    split
    · exact .of_eq (by simp)
    · exact (joinRoll_keepsMembership s (not_not.mp hmode)).then_eq (reply_membership _ _ _ _)

/-- R128: Quiesce leads from Operational to Quiescing. -/
theorem doQuiesce_keepsMembership (tag : PTag) : s.KeepsMembership (s.doQuiesce tag) := by
  unfold State.doQuiesce
  split
  · have hentered : s.KeepsMembership (s.enterMode .quiescing) := .inl rfl
    exact (hentered.then_eq (by simp)).settle s .byChange
  · exact .of_eq (by simp)

/-- R132: Resume leads back to Operational. -/
theorem doResume_keepsMembership (tag : PTag) : s.KeepsMembership (s.doResume tag) := by
  unfold State.doResume
  split
  · exact .inl rfl
  · exact .of_eq (by simp)

@[simp] theorem clearLog_membership (tag : PTag) : (s.clearLog tag).membership = s.membership := rfl
@[simp] theorem readStatus_membership (tag : PTag) : (s.readStatus tag).membership = s.membership := rfl
@[simp] theorem writeEnables_membership (tag : PTag) (v : BitVec 64) : (s.writeEnables tag v).membership = s.membership := rfl
@[simp] theorem popLog_membership (tag : PTag) : (s.popLog tag).membership = s.membership := by
  unfold State.popLog; split <;> rfl
@[simp] theorem writeStart_membership (tag : PTag) (x : Register) (v : BitVec 64) :
    (s.writeStart tag x v).membership = s.membership := by
  unfold State.writeStart; split <;> rfl
@[simp] theorem controlRead_membership (tag : PTag) (o : BitVec 12) : (s.controlRead tag o).membership = s.membership := by
  unfold State.controlRead; split <;> simp

theorem writeCommand_keepsMembership (tag : PTag) (v : BitVec 64) : s.KeepsMembership (s.writeCommand tag v) := by
  unfold State.writeCommand
  split
  · exact doJoin_keepsMembership s tag
  · split
    · exact doQuiesce_keepsMembership s tag
    · split
      · exact doResume_keepsMembership s tag
      · exact .of_eq (by split <;> simp)

theorem controlWrite_keepsMembership (tag : PTag) (o : BitVec 12) (v : BitVec 64) :
    s.KeepsMembership (s.controlWrite tag o v) := by
  unfold State.controlWrite
  split
  case h_3 => exact writeCommand_keepsMembership s tag v
  all_goals exact .of_eq (by simp)

/-- R162: a control request that is refused TAG_IN_USE has no effect, and keeps membership as its effect does. -/
theorem control_keepsMembership (tag : PTag) (effect : State → State) (h : s.KeepsMembership (effect s)) :
    s.KeepsMembership (s.control tag effect) := by
  unfold State.control
  split
  · exact .of_eq (by simp)
  · exact h

theorem controlRequest_keepsMembership (tag : PTag) (code : BitVec 3) (o : BitVec 12) (len : BitVec 6) (data : List Byte) :
    s.KeepsMembership (s.controlRequest tag code o len data) := by
  refine control_keepsMembership s tag _ ?_
  split
  · exact .of_eq (by simp)
  · split
    · exact .of_eq (by simp)
    · split
      · exact controlWrite_keepsMembership s tag o _
      · exact .of_eq (by simp)

theorem acceptPool_keepsMembership (r : LocalReq) : s.KeepsMembership (s.acceptPool r) := by
  unfold State.acceptPool
  split
  · exact .of_eq (by simp)
  · split
    · exact .settle_of_eq (joinLrq_membership s r) s .all
    · exact .of_eq (by simp)

theorem acceptLocal_keepsMembership (tag : PTag) (code : BitVec 3) (addr : LocalAddr) (len : BitVec 6) (data : List Byte) :
    s.KeepsMembership (s.acceptLocal tag code addr len data) := by
  unfold State.acceptLocal
  split
  · exact controlRequest_keepsMembership s tag code _ len data
  · exact acceptPool_keepsMembership s _
  all_goals exact .of_eq (by simp)

/-! ### The memory port and the timers (Machine/Home.lean, Machine/Timers.lean) -/

@[simp] theorem pinCompletes_membership (l : LineNo) (tag : PTag) : (s.pinCompletes l tag).membership = s.membership := by
  unfold State.pinCompletes; split <;> simp
@[simp] theorem pinFails_membership (l : LineNo) (tag : PTag) : (s.pinFails l tag).membership = s.membership := by
  unfold State.pinFails; split <;> simp
@[simp] theorem memorySuccess_membership (e : HwqEntry) : (s.memorySuccess e).membership = s.membership := by
  unfold State.memorySuccess; split <;> simp
@[simp] theorem memoryError_membership (e : HwqEntry) : (s.memoryError e).membership = s.membership := by
  unfold State.memoryError State.errorEffect; split <;> simp
@[simp] theorem completeMemory_membership (ok : Bool) : (s.completeMemory ok).membership = s.membership := by
  unfold State.completeMemory; (repeat' split) <;> simp
@[simp] theorem expireAwaiting_membership (l : LineNo) : (s.expireAwaiting l).membership = s.membership := by
  unfold State.expireAwaiting; split <;> simp
@[simp] theorem expirePin_membership (l : LineNo) : (s.expirePin l).membership = s.membership := by
  unfold State.expirePin; (repeat' split) <;> simp

/-! ### The commands (Machine/Dispatch.lean) -/

variable {s t u : State}

/-- What follows the begin of a command keeps membership as it does upon the station itself. -/
theorem State.KeepsMembership.of_begin (h : s.begin.KeepsMembership t) : s.KeepsMembership t :=
  (of_eq (begin_membership s)).trans h

theorem State.KeepsMembership.of_begin_next (hnext : (Host.Outcome.next u : Host.Outcome State Fault Refusal) = .next t)
    (h : s.begin.KeepsMembership u) : s.KeepsMembership t := by
  cases hnext; exact h.of_begin

theorem execContention_keepsMembership {peers : List Contender} {own : Declared}
    (h : execContention peers own s = .next t) : s.KeepsMembership t := by
  unfold execContention at h
  split at h
  · cases h; exact .of_eq rfl
  · split at h
    · cases h; exact .of_eq (by simp)
    · cases h

theorem execRequestArrival_keepsMembership {bytes : List Byte} (h : execRequestArrival bytes s = .next t) :
    s.KeepsMembership t := by
  unfold execRequestArrival at h
  split at h
  · cases h; exact .of_eq rfl
  · split at h
    case h_1 => cases h; exact .of_eq rfl
    case h_2 => cases h; exact .of_begin ((peerArrival_keepsMembership _ _).settle _ _)
    all_goals cases h

theorem execDataMessageArrival_keepsMembership {bytes : List Byte} (h : execDataMessageArrival bytes s = .next t) :
    s.KeepsMembership t := by
  unfold execDataMessageArrival at h
  split at h
  · cases h; exact .of_eq rfl
  · split at h
    case h_1 => cases h; exact .of_eq rfl
    case h_2 => cases h; exact .of_begin (peerData_keepsMembership _ _)
    all_goals cases h

theorem execAcknowledgementWindowClose_keepsMembership {dest home : BitVec 3}
    (h : execAcknowledgementWindowClose dest home s = .next t) : s.KeepsMembership t := by
  unfold execAcknowledgementWindowClose at h
  split at h
  case h_1 => cases h; exact .of_eq rfl
  case h_2 => cases h; exact .of_begin (closeAck_keepsMembership _ _ _ _)
  all_goals cases h

/-- R145: every command that is no reset keeps membership. -/
theorem exec_keepsMembership {c : Instr} (hreset : c ≠ .poolReset ∧ c ≠ .powerOn ∧ c ≠ .stationReset)
    (h : exec c s = .next t) : s.KeepsMembership t := by
  cases c with
  | poolReset | powerOn | stationReset => simp at hreset
  | localRequestAcceptance => exact .of_begin_next h (acceptLocal_keepsMembership _ _ _ _ _ _)
  | join tag => exact .of_begin_next h (control_keepsMembership _ tag _ (doJoin_keepsMembership _ tag))
  | quiesce tag => exact .of_begin_next h (control_keepsMembership _ tag _ (doQuiesce_keepsMembership _ tag))
  | resume tag => exact .of_begin_next h (control_keepsMembership _ tag _ (doResume_keepsMembership _ tag))
  | clearLog tag | faultLogPop tag | stationStatusRead tag | eventEnableWrite tag =>
    exact .of_begin_next h (control_keepsMembership _ tag _ (.of_eq (by simp)))
  | registerWrite tag o v => exact .of_begin_next h (control_keepsMembership _ tag _ (controlWrite_keepsMembership _ tag o v))
  | contention => exact execContention_keepsMembership h
  | requestArrival => exact execRequestArrival_keepsMembership h
  | answerWindowClose | announceClose | readyClose => exact .of_begin (closeAnswer_keepsMembership h)
  | dataMessageArrival => exact execDataMessageArrival_keepsMembership h
  | acknowledgementWindowClose => exact execAcknowledgementWindowClose_keepsMembership h
  | enrolmentTimerExpiry => exact .of_begin_next h (expireEnrolment_keepsMembership _)
  | quiescedEntry => exact .of_begin_next h (enterQuiesced_keepsMembership _)
  | memoryCompletion ok => exact .of_begin_next h (.settle_of_eq (completeMemory_membership _ ok) _ _)
  | dataTimerExpiry tag => exact .of_begin_next h (.settle_of_eq (expireData_membership _ tag) _ _)
  | awaitingDataTimerExpiry l => exact .of_begin_next h (.settle_of_eq (expireAwaiting_membership _ l) _ _)
  | pinTimerExpiry l => exact .of_begin_next h (.settle_of_eq (expirePin_membership _ l) _ _)
  | headJudgedAgain => exact .of_begin_next h (settle_keepsMembership _ _ _)
  | sqPlaceGiven => exact .of_begin_next h (.settle_of_eq (giveOne_membership _) _ _)
  | conversionToReturn => exact .of_begin_next h (.settle_of_eq (convertOne_membership _) _ _)
  | victimRecall => exact .of_begin_next h (.settle_of_eq (victimOne_membership _) _ _)
  | quiesceWalk => exact .of_begin_next h (.settle_of_eq (runWalk_membership _) _ _)

/-- R4: after a reset every segment is unmapped and the enrolled set empty. -/
theorem resetTo_outsideUnmapped (m : Mode) : (s.resetTo m).outsideUnmapped = true := by
  rw [outsideUnmapped_iff]
  refine .inr ⟨fun x hx => ?_, rfl⟩
  have hmem : x ∈ List.replicate (2 ^ 8) SegEntry.unmapped := hx
  exact List.eq_of_mem_replicate hmem

theorem exec_keeps_outsideUnmapped {c : Instr} (hs : s.outsideUnmapped = true) (h : exec c s = .next t) :
    t.outsideUnmapped = true := by
  cases c with
  | poolReset | powerOn => cases h; exact resetTo_outsideUnmapped .dormant
  | stationReset => cases h; exact resetTo_outsideUnmapped .parked
  | _ => exact (exec_keepsMembership (by simp) h).outsideUnmapped hs

/-- Settles O7: a step runs the front command on the queue's rest, which the invariant does not read. -/
theorem stepKeepsOutsideUnmapped : Obligations.StepKeepsOutsideUnmapped := by
  intro s t hs h
  unfold step at h
  split at h
  case h_1 => cases h; exact hs
  case h_2 c rest _ => exact exec_keeps_outsideUnmapped (s := { s with pending := rest }) hs h

end Sys2Proof.Machine
end

section
/-!
PROOF. O13 to O16: what the decode of a request comes to (R7), and what a refusal at decode does, at the LRQ head and at the acceptance of a
request that becomes the head.
-/

namespace Sys2Proof.Machine

variable {s : State} {r : LocalReq}

/-! ### The checks of R7 -/

theorem misaligned_iff : misaligned r = true ↔ r.op ≠ .flushLine ∧ 64 < (offsetOfAddr r.addr).toNat + r.len := by
  simp [misaligned]

theorem misaligned_eq_false_iff : misaligned r = false ↔ r.op = .flushLine ∨ (offsetOfAddr r.addr).toNat + r.len ≤ 64 := by
  rw [← Bool.not_eq_true, misaligned_iff, not_and_or, not_not, not_lt]

theorem isRead_iff {op : LocalOp} : op.isRead = true ↔ op = .read ∨ op = .pinnedRead := by cases op <;> decide

theorem isPinned_iff {op : LocalOp} : op.isPinned = true ↔ op = .pinnedRead ∨ op = .pinnedWrite := by cases op <;> decide

/-- Is the line's segment entry unmapped or contested? (R9) -/
def State.unmappedFor (s : State) (r : LocalReq) : Prop :=
  s.segmentEntry (lineOfAddr r.addr) = .unmapped ∨ s.segmentEntry (lineOfAddr r.addr) = .contested

/-- What R9 gives back for a read kind. -/
def LocalReq.zeros (r : LocalReq) : Payload :=
  if r.op = .read ∨ r.op = .pinnedRead then .bytes (List.replicate r.len 0) else .none

theorem decode_misaligned (h : misaligned r = true) : s.decode r = .refuse .misaligned .none := by
  simp [State.decode, h]

theorem decode_unmapped (hal : misaligned r = false) (h : s.unmappedFor r) : s.decode r = .refuse .unmapped r.zeros := by
  rcases h with h | h <;> simp [State.decode, hal, h, LocalReq.zeros, isRead_iff]

section
variable {home : StationNo} {a : Access} {k : SegKind} {i : BitVec 4}

theorem decode_access (hal : misaligned r = false) (hseg : s.segmentEntry (lineOfAddr r.addr) = .mapped home a k i)
    (h : a.permits r.op = false) : s.decode r = .refuse .access .none := by
  simp [State.decode, hal, hseg, h]

theorem decode_notCacheable (hal : misaligned r = false) (hseg : s.segmentEntry (lineOfAddr r.addr) = .mapped home a k i)
    (hperm : a.permits r.op = true) (hpin : r.op.isPinned = true) (hk : k = .direct) :
    s.decode r = .refuse .notCacheable .none := by
  simp [State.decode, hal, hseg, hperm, hpin, hk]

theorem decode_stateRefused {st : Status} (hal : misaligned r = false)
    (hseg : s.segmentEntry (lineOfAddr r.addr) = .mapped home a k i) (hperm : a.permits r.op = true)
    (hpin : ¬(r.op.isPinned = true ∧ k = .direct)) (h : s.stateRefusal r.op home (lineOfAddr r.addr) = some st) :
    s.decode r = .refuse st .none := by
  simp [State.decode, hal, hseg, hperm, hpin, h]

/-- A request that no check refuses is passed on, or is a Flush Line answered OK (R13). -/
theorem decode_not_refused (hal : misaligned r = false)
    (hseg : s.segmentEntry (lineOfAddr r.addr) = .mapped home a k i) (hperm : a.permits r.op = true)
    (hpin : ¬(r.op.isPinned = true ∧ k = .direct)) (h : s.stateRefusal r.op home (lineOfAddr r.addr) = none)
    (st : Status) (p : Payload) : s.decode r ≠ .refuse st p := by
  simp only [State.decode, hal, hseg, hperm, hpin, h, Bool.and_eq_true, beq_iff_eq, Bool.false_eq_true, Bool.true_eq_false,
    if_false]
  split <;> simp

end

/-- R12 refuses with the station state alone. -/
theorem stateRefusal_status {op : LocalOp} {home : StationNo} {l : LineNo} {st : Status}
    (h : s.stateRefusal op home l = some st) : st = .quiescing ∨ st = .quiesced := by
  unfold State.stateRefusal at h
  dsimp only at h
  split at h
  case h_1 => split at h <;> simp_all
  case h_2 => split at h <;> simp_all
  all_goals cases h

/-- Which check of R7 a refusal at decode comes from, by its status. -/
theorem decode_refuse_cases {st : Status} {p : Payload} (h : s.decode r = .refuse st p) :
    misaligned r = true ∧ st = .misaligned ∨
      misaligned r = false ∧ s.unmappedFor r ∧ st = .unmapped ∨
      ∃ home a k i, misaligned r = false ∧ s.segmentEntry (lineOfAddr r.addr) = .mapped home a k i ∧
        (a.permits r.op = false ∧ st = .access ∨
          a.permits r.op = true ∧ r.op.isPinned = true ∧ k = .direct ∧ st = .notCacheable ∨
          st = .quiescing ∨ st = .quiesced) := by
  cases hal : misaligned r with
  | true =>
    rw [decode_misaligned hal] at h
    cases h; exact .inl ⟨rfl, rfl⟩
  | false =>
    cases hseg : s.segmentEntry (lineOfAddr r.addr) with
    | unmapped =>
      rw [decode_unmapped hal (.inl hseg)] at h
      cases h; exact .inr (.inl ⟨rfl, .inl hseg, rfl⟩)
    | contested =>
      rw [decode_unmapped hal (.inr hseg)] at h
      cases h; exact .inr (.inl ⟨rfl, .inr hseg, rfl⟩)
    | mapped home a k i =>
      refine .inr (.inr ⟨home, a, k, i, rfl, rfl, ?_⟩)
      cases hperm : a.permits r.op with
      | false =>
        rw [decode_access hal hseg hperm] at h
        cases h; exact .inl ⟨rfl, rfl⟩
      | true =>
        refine .inr ?_
        by_cases hpin : r.op.isPinned = true ∧ k = .direct
        · rw [decode_notCacheable hal hseg hperm hpin.1 hpin.2] at h
          cases h; exact .inl ⟨rfl, hpin.1, hpin.2, rfl⟩
        · cases hst : s.stateRefusal r.op home (lineOfAddr r.addr) with
          | some st' =>
            rw [decode_stateRefused hal hseg hperm hpin hst] at h
            cases h; exact .inr (stateRefusal_status hst)
          | none => exact absurd h (decode_not_refused hal hseg hperm hpin hst st p)

/-! ### A refusal at decode, at the LRQ head -/

/-- The Fault Log once a request has been refused at decode with a status: UNMAPPED alone is recorded, where there is room (R9, R165). -/
def State.logRefusing (s : State) (r : LocalReq) (st : Status) : List FaultRecord :=
  if st = .unmapped then (if s.lpu.log.length < 8 then s.lpu.log ++ [r.unmappedRecord] else s.lpu.log) else s.lpu.log

/-- The overflow flag then. -/
def State.overflowRefusing (s : State) (st : Status) : Bool :=
  if st = .unmapped then (if s.lpu.log.length < 8 then s.lpu.overflow else true) else s.lpu.overflow

/-- What a refusal at decode does, the leaving of the LRQ apart. -/
theorem refuseDecode_eq (s : State) (r : LocalReq) (st : Status) (p : Payload) :
    s.refuseDecode r st p =
      { s with
        lpu := { s.lpu with tags := s.tagsWithout r.tag, log := s.logRefusing r st, overflow := s.overflowRefusing st }
        out := { s.out with responses := s.out.responses ++ [{ tag := r.tag, status := st, payload := p }] } } := by
  unfold State.refuseDecode State.logRefusing State.overflowRefusing
  by_cases hst : st = .unmapped
  · by_cases hroom : s.lpu.log.length < 8
    · simp only [hst, hroom, if_true, addFault_room s _ hroom]
      rfl
    · simp only [hst, hroom, if_true, if_false, addFault_full s _ (not_lt.mp hroom)]
      rfl
  · simp only [hst, if_false]
    rfl

/-- The head not yet decoded, refused at decode, leaves the LRQ (R7). -/
theorem headOnce_refused {rest : List LocalReq} {st : Status} {p : Payload} (hq : s.lpu.lrq = r :: rest)
    (hhead : s.lpu.head = none) (h : s.decode r = .refuse st p) :
    s.headOnce =
      ({ s with
         lpu :=
           { s.lpu with
             lrq := rest, head := none, pinRecall := none, tags := s.tagsWithout r.tag
             log := s.logRefusing r st, overflow := s.overflowRefusing st }
         out := { s.out with responses := s.out.responses ++ [{ tag := r.tag, status := st, payload := p }] } },
       true) := by
  simp only [State.headOnce, hq, hhead, h, refuseDecode_eq, State.popHead, List.tail_cons]

/-- The same for a status that is not recorded. -/
theorem headOnce_refused_unlogged {rest : List LocalReq} {st : Status} {p : Payload} (hq : s.lpu.lrq = r :: rest)
    (hhead : s.lpu.head = none) (h : s.decode r = .refuse st p) (hst : st ≠ .unmapped) :
    s.headOnce =
      ({ s with
         lpu := { s.lpu with lrq := rest, head := none, pinRecall := none, tags := s.tagsWithout r.tag }
         out := { s.out with responses := s.out.responses ++ [{ tag := r.tag, status := st, payload := p }] } },
       true) := by
  rw [headOnce_refused hq hhead h]
  simp [State.logRefusing, State.overflowRefusing, hst]

/-! ### The acceptance of a request that becomes the head -/

variable {tag : PTag} {code : BitVec 3} {addr : LocalAddr} {len : BitVec 6} {data : List Byte}

theorem accepts_iff : s.accepts tag code addr len data r = true ↔
    s.still = true ∧ s.takesPool tag = true ∧ poolRequest s.ctl.start.base tag code addr len data = some r := by
  simp [State.accepts, and_assoc]

/-- Only the pool window's requests with an operation become requests of the LRQ, and these go the way of R157. -/
theorem acceptLocal_of_poolRequest (h : poolRequest s.ctl.start.base tag code addr len data = some r) :
    s.acceptLocal tag code addr len data = s.acceptPool r := by
  unfold poolRequest at h
  split at h
  case h_1 a op hc ho => cases h; simp [State.acceptLocal, hc, ho]
  all_goals cases h

theorem tag_of_poolRequest {base : BitVec 40} (h : poolRequest base tag code addr len data = some r) : r.tag = tag := by
  unfold poolRequest at h
  split at h
  case h_1 => cases h; rfl
  all_goals cases h

/-- A station with nothing left to happen has no request waiting. -/
theorem still_iff : s.still = true ↔
    s.calm = true ∧ s.lpu.lrq = [] ∧ s.lpu.head = none ∧ s.lpu.pinRecall = none := by
  simp [State.still, State.portEmpty, and_assoc]

theorem takesPool_iff : s.takesPool tag = true ↔
    s.ctl.mode ≠ .parked ∧ s.ctl.mode ≠ .isolated ∧ s.tagInUse tag = false := by
  simp [State.takesPool, and_assoc]

/-- A request accepted at a station with nothing left to happen joins the LRQ, and what follows is its judgement as the head (R157). -/
theorem exec_accepted (h : s.accepts tag code addr len data r = true) :
    exec (.localRequestAcceptance tag code addr len data) s = .next ((s.begin.joinLrq r).settle s.begin .all) := by
  obtain ⟨hstill, htakes, hreq⟩ := accepts_iff.mp h
  obtain ⟨_, hq, _, _⟩ := still_iff.mp hstill
  obtain ⟨hparked, hisolated, htag⟩ := takesPool_iff.mp htakes
  have hnone : s.begin.acceptRefusal r.tag = none := by
    have htag' : s.begin.tagInUse r.tag = false := by rw [tag_of_poolRequest hreq]; exact htag
    simp [State.acceptRefusal, hparked, hisolated, htag', hq, Config.lrqPlaces]
  show Host.Outcome.next (s.begin.acceptLocal tag code addr len data) = _
  rw [acceptLocal_of_poolRequest (s := s.begin) hreq]
  simp [State.acceptPool, hnone, hq]

/-- Where the accepted request's judgement as the head answers it and leaves the station calm, that is the command's result. -/
theorem exec_accepted_started {t : State} (h : s.accepts tag code addr len data r = true)
    (hhead : (s.begin.joinLrq r).headOnce = (t, true)) (ht : t.calm = true) (hq : t.lpu.lrq = []) :
    exec (.localRequestAcceptance tag code addr len data) s = .next t := by
  obtain ⟨hstill, _, _⟩ := accepts_iff.mp h
  obtain ⟨hcalm, _, hnone, _⟩ := still_iff.mp hstill
  rw [exec_accepted h, settle_head_started (s.begin.joinLrq r) hcalm hhead ht hq s.begin .all (judgedAgain_undecoded _ hnone _ _)]

/-- A request refused at decode in the event of its acceptance is answered; of the rest of the station the Fault Log alone may change. -/
theorem exec_refused {st : Status} {p : Payload} (h : s.accepts tag code addr len data r = true)
    (hdec : s.decode r = .refuse st p) :
    exec (.localRequestAcceptance tag code addr len data) s = .next
      { s with
        lpu := { s.lpu with log := s.logRefusing r st, overflow := s.overflowRefusing st }
        out := oneResponse tag st p } := by
  obtain ⟨hstill, htakes, hreq⟩ := accepts_iff.mp h
  obtain ⟨hcalm, hq, hhead, hrecall⟩ := still_iff.mp hstill
  obtain ⟨_, _, htag⟩ := takesPool_iff.mp htakes
  have hjoined : (s.begin.joinLrq r).lpu.lrq = [r] := by simp [State.joinLrq, hq]
  have hdec' : (s.begin.joinLrq r).decode r = .refuse st p := hdec
  rw [exec_accepted_started h (headOnce_refused hjoined hhead hdec') hcalm rfl]
  obtain rfl := tag_of_poolRequest hreq
  have htags : (s.begin.joinLrq r).tagsWithout r.tag = s.lpu.tags := free_use_tag s r.tag htag
  have hlog : (s.begin.joinLrq r).logRefusing r st = s.logRefusing r st := rfl
  have hover : (s.begin.joinLrq r).overflowRefusing st = s.overflowRefusing st := rfl
  rw [htags, hlog, hover]
  simp [hq, hhead, hrecall, State.joinLrq, State.useTag, State.begin, oneResponse]

/-- The same for a status that is not recorded: the response is all that the command leaves. -/
theorem exec_refused_unlogged {st : Status} {p : Payload} (h : s.accepts tag code addr len data r = true)
    (hdec : s.decode r = .refuse st p) (hst : st ≠ .unmapped) :
    exec (.localRequestAcceptance tag code addr len data) s = .next { s with out := oneResponse tag st p } := by
  rw [exec_refused h hdec]
  simp [State.logRefusing, State.overflowRefusing, hst]

/-! ### The obligations -/

/-- Settles O13: the check of alignment is the first of R7, and no other check gives MISALIGNED. -/
theorem misalignedRequestAnswered : Obligations.MisalignedRequestAnswered := by
  refine ⟨fun s r => ⟨fun h => decode_misaligned (misaligned_iff.mpr h), fun hal p h => ?_⟩, ?_, ?_⟩
  · rcases decode_refuse_cases h with ⟨hmis, _⟩ | ⟨_, _, hst⟩ | ⟨_, _, _, _, _, _, ⟨_, hst⟩ | ⟨_, _, _, hst⟩ | hst | hst⟩
    · exact hal (misaligned_iff.mp hmis)
    all_goals cases hst
  · intro s r rest hq hhead hop hlen
    exact headOnce_refused_unlogged hq hhead (decode_misaligned (misaligned_iff.mpr ⟨hop, hlen⟩)) (by decide)
  · intro s tag code addr len data r hacc hop hlen
    exact exec_refused_unlogged hacc (decode_misaligned (misaligned_iff.mpr ⟨hop, hlen⟩)) (by decide)

/-- Settles O14: an unmapped or contested segment is refused by the second check of R7, the one refusal that is recorded. -/
theorem unmappedRequestAnswered : Obligations.UnmappedRequestAnswered := by
  refine ⟨fun s r rest hq hhead hal hseg => ?_, fun s tag code addr len data r hacc hal hseg => ?_⟩
  · exact headOnce_refused hq hhead (decode_unmapped (misaligned_eq_false_iff.mpr hal) hseg)
  · obtain ⟨_, _, hreq⟩ := accepts_iff.mp hacc
    obtain rfl := tag_of_poolRequest hreq
    exact exec_refused hacc (decode_unmapped (misaligned_eq_false_iff.mpr hal) hseg)

/-- Settles O15: the third check of R7 refuses exactly what the segment's access does not permit. -/
theorem accessCheckAnswered : Obligations.AccessCheckAnswered := by
  refine ⟨fun a => by cases a <;> decide, ?_, ?_⟩
  · intro s r rest home a k i hq hhead hal hseg
    refine ⟨fun hdenied => ?_, fun hperm p h => ?_⟩
    · exact headOnce_refused_unlogged hq hhead (decode_access (misaligned_eq_false_iff.mpr hal) hseg hdenied) (by decide)
    · rcases decode_refuse_cases h with ⟨_, hst⟩ | ⟨_, _, hst⟩ |
        ⟨home', a', k', i', _, hseg', ⟨hdenied, _⟩ | ⟨_, _, _, hst⟩ | hst | hst⟩
      case inr.inr.inl =>
        obtain ⟨rfl, rfl, rfl, rfl⟩ : home = home' ∧ a = a' ∧ k = k' ∧ i = i' := by simpa [hseg] using hseg'
        simp [hperm] at hdenied
      all_goals cases hst
  · intro s tag code addr len data r home a k i hacc hal hseg hdenied
    exact exec_refused_unlogged hacc (decode_access (misaligned_eq_false_iff.mpr hal) hseg hdenied) (by decide)

/-- Settles O16: the fourth check of R7 refuses exactly the pinned requests to a direct segment. -/
theorem pinnedRequestToDirectSegment : Obligations.PinnedRequestToDirectSegment := by
  refine ⟨?_, ?_⟩
  · intro s r rest home a k i hq hhead hal hseg hperm
    refine ⟨fun ⟨hpin, hk⟩ => ?_, fun hnot p h => ?_⟩
    · exact headOnce_refused_unlogged hq hhead
        (decode_notCacheable (misaligned_eq_false_iff.mpr hal) hseg hperm (isPinned_iff.mpr hpin) hk) (by decide)
    · rcases decode_refuse_cases h with ⟨_, hst⟩ | ⟨_, _, hst⟩ |
        ⟨home', a', k', i', _, hseg', ⟨_, hst⟩ | ⟨_, hpin, hk, _⟩ | hst | hst⟩
      case inr.inr.inr.inl =>
        obtain ⟨rfl, rfl, rfl, rfl⟩ : home = home' ∧ a = a' ∧ k = k' ∧ i = i' := by simpa [hseg] using hseg'
        exact hnot ⟨isPinned_iff.mp hpin, hk⟩
      all_goals cases hst
  · intro s tag code addr len data r home a i hacc hal hseg hperm hpin
    exact exec_refused_unlogged hacc
      (decode_notCacheable (misaligned_eq_false_iff.mpr (.inr hal)) hseg hperm (isPinned_iff.mpr hpin) rfl) (by decide)

end Sys2Proof.Machine
end

section
/-!
PROOF. O32 and O37: what the named updates do, each said once, and the Line Cache's judgement of a line by the state it is held in.
-/

namespace Sys2Proof

/-! ### The fixed-size tables -/

section
variable {α : Type} {n : Nat} (t : Table α n) (i j : BitVec n) (x : α)

theorem look_put : look (put t i x) j = if j = i then x else look t j := by
  simp only [look, put, Vector.getElem_set, BitVec.toNat_inj, eq_comm]

@[simp] theorem look_put_self : look (put t i x) i = x := by simp [look_put]

theorem look_put_ne {i j : BitVec n} (h : j ≠ i) : look (put t i x) j = look t j := by simp [look_put, h]

@[simp] theorem look_tab (f : Nat → α) : look (tab n f) i = f i.toNat := by simp [look, tab]

end

/-- R21: a line read at an offset where nothing was merged is the line's own byte. -/
theorem toList_getD_eq_look (x : LineData) (i : Offset) : x.toList.getD i.toNat 0 = look x i := by
  have hi : i.toNat < x.toList.length := by simpa using i.isLt
  rw [List.getD_eq_getElem _ _ hi]
  simp [look]

theorem look_merge (x : LineData) (off : Nat) (bs : List Byte) (i : Offset) :
    look (x.merge off bs) i =
      if off ≤ i.toNat ∧ i.toNat < off + bs.length then bs.getD (i.toNat - off) 0 else look x i := by
  simp only [LineData.merge, look_tab, toList_getD_eq_look]

theorem look_ofBytes (bs : List Byte) (i : Offset) : look (LineData.ofBytes bs) i = bs.getD i.toNat 0 := look_tab i _

end Sys2Proof

namespace Sys2Proof.Machine

variable (s : State)

/-! ### The order of use and the ways of a set (R16, R18) -/

/-- Taking one way out of an order leaves the order of the others. -/
theorem idxOf_filter_ne_le_iff {w u v : WayNo} (hu : u ≠ w) (hv : v ≠ w) (use : List WayNo) :
    (use.filter (· != w)).idxOf u ≤ (use.filter (· != w)).idxOf v ↔ use.idxOf u ≤ use.idxOf v := by
  induction use with
  | nil => simp
  | cons x use ih =>
    by_cases hx : x = w
    · subst hx
      simp [List.idxOf_cons_ne, hu.symm, hv.symm, ih]
    · have hkeep : (x :: use).filter (· != w) = x :: use.filter (· != w) := by simp [hx]
      rw [hkeep]
      by_cases hxu : x = u
      · simp [hxu]
      · by_cases hxv : x = v
        · simp [hxv, List.idxOf_cons_ne, show v ≠ u from hxv ▸ hxu]
        · simp [List.idxOf_cons_ne, hxu, hxv, ih]

section
variable (l k : LineNo) (w v : WayNo)

theorem setOf_touch : (s.touch l w).setOf k =
    if rlcIndex k = rlcIndex l then { s.setOf l with use := w :: (s.setOf l).use.filter (· != w) } else s.setOf k := by
  simp [State.touch, State.setOf, look_put]

theorem setOf_setWay (x : Way) : (s.setWay l w x).setOf k =
    if rlcIndex k = rlcIndex l then { s.setOf l with ways := put (s.setOf l).ways w x } else s.setOf k := by
  simp [State.setWay, State.setOf, look_put]

/-- Lines of one index have one set. -/
theorem setOf_congr {l k : LineNo} (h : rlcIndex k = rlcIndex l) : s.setOf k = s.setOf l := by simp [State.setOf, h]

@[simp] theorem wayAt_touch : (s.touch l w).wayAt k v = s.wayAt k v := by
  unfold State.wayAt
  rw [setOf_touch]
  split
  case isTrue h => rw [setOf_congr s h]
  case isFalse => rfl

theorem wayAt_setWay_eq (x : Way) :
    (s.setWay l w x).wayAt k v = if rlcIndex k = rlcIndex l ∧ v = w then x else s.wayAt k v := by
  unfold State.wayAt
  rw [setOf_setWay]
  by_cases hk : rlcIndex k = rlcIndex l
  · simp [hk, look_put, setOf_congr s hk]
  · simp [hk]

theorem age_setWay (x : Way) : ((s.setWay l w x).setOf k).age v = (s.setOf k).age v := by
  rw [setOf_setWay]
  split
  case isTrue h => rw [setOf_congr s h]; rfl
  case isFalse => rfl

theorem use_touch : ((s.touch l w).setOf l).use = w :: (s.setOf l).use.filter (· != w) := by simp [setOf_touch]

theorem age_touch_self : ((s.touch l w).setOf l).age w = 0 := by simp [RlcSet.age, use_touch]

/-- R18: a way other than the one used is one step behind it in the order that the others keep. -/
theorem age_touch_ne {v : WayNo} (hv : v ≠ w) :
    ((s.touch l w).setOf l).age v = ((s.setOf l).use.filter (· != w)).idxOf v + 1 := by
  rw [RlcSet.age, use_touch, List.idxOf_cons_ne _ hv.symm]

theorem age_touch_le_iff {u v : WayNo} (hu : u ≠ w) (hv : v ≠ w) :
    ((s.touch l w).setOf l).age u ≤ ((s.touch l w).setOf l).age v ↔ (s.setOf l).age u ≤ (s.setOf l).age v := by
  rw [age_touch_ne s l w hu, age_touch_ne s l w hv, Nat.add_le_add_iff_right, idxOf_filter_ne_le_iff hu hv]
  rfl

end

/-! ### The PRT (R59, R81) -/

section
variable (t u : ReqTag) (e : PrtEntry)

theorem prt_setEntry : look (s.setEntry t e).engine.prt u =
    if u = t then { look s.engine.prt t with entry := some e } else look s.engine.prt u := look_put _ _ _ _

theorem prt_freeEntry : look (s.freeEntry t).engine.prt u =
    if u = t then { gen := (look s.engine.prt t).gen + 1, entry := none } else look s.engine.prt u := look_put _ _ _ _

/-- R81: generations count modulo 4. -/
theorem gen_freeEntry :
    (look (s.freeEntry t).engine.prt t).gen.toNat = ((look s.engine.prt t).gen.toNat + 1) % 4 := by
  simp [prt_freeEntry, BitVec.toNat_add]

end

/-! ### A Copy dropped (R55) -/

theorem emptyCopy_of_copy {l : LineNo} {w : WayNo} {x : LineData} (h : s.held l = some (w, .copy, x)) :
    s.emptyCopy l = s.setWay l w .empty := by simp [State.emptyCopy, h]

theorem emptyCopy_of_not_copy {l : LineNo} (h : ∀ w x, s.held l ≠ some (w, .copy, x)) : s.emptyCopy l = s := by
  unfold State.emptyCopy
  split
  case h_1 w x heq => exact absurd heq (h w x)
  all_goals rfl

/-! ### The quiesce walk (R130) -/

/-- A way of the RLC has one position of the walk. -/
theorem walkPosition_inj {p q : Nat} (hp : p < 2048) (hq : q < 2048) (hset : walkSet q = walkSet p)
    (hway : walkWay q = walkWay p) : q = p := by
  have hset' : q / 8 % 256 = p / 8 % 256 := by simpa [walkSet] using congrArg BitVec.toNat hset
  have hway' : q % 8 = p % 8 := by simpa [walkWay] using congrArg BitVec.toNat hway
  omega

theorem walkAt_walkEmpty (p q : Nat) : (s.walkEmpty p).walkAt q =
    if walkSet q = walkSet p ∧ walkWay q = walkWay p then .empty else s.walkAt q := by
  simp only [State.walkAt, State.walkEmpty, look_put]
  by_cases hset : walkSet q = walkSet p
  · simp [hset, look_put]
  · simp [hset]

/-! ### The processor tags (R158) -/

/-- The set that holds one tag. -/
theorem getLsbD_oneTag (tag u : PTag) : (1#32 <<< tag.toNat).getLsbD u.toNat = (u == tag) := by
  rw [← BitVec.twoPow_eq, BitVec.getLsbD_twoPow]
  have htag : tag.toNat < 32 := tag.isLt
  simp [htag, BitVec.toNat_inj, eq_comm, Bool.beq_eq_decide_eq]

theorem getLsbD_tagsWith (tag u : PTag) :
    (s.tagsWith tag).getLsbD u.toNat = (s.lpu.tags.getLsbD u.toNat || u == tag) := by
  rw [State.tagsWith, BitVec.getLsbD_or, getLsbD_oneTag]

/-- One tag taken out of a set of tags. -/
theorem getLsbD_andNot_oneTag (v : BitVec 32) (tag u : PTag) :
    (v &&& ~~~(1#32 <<< tag.toNat)).getLsbD u.toNat = (v.getLsbD u.toNat && u != tag) := by
  have hu : u.toNat < 32 := u.isLt
  rw [BitVec.getLsbD_and, BitVec.getLsbD_not, getLsbD_oneTag]
  simp [hu, bne]

theorem getLsbD_tagsWithoutAll (tags : List PTag) (u : PTag) :
    (s.tagsWithoutAll tags).getLsbD u.toNat = (s.lpu.tags.getLsbD u.toNat && !tags.contains u) := by
  suffices h : ∀ v : BitVec 32, (tags.foldl (fun v t => v &&& ~~~(1#32 <<< t.toNat)) v).getLsbD u.toNat =
      (v.getLsbD u.toNat && !tags.contains u) from h s.lpu.tags
  induction tags with
  | nil => simp
  | cons tag tags ih =>
    intro v
    rw [List.foldl_cons, ih, getLsbD_andNot_oneTag, List.contains_cons, Bool.not_or, Bool.and_assoc]
    rfl

/-! ### Home memory addresses (R5) -/

/-- R5: the home index times 64 MiB plus the offset in segment. -/
theorem toNat_homeAddr (i : BitVec 4) (l : LineNo) (off : Offset) :
    (homeAddr i l off).toNat = i.toNat * 2 ^ 26 + l.toNat % 2 ^ 20 * 64 + off.toNat := by
  have hoff : off.toNat < 2 ^ 6 := off.isLt
  have hline : (lineInSegment l).toNat < 2 ^ 20 := (lineInSegment l).isLt
  have hl : (lineInSegment l).toNat = l.toNat % 2 ^ 20 := by simp [lineInSegment]
  rw [homeAddr, BitVec.toNat_append, BitVec.toNat_append, ← Nat.shiftLeft_add_eq_or_of_lt hoff,
    ← Nat.shiftLeft_add_eq_or_of_lt hline, hl, Nat.shiftLeft_eq, Nat.shiftLeft_eq]
  omega

theorem memAddr_mapped {l : LineNo} {h : StationNo} {a : Access} {k : SegKind} {i : BitVec 4}
    (hseg : s.segmentEntry l = .mapped h a k i) (off : Offset) : s.memAddr l off = homeAddr i l off := by
  simp [State.memAddr, hseg]

/-! ### The obligations -/

/-- Settles O32: each update's own lemma above; the equations of whole states hold by the definition of the update. -/
theorem namedUpdateResults : Obligations.NamedUpdateResults := by
  refine ⟨fun x off bs i => ⟨look_merge x off bs i, look_ofBytes bs i⟩, ?touch, ?setWay, ?prt, fun s i => rfl, ?others,
    ?walk, ?tags, ?memory, ?work⟩
  case touch =>
    intro s l w
    refine ⟨rfl, fun k v => wayAt_touch s l k w v, fun k hk => by simp [setOf_touch, hk], age_touch_self s l w, ?_, ?_⟩
    · intro v hv
      simp [age_touch_ne s l w hv]
    · intro u v hu hv
      exact age_touch_le_iff s l w hu hv
  case setWay =>
    intro s l w x
    exact ⟨rfl, fun k v => wayAt_setWay_eq s l k w v x, fun k v => age_setWay s l k w v x⟩
  case prt =>
    intro s t e
    refine ⟨⟨?_, gen_freeEntry s t, fun u hu => by simp [prt_freeEntry, hu], rfl⟩,
      ⟨?_, ?_, fun u hu => by simp [prt_setEntry, hu], rfl⟩, fun k l w is o => rfl⟩
    · simp [State.entry, prt_freeEntry]
    · simp [State.entry, prt_setEntry]
    · simp [prt_setEntry]
  case others =>
    intro s l
    exact ⟨rfl, rfl, fun x fs => rfl, fun w x h => emptyCopy_of_copy s h, fun h => emptyCopy_of_not_copy s h⟩
  case walk =>
    intro s p hp
    refine ⟨rfl, by simp [walkAt_walkEmpty], fun q hq hne => ?_⟩
    rw [walkAt_walkEmpty, if_neg fun ⟨hset, hway⟩ => hne (walkPosition_inj hp hq hset hway)]
  case tags =>
    intro s tag tags u
    exact ⟨getLsbD_tagsWith s tag u, getLsbD_andNot_oneTag s.lpu.tags tag u, getLsbD_tagsWithoutAll s tags u⟩
  case memory =>
    intro s l off h a k i hseg
    rw [memAddr_mapped s hseg, toNat_homeAddr]
  case work =>
    intro i l
    constructor
    · rintro (h | h) <;> simp [Item.hwqWork, LocalOp.isRead, h]
    · rintro (h | h) <;> simp [Item.hwqWork, LocalOp.isRead, h]

/-! ### The Line Cache's judgement (R31, R32, R137) -/

theorem sqFree_iff : s.sqFree = true ↔ s.bus.sq.length + s.sqHeld < 8 := decide_eq_true_iff

section
variable {l : LineNo} {w : WayNo} {x : LineData} (k : LineKind)

theorem cacheJudge_vacant (h : s.held l = none) : s.cacheJudge k l = (.clear, .none, false) := by
  simp [State.cacheJudge, h]

theorem cacheJudge_copy (h : s.held l = some (w, .copy, x)) :
    s.cacheJudge k l = if k = .fetch then (.shared, .none, false) else (.shared, .toVacant, false) := by
  cases k <;> simp [State.cacheJudge, h]

/-- R137: a pinned line is not given away. -/
theorem cacheJudge_pinned {st : LineState} (h : s.held l = some (w, st, x)) (hst : st ≠ .copy) (hp : s.pinned l = true) :
    s.cacheJudge k l = (.again, .none, false) := by
  cases st with
  | copy => exact absurd rfl hst
  | sole => simp [State.cacheJudge, h, hp]
  | altered => simp [State.cacheJudge, h, hp]

theorem cacheJudge_sole (h : s.held l = some (w, .sole, x)) (hp : s.pinned l = false) :
    s.cacheJudge k l =
      if k = .promote then (.again, .none, false) else (.shared, if k = .fetch then .toCopy else .toVacant, false) := by
  cases k <;> simp [State.cacheJudge, h, hp]

/-- R32: an Altered line is supplied where an SQ place can be held for it. -/
theorem cacheJudge_altered (h : s.held l = some (w, .altered, x)) (hp : s.pinned l = false) :
    s.cacheJudge k l =
      if k = .promote ∨ s.sqFree = false then (.again, .none, false)
      else (.supply, if k = .fetch then .toCopy else .toVacant, true) := by
  cases hfree : s.sqFree <;> cases k <;> simp [State.cacheJudge, h, hp, hfree]

end

/-- Settles O37: the judgement of each state in which the line may be held. -/
theorem lineCacheSnoopTable : Obligations.LineCacheSnoopTable := by
  intro s l w x
  refine ⟨fun h k => cacheJudge_vacant s k h, fun h => ⟨?_, fun k hk => ?_⟩, fun st hst h hp k => ?_, fun h hp => ?_,
    fun h hp => ⟨?_, fun hroom => ?_, fun hfull k hk => ?_⟩⟩
  · rw [cacheJudge_copy s _ h, if_pos rfl]
  · rw [cacheJudge_copy s _ h, if_neg]
    rintro rfl
    simp at hk
  · refine cacheJudge_pinned s k h ?_ hp
    rintro rfl
    simp at hst
  · simp [cacheJudge_sole s _ h hp]
  · simp [cacheJudge_altered s _ h hp]
  · have hfree : s.sqFree = true := (sqFree_iff s).mpr hroom
    simp [cacheJudge_altered s _ h hp, hfree]
  · have hfree : s.sqFree = false := by
      rw [← Bool.not_eq_true, sqFree_iff]
      omega
    simp [cacheJudge_altered s _ h hp, hfree]

end Sys2Proof.Machine
end

section
/-!
PROOF. O17, O18, O19 and O55: a Read or Write on the remote paths at the LRQ head. How each judgement comes about (R19, R22 to R24, R28,
R62), what each action leaves (R20 to R24, R62), and what follows in the event of its acceptance, or in which the head is judged again
(R25).
-/

namespace Sys2Proof.Machine

variable {s : State} {d : Decoded} {l : LineNo} {w : WayNo} {x : LineData}

/-! ### The line that a way holds (R15, R16) -/

theorem wayAt_of_held {st : LineState} (h : s.held l = some (w, st, x)) : s.wayAt l w = .holding l st x := by
  unfold State.held at h
  split at h
  case h_2 => cases h
  case h_1 v hfind =>
    have hfor : (s.wayAt l v).isFor l = true := by simpa using List.find?_some hfind
    split at h
    case h_1 k st' x' hway =>
      cases h
      obtain rfl : k = l := by simpa [Way.isFor, hway] using hfor
      exact hway
    all_goals cases h

theorem lineFree_iff : s.lineFree l = true ↔
    s.findEntry l = none ∧ s.findRq l = none ∧ s.inTransit l = false ∧ s.underAnswer l = false := by
  simp [State.lineFree, and_assoc]

/-! ### Which way is the victim (R23) -/

theorem mem_allWays : ∀ w : WayNo, w ∈ allWays := by decide

/-- The ways are listed in rising order. -/
theorem allWays_sorted : allWays.Pairwise fun u v => u.toNat < v.toNat := by decide

/-- The lowest-numbered way with a property is the one that a search finds. -/
theorem find_allWays {p : WayNo → Bool} {v : WayNo} (hv : p v = true) (hlow : ∀ u : WayNo, u.toNat < v.toNat → p u = false) :
    allWays.find? p = some v := by
  obtain ⟨before, after, hsplit⟩ := List.append_of_mem (mem_allWays v)
  have hbefore : ∀ u ∈ before, p u = false := fun u hu =>
    hlow u ((List.pairwise_append.mp (hsplit ▸ allWays_sorted)).2.2 u hu v List.mem_cons_self)
  have hnone : before.find? p = none := List.find?_eq_none.mpr fun u hu => by simp [hbefore u hu]
  rw [hsplit, List.find?_append, hnone, List.find?_cons_of_pos hv]
  rfl

/-- The search of R23 for the least recently used: the better of the best so far and the next way. -/
def olderOf (age : WayNo → Nat) (best : Option WayNo) (w : WayNo) : Option WayNo :=
  match best with
  | none => some w
  | some b => if age b < age w then some w else some b

/-- The search ends with a way of the list, or the one it began with, that none of these is older than. -/
theorem foldl_olderOf_some (age : WayNo → Nat) (ws : List WayNo) (b : WayNo) :
    ∃ v ∈ b :: ws, ws.foldl (olderOf age) (some b) = some v ∧ ∀ u ∈ b :: ws, age u ≤ age v := by
  induction ws generalizing b with
  | nil => exact ⟨b, by simp, rfl, by simp⟩
  | cons w ws ih =>
    by_cases hb : age b < age w
    · obtain ⟨v, hmem, hfold, hmax⟩ := ih w
      refine ⟨v, List.mem_cons_of_mem b hmem, by simpa [olderOf, hb] using hfold, fun u hu => ?_⟩
      rcases List.mem_cons.mp hu with rfl | hu
      · exact hb.le.trans (hmax w List.mem_cons_self)
      · exact hmax u hu
    · obtain ⟨v, hmem, hfold, hmax⟩ := ih b
      refine ⟨v, ?_, by simpa [olderOf, hb] using hfold, fun u hu => ?_⟩
      · rcases List.mem_cons.mp hmem with rfl | hmem
        · exact List.mem_cons_self
        · exact List.mem_cons_of_mem b (List.mem_cons_of_mem w hmem)
      · rcases List.mem_cons.mp hu with rfl | hu
        · exact hmax u List.mem_cons_self
        · rcases List.mem_cons.mp hu with rfl | hu
          · exact (not_lt.mp hb).trans (hmax b List.mem_cons_self)
          · exact hmax u (List.mem_cons_of_mem b hu)

theorem foldl_olderOf_eq_some {age : WayNo → Nat} {ws : List WayNo} {v : WayNo}
    (h : ws.foldl (olderOf age) none = some v) : v ∈ ws ∧ ∀ u ∈ ws, age u ≤ age v := by
  cases ws with
  | nil => cases h
  | cons b ws =>
    obtain ⟨v', hmem, hfold, hmax⟩ := foldl_olderOf_some age ws b
    obtain rfl : v' = v := Option.some.inj (hfold.symm.trans h)
    exact ⟨hmem, hmax⟩

theorem foldl_olderOf_eq_none {age : WayNo → Nat} {ws : List WayNo} (h : ws.foldl (olderOf age) none = none) : ws = [] := by
  cases ws with
  | nil => rfl
  | cons b ws =>
    obtain ⟨v, _, hfold, _⟩ := foldl_olderOf_some age ws b
    cases hfold.symm.trans h

theorem victim_empty {v : WayNo} (hv : s.wayAt l v = .empty) (hlow : ∀ u : WayNo, u.toNat < v.toNat → s.wayAt l u ≠ .empty) :
    s.victim l = some v := by
  have hfind : allWays.find? (fun w => s.wayAt l w == .empty) = some v :=
    find_allWays (by simp [hv]) fun u hu => by simp [hlow u hu]
  simp [State.victim, hfind]

/-- In a full set the victim is searched for among the replaceable ways. -/
theorem victim_full (h : ∀ v, s.wayAt l v ≠ .empty) :
    s.victim l = (allWays.filter fun w => s.replaceable l w).foldl (olderOf (s.setOf l).age) none := by
  have hfind : allWays.find? (fun w => s.wayAt l w == .empty) = none := by simp [h]
  unfold State.victim
  rw [hfind]
  rfl

theorem mem_replaceable {v : WayNo} : v ∈ allWays.filter (fun w => s.replaceable l w) ↔ s.replaceable l v = true := by
  simp [mem_allWays]

theorem replaceable_holding_iff {k : LineNo} {st : LineState} {v : WayNo} (h : s.wayAt l v = .holding k st x) :
    s.replaceable l v = true ↔
      s.findEntry k = none ∧ s.pinned k = false ∧ s.underAnswer k = false ∧ s.inTransit k = false := by
  simp [State.replaceable, h, State.lineReplaceable, and_assoc]

/-! ### The judgement of a Read or Write (R19, R22 to R24, R28, R62) -/

/-- The head is a plain Read or Write. -/
def Decoded.plain (d : Decoded) : Prop := d.item.op = .read ∨ d.item.op = .write

/-- A plain request's line keeps it waiting, whatever way may hold it: it is in transit, or a Write finds it under answer (R19, R28). -/
def State.lineBusy (s : State) (d : Decoded) : Prop :=
  s.inTransit d.line = true ∨ d.item.op = .write ∧ s.underAnswer d.line = true

section cached
variable (hp : d.path = .cached) (hop : d.plain)

include hp hop

theorem judgeHead_cached_rq (hrq : s.findRq d.line ≠ none) : s.judgeHead d = .waits := by
  have hrq' : (s.findRq d.line).isSome = true := Option.isSome_iff_ne_none.mpr hrq
  rcases hop with hop | hop <;> simp [State.judgeHead, hp, State.judgeRemote, hop, hrq']

variable (hrq : s.findRq d.line = none) (he : s.findEntry d.line = none)

include hrq

theorem judgeHead_cached : s.judgeHead d = s.judgeCached d (d.item.op == .write) .writeHit := by
  rcases hop with hop | hop
  · simp only [State.judgeHead, hp, State.judgeRemote, hop, hrq]
    rfl
  · simp only [State.judgeHead, hp, State.judgeRemote, hop, hrq]
    rfl

include he

theorem judgeHead_lineBusy (h : s.lineBusy d) : s.judgeHead d = .waits := by
  rw [judgeHead_cached hp hop hrq]
  rcases h with ht | ⟨hw, hu⟩
  · simp [State.judgeCached, he, ht]
  · simp [State.judgeCached, he, hw, hu]

variable (hfree : ¬ s.lineBusy d)

include hfree

/-- What the line is held as decides, where nothing makes the request wait. -/
theorem judgeHead_vacant (h : s.held d.line = none) :
    s.judgeHead d = s.judgeMiss d.line (if d.item.op = .read then .fetch else .claim) := by
  simp only [State.lineBusy, not_or, Bool.not_eq_true, not_and] at hfree
  obtain ⟨ht, hu⟩ := hfree
  rw [judgeHead_cached hp hop hrq]
  rcases hop with hop | hop
  · simp [State.judgeCached, he, ht, hop, h]
  · simp [State.judgeCached, he, ht, hu hop, hop, h]

theorem judgeHead_held {st : LineState} (h : s.held d.line = some (w, st, x)) :
    s.judgeHead d = if d.item.op = .read then .readHit w else if st = .copy then .makePromote w else .writeHit w := by
  simp only [State.lineBusy, not_or, Bool.not_eq_true, not_and] at hfree
  obtain ⟨ht, hu⟩ := hfree
  rw [judgeHead_cached hp hop hrq]
  rcases hop with hop | hop
  · cases st <;> simp [State.judgeCached, he, ht, hop, h]
  · cases st <;> simp [State.judgeCached, he, ht, hu hop, hop, h]

end cached

section
variable (kind : PrtKind)

theorem judgeMiss_noVictim (h : s.victim l = none) : s.judgeMiss l kind = .waits := by simp [State.judgeMiss, h]

theorem judgeMiss_rqFull {k : LineNo} (hv : s.victim l = some w) (hw : s.wayAt l w = .holding k .altered x)
    (hrq : s.rqFree = false) : s.judgeMiss l kind = .waits := by
  simp [State.judgeMiss, hv, hw, hrq]

theorem judgeMiss_victim (hv : s.victim l = some w) (hrq : (∃ k x, s.wayAt l w = .holding k .altered x) → s.rqFree = true) :
    s.judgeMiss l kind = .makeMiss kind w := by
  unfold State.judgeMiss
  rw [hv]
  dsimp only
  split
  case h_1 k x hw => rw [hrq ⟨k, x, hw⟩, if_pos rfl]
  all_goals rfl

/-- A miss waits or makes an entry. -/
theorem judgeMiss_cases : s.judgeMiss l kind = .waits ∨ ∃ w, s.judgeMiss l kind = .makeMiss kind w := by
  cases hv : s.victim l with
  | none => exact .inl (judgeMiss_noVictim kind hv)
  | some w =>
    by_cases hrq : (∃ k x, s.wayAt l w = .holding k .altered x) → s.rqFree = true
    · exact .inr ⟨w, judgeMiss_victim kind hv hrq⟩
    · obtain ⟨⟨k, x, hw⟩, hfull⟩ := Classical.not_imp.mp hrq
      exact .inl (judgeMiss_rqFull kind hv hw (Bool.not_eq_true _ ▸ hfull))

end

section direct
variable (hp : d.path = .direct)

include hp

theorem judgeHead_direct_cases : s.judgeHead d = .waits ∨ ∃ kind, s.judgeHead d = .makeDirect kind := by
  simp only [State.judgeHead, hp, State.judgeDirect]
  split
  · exact .inl rfl
  · split
    · exact .inl rfl
    · exact .inr ⟨_, rfl⟩

theorem judgeHead_direct_underAnswer (hw : d.item.op = .write) (hu : s.underAnswer d.line = true) :
    s.judgeHead d = .waits := by
  simp only [State.judgeHead, hp, judgeDirect_waits s d hw hu]

theorem judgeHead_direct (hu : d.item.op = .read ∨ d.item.op = .write ∧ s.underAnswer d.line = false)
    (he : s.findEntry d.line = none) :
    s.judgeHead d = .makeDirect (if d.item.op = .read then .directRead else .directWrite) := by
  rcases hu with hr | ⟨hw, hu⟩
  · simp [State.judgeHead, hp, State.judgeDirect, he, hr, LocalOp.isRead]
  · simp [State.judgeHead, hp, State.judgeDirect, he, hw, hu, LocalOp.isRead]

end direct

/-! ### What the actions leave (R20 to R24, R62) -/

theorem actHead_readHit {st : LineState} (h : s.held d.line = some (w, st, x)) :
    s.actHead d (.readHit w) =
      { s with
        lpu.tags := s.tagsWithout d.item.tag
        cache := (s.touch d.line w).cache
        out.responses := s.out.responses ++ [okResponse d.item.tag (.bytes (x.bytes d.item.offset.toNat d.item.len))] } := by
  simp only [State.actHead, State.serveRead, wayAt_of_held h, Way.data]
  rfl

theorem actHead_writeHit {st : LineState} (h : s.held d.line = some (w, st, x)) :
    s.actHead d (.writeHit w) =
      { s with
        lpu.tags := s.tagsWithout d.item.tag
        cache := ((s.setWay d.line w (.holding d.line .altered (x.merge d.item.offset.toNat d.item.data))).touch d.line w).cache
        out.responses := s.out.responses ++ [okResponse d.item.tag .none] } := by
  simp only [State.actHead, State.mergeWay, wayAt_of_held h, Way.data]
  rfl

/-- A pending pin is made for a Pinned Read alone (R133). -/
theorem pendPin_plain (hop : d.plain) (k : LineNo) (p : PinPath) : s.pendPin d.item k p = s := by
  rcases hop with hop | hop <;> simp [State.pendPin, hop]

theorem makeAtFree_of_free {t : ReqTag} (ht : s.freeTag = some t) (e : PrtEntry) :
    s.makeAtFree e = { s with engine := (s.setEntry t e).engine, bus := (s.enqueue (.prt t)).bus } := by
  simp only [State.makeAtFree, ht]
  rfl

theorem actHead_makePromote {t : ReqTag} (hop : d.plain) (ht : s.freeTag = some t) :
    s.actHead d (.makePromote w) =
      { s with
        cache := (s.touch d.line w).cache
        engine := (s.setEntry t (.fresh .promote d.line (some w) [d.item] .request)).engine
        bus := (s.enqueue (.prt t)).bus } := by
  simp only [State.actHead, pendPin_plain hop, makeAtFree_of_free ht]
  rfl

theorem actHead_makeDirect {t : ReqTag} (kind : PrtKind) (ht : s.freeTag = some t) :
    s.actHead d (.makeDirect kind) =
      { s with
        engine := (s.setEntry t (.fresh kind d.line none [d.item] .request)).engine
        bus := (s.enqueue (.prt t)).bus } :=
  makeAtFree_of_free ht _

/-- An Altered victim joins the tail of the RQ; any other is let go (R24). -/
def State.victimQueued (s : State) (l : LineNo) (w : WayNo) : State :=
  match s.wayAt l w with
  | .holding k .altered x => s.addRq k x []
  | _ => s

theorem victimQueued_altered {k : LineNo} (h : s.wayAt l w = .holding k .altered x) : s.victimQueued l w = s.addRq k x [] := by
  simp [State.victimQueued, h]

theorem victimQueued_other (h : ¬ ∃ k x, s.wayAt l w = .holding k .altered x) : s.victimQueued l w = s := by
  unfold State.victimQueued
  split
  case h_1 k x hw => exact absurd ⟨k, x, hw⟩ h
  case h_2 => rfl

/-- Queueing the victim concerns the Return Unit and the send list alone. -/
theorem victimQueued_eq (s : State) (l : LineNo) (w : WayNo) : s.victimQueued l w =
    { s with ret.rq := (s.victimQueued l w).ret.rq, bus.sendList := (s.victimQueued l w).bus.sendList } := by
  unfold State.victimQueued
  split <;> rfl

theorem victimQueued_rq_length : s.ret.rq.length ≤ (s.victimQueued l w).ret.rq.length := by
  unfold State.victimQueued
  split <;> simp

theorem evict_eq : s.evict l w = ((s.victimQueued l w).setWay l w (.reserved l)).touch l w := by
  unfold State.evict
  by_cases h : ∃ k x, s.wayAt l w = .holding k .altered x
  · obtain ⟨k, x, hw⟩ := h
    simp only [victimQueued_altered hw, hw]
  · rw [victimQueued_other h]
    dsimp only
    split
    case h_1 k x hw => exact absurd ⟨k, x, hw⟩ h
    all_goals rfl

theorem actHead_makeMiss {t : ReqTag} (kind : PrtKind) (hop : d.plain) (ht : s.freeTag = some t) :
    s.actHead d (.makeMiss kind w) =
      { s with
        cache := ((s.setWay d.line w (.reserved d.line)).touch d.line w).cache
        engine := (s.setEntry t (.fresh kind d.line (some w) [d.item] .request)).engine
        ret := (s.victimQueued d.line w).ret
        bus := ((s.victimQueued d.line w).enqueue (.prt t)).bus } := by
  have hvictim := victimQueued_eq s d.line w
  have ht' : (s.evict d.line w).freeTag = some t := by rw [evict_eq, hvictim]; exact ht
  simp only [State.actHead, pendPin_plain hop]
  rw [makeAtFree_of_free ht', evict_eq, hvictim]
  rfl

/-! ### A head judged and started, or kept waiting -/

/-- A head that is judged stays: it must wait, or it lacks a free PRT entry alone (R62, R159). -/
def State.headStays (s : State) (d : Decoded) : Prop :=
  s.judgeHead d = .waits ∨ (s.judgeHead d).needsEntry = true ∧ s.freeTag = none

theorem startHead_stays (h : s.headStays d) : s.startHead d = (s, false) := by
  rcases h with h | ⟨hneeds, hfull⟩
  · simp [State.startHead, h, HeadAction.needsEntry, HeadAction.leaves, State.actHead]
  · simp [State.startHead, hneeds, hfull]

theorem startHead_leaves {a : HeadAction} (hj : s.judgeHead d = a) (hl : a.leaves = true)
    (hn : a.needsEntry = true → s.freeTag ≠ none) : s.startHead d = ((s.actHead d a).popHead, true) := by
  have hn' : (a.needsEntry && s.freeTag.isNone) = false := by
    cases h : a.needsEntry
    · rfl
    · simpa [Option.isSome_iff_ne_none] using hn h
  simp only [State.startHead, hj, hn', hl, if_true, Bool.false_eq_true, if_false]

theorem headOnce_decoded {rest : List LocalReq} {r : LocalReq} (hq : s.lpu.lrq = r :: rest) (hh : s.lpu.head = some d) :
    s.headOnce = s.startHead d := by
  simp [State.headOnce, hq, hh]

theorem headOnce_passed {rest : List LocalReq} {r : LocalReq} (hq : s.lpu.lrq = r :: rest) (hh : s.lpu.head = none)
    (hdec : s.decode r = .pass d) : s.headOnce = ({ s with lpu.head := some d } : State).startHead d := by
  simp [State.headOnce, hq, hh, hdec]

/-! ### Nothing is left to happen after a remote request's start -/

/-- What is not touched leaves nothing to happen: where the home, the SQ and its askers are as they were, no RQ entry and no PRT entry has
come free, and the quiesce walk stays. -/
theorem calm_of_frame {t : State} (h : s.calm = true) (hhome : t.home = s.home) (hsq : t.bus.sq = s.bus.sq)
    (hask : t.bus.askers = s.bus.askers) (hmed : t.bus.medium = s.bus.medium) (hrq : s.ret.rq.length ≤ t.ret.rq.length)
    (htag : s.freeTag = none → t.freeTag = none) (hwalk : (t.ctl.mode != .quiescing || t.walkStays) = true) :
    t.calm = true := by
  obtain ⟨hconv, hplaces, hport, hvictim, _⟩ := calm_parts s h
  have hsqFree : t.sqFree = s.sqFree := by unfold State.sqFree State.sqHeld; rw [hsq, hmed]
  have hnext : t.nextVictim = s.nextVictim := by simp only [State.nextVictim, State.findExport, State.exportSet, hhome]
  have hconv' : (t.bus.sq.any (·.converting) && t.rqFree) = false := by
    rw [hsq]
    cases hany : s.bus.sq.any (·.converting)
    · rfl
    · simp only [hany, Bool.true_and, State.rqFree, decide_eq_false_iff_not] at hconv ⊢
      omega
  have hvictim' : (t.nextVictim.isNone || t.freeTag.isNone) = true := by
    rw [hnext]
    simp only [Bool.or_eq_true, Option.isNone_iff_eq_none] at hvictim ⊢
    exact hvictim.imp_right htag
  simp only [State.calm, hconv', hask, hsqFree, hplaces, hhome, hport, hvictim', hwalk, Bool.not_false, Bool.and_self]

theorem walkAt_touch (p : Nat) : (s.touch l w).walkAt p = s.walkAt p := by
  unfold State.walkAt State.touch
  by_cases hset : walkSet p = rlcIndex l
  · simp [hset, State.setOf]
  · simp [look_put_ne _ _ hset]

/-- The order of use is nothing that the walk looks at (R130). -/
theorem walkStays_touch : (s.touch l w).walkStays = s.walkStays := by
  unfold State.walkStays
  simp only [walkAt_touch]
  rfl

/-- Nor is it anything that an event waits for. -/
theorem calm_touch : (s.touch l w).calm = s.calm := by
  unfold State.calm
  rw [walkStays_touch]
  rfl

/-! ### A request that passes on in the event of its acceptance (R157) -/

section passing
variable {r : LocalReq} {tag : PTag} {code : BitVec 3} {addr : LocalAddr} {len : BitVec 6} {data : List Byte}

theorem passesOn_iff : s.passesOn tag code addr len data d = true ↔
    ∃ r, s.accepts tag code addr len data r = true ∧ s.decode r = .pass d := by
  unfold State.passesOn State.accepts
  cases poolRequest s.ctl.start.base tag code addr len data with
  | none => simp
  | some q => simp

/-- What a request that passes on carries, and the check of R12 that it has met. -/
theorem decode_pass (h : s.decode r = .pass d) :
    d.item = r.item ∧ d.path = pathOf s.number d.home d.kind ∧ s.stateRefusal r.op d.home d.line = none := by
  simp only [State.decode] at h
  split at h
  case isTrue => cases h
  case isFalse =>
    split at h
    case h_3 home a k i hseg =>
      split at h
      case isTrue => cases h
      case isFalse =>
        split at h
        case isTrue => cases h
        case isFalse =>
          split at h
          case h_1 => cases h
          case h_2 hst =>
            split at h
            case isTrue => cases h
            case isFalse =>
              cases h
              exact ⟨rfl, rfl, hst⟩
    all_goals cases h

/-- A remote Read or Write passes on at no station that is Quiescing (R12). -/
theorem mode_of_remote_pass (h : s.decode r = .pass d) (hpath : d.path ≠ .home) (hop : d.plain) : s.ctl.mode ≠ .quiescing := by
  obtain ⟨hitem, hpathOf, hst⟩ := decode_pass h
  have hhome : d.home ≠ s.number := by
    intro heq
    simp [hpathOf, pathOf, heq] at hpath
  have hop' : r.op = .read ∨ r.op = .write := by
    have hrop : d.item.op = r.op := by rw [hitem]; rfl
    rwa [Decoded.plain, hrop] at hop
  intro hmode
  rcases hop' with hop' | hop' <;> simp [State.stateRefusal, hmode, hhome, hop'] at hst

/-- A request that passes on is examined as a head that has passed check 6. -/
theorem headOnce_joined (hacc : s.accepts tag code addr len data r = true) (hdec : s.decode r = .pass d) :
    (s.begin.joinLrq r).headOnce = (s.headWaiting tag r d).startHead d := by
  obtain ⟨hstill, _, hreq⟩ := accepts_iff.mp hacc
  obtain ⟨_, hq, hhead, _⟩ := still_iff.mp hstill
  obtain rfl := tag_of_poolRequest hreq
  have hjoined : (s.begin.joinLrq r).lpu.lrq = [r] := by simp [State.joinLrq, hq]
  have hdec' : (s.begin.joinLrq r).decode r = .pass d := hdec
  have hhead' : (s.begin.joinLrq r).lpu.head = none := hhead
  have hstate : ({ s.begin.joinLrq r with lpu.head := some d } : State) = s.headWaiting r.tag r d := by
    simp [State.joinLrq, State.useTag, State.begin, State.headWaiting, State.tagsWith, noOutput, hq]
  rw [headOnce_passed hjoined hhead' hdec', hstate]

/-- A request that stays at the head in the event of its acceptance waits there, and nothing else changes. -/
theorem exec_headStays (hpass : s.passesOn tag code addr len data d = true)
    (hacc : s.accepts tag code addr len data r = true) (hstays : s.headStays d) :
    exec (.localRequestAcceptance tag code addr len data) s = .next (s.headWaiting tag r d) := by
  obtain ⟨r', hacc', hdec⟩ := passesOn_iff.mp hpass
  obtain ⟨hstill, _, hreq⟩ := accepts_iff.mp hacc
  obtain ⟨_, _, hreq'⟩ := accepts_iff.mp hacc'
  obtain rfl : r = r' := Option.some.inj (hreq.symm.trans hreq')
  obtain ⟨hcalm, _, hhead, _⟩ := still_iff.mp hstill
  have hwaits : (s.begin.joinLrq r).headOnce = (s.headWaiting tag r d, false) := by
    rw [headOnce_joined hacc hdec]
    exact startHead_stays (s := s.headWaiting tag r d) hstays
  rw [exec_accepted hacc, settle_head_waits (s.begin.joinLrq r) hcalm hwaits hcalm s.begin .all
    (judgedAgain_undecoded _ hhead _ _)]

/-- The LRQ and its head are as before once the only request has left, and the tags in use are as its action leaves them. -/
theorem popHead_headWaiting {t : State} (hstill : s.still = true) (ht : t.lpu = { s.lpu with tags := t.lpu.tags }) :
    ({ t with lpu := { (s.headWaiting tag r d).lpu with tags := t.lpu.tags } } : State).popHead = t := by
  obtain ⟨_, hq, hhead, hrecall⟩ := still_iff.mp hstill
  have hlpu : ({ s.lpu with lrq := [], head := none, pinRecall := none, tags := t.lpu.tags } : LocalPort) = t.lpu := by
    rw [← hq, ← hhead, ← hrecall]
    exact ht.symm
  exact congrArg (fun p : LocalPort => { t with lpu := p }) hlpu

/-- A request that is started in the event of its acceptance leaves what its action leaves, the LRQ empty and its tag in use unless the
action has answered it. -/
theorem exec_headLeaves {a : HeadAction} {t : State} (hpass : s.passesOn tag code addr len data d = true)
    (hj : s.judgeHead d = a) (hl : a.leaves = true) (hn : a.needsEntry = true → s.freeTag ≠ none)
    (hlpu : t.lpu = { s.lpu with tags := t.lpu.tags })
    (hact : ∀ r, (s.headWaiting tag r d).actHead d a = { t with lpu := { (s.headWaiting tag r d).lpu with tags := t.lpu.tags } })
    (hcalm : t.calm = true) : exec (.localRequestAcceptance tag code addr len data) s = .next t := by
  obtain ⟨r, hacc, hdec⟩ := passesOn_iff.mp hpass
  obtain ⟨hstill, _, _⟩ := accepts_iff.mp hacc
  obtain ⟨_, hq, _, _⟩ := still_iff.mp hstill
  refine exec_accepted_started hacc ?_ hcalm ((congrArg LocalPort.lrq hlpu).trans hq)
  rw [headOnce_joined hacc hdec, startHead_leaves (s := s.headWaiting tag r d) hj hl hn, hact r,
    popHead_headWaiting hstill hlpu]

/-- What is known of the station where a request passes on: it is calm, the request's tag was free and its item carries the tag, and
where the request is a remote Read or Write the station is not Quiescing. -/
theorem passesOn_facts (hpass : s.passesOn tag code addr len data d = true) :
    s.calm = true ∧ s.tagInUse tag = false ∧ d.item.tag = tag ∧ (d.path ≠ .home → d.plain → s.ctl.mode ≠ .quiescing) := by
  obtain ⟨r, hacc, hdec⟩ := passesOn_iff.mp hpass
  obtain ⟨hstill, htakes, hreq⟩ := accepts_iff.mp hacc
  obtain ⟨_, _, htag⟩ := takesPool_iff.mp htakes
  obtain ⟨hitem, _, _⟩ := decode_pass hdec
  refine ⟨(still_iff.mp hstill).1, htag, ?_, mode_of_remote_pass hdec⟩
  rw [hitem]
  exact tag_of_poolRequest hreq

/-- The tags in use are as before once the request has been answered in the event of its acceptance (R158). -/
theorem tagsWithout_headWaiting (hpass : s.passesOn tag code addr len data d = true) :
    (s.headWaiting tag r d).tagsWithout d.item.tag = s.lpu.tags := by
  obtain ⟨_, htag, hitem, _⟩ := passesOn_facts hpass
  rw [hitem]
  exact free_use_tag s tag htag

/-- A remote Read or Write that makes an entry leaves the station calm, as no entry was wanted for a victim recall. -/
theorem calm_of_remote_entry {t : State} (hpass : s.passesOn tag code addr len data d = true) (hpath : d.path ≠ .home)
    (hop : d.plain) (hfree : s.freeTag ≠ none) (hctl : t.ctl = s.ctl) (hhome : t.home = s.home) (hsq : t.bus.sq = s.bus.sq)
    (hask : t.bus.askers = s.bus.askers) (hmed : t.bus.medium = s.bus.medium) (hrq : s.ret.rq.length ≤ t.ret.rq.length) :
    t.calm = true := by
  obtain ⟨hcalm, _, _, hmode⟩ := passesOn_facts hpass
  exact calm_of_frame hcalm hhome hsq hask hmed hrq (fun h => absurd h hfree) (by simp [hctl, hmode hpath hop])

/-! ### The cases of a request that passes on, by path and by what it needs -/

theorem exec_readHit {st : LineState} (hpass : s.passesOn tag code addr len data d = true) (hp : d.path = .cached)
    (hop : d.item.op = .read) (he : s.findEntry d.line = none) (hrq : s.findRq d.line = none)
    (ht : s.inTransit d.line = false) (hh : s.held d.line = some (w, st, x)) :
    exec (.localRequestAcceptance tag code addr len data) s = .next
      { s with
        cache := (s.touch d.line w).cache
        out := oneResponse tag .ok (.bytes (x.bytes d.item.offset.toNat d.item.len)) } := by
  obtain ⟨hcalm, _, hitem, _⟩ := passesOn_facts hpass
  have hj : s.judgeHead d = .readHit w := by
    rw [judgeHead_held hp (.inl hop) hrq he (by simp [State.lineBusy, ht, hop]) hh, if_pos hop]
  refine exec_headLeaves hpass hj rfl nofun rfl (fun r => ?_) ((calm_touch (s := s) (l := d.line) (w := w)).trans hcalm)
  rw [actHead_readHit (s := s.headWaiting tag r d) hh, tagsWithout_headWaiting hpass, hitem]
  rfl

theorem exec_writeHit {st : LineState} (hpass : s.passesOn tag code addr len data d = true) (hp : d.path = .cached)
    (hop : d.item.op = .write) (hfree : s.lineFree d.line = true) (hh : s.held d.line = some (w, st, x)) (hst : st ≠ .copy) :
    exec (.localRequestAcceptance tag code addr len data) s = .next
      { s with
        cache := ((s.setWay d.line w (.holding d.line .altered (x.merge d.item.offset.toNat d.item.data))).touch d.line w).cache
        out := oneResponse tag .ok .none } := by
  obtain ⟨he, hrq, ht, hu⟩ := lineFree_iff.mp hfree
  obtain ⟨hcalm, _, hitem, hmode⟩ := passesOn_facts hpass
  have hj : s.judgeHead d = .writeHit w := by
    rw [judgeHead_held hp (.inr hop) hrq he (by simp [State.lineBusy, ht, hu]) hh]
    simp [hop, hst]
  have hnot : s.ctl.mode ≠ .quiescing := hmode (by simp [hp]) (.inr hop)
  refine exec_headLeaves hpass hj rfl nofun rfl (fun r => ?_)
    (calm_of_frame hcalm rfl rfl rfl rfl le_rfl id (by simp [hnot]))
  rw [actHead_writeHit (s := s.headWaiting tag r d) hh, tagsWithout_headWaiting hpass, hitem]
  rfl

theorem exec_makeMiss {t : ReqTag} (hpass : s.passesOn tag code addr len data d = true) (hp : d.path = .cached)
    (hop : d.item.op = .read ∨ d.item.op = .write ∧ s.underAnswer d.line = false) (he : s.findEntry d.line = none)
    (hrq : s.findRq d.line = none) (ht : s.inTransit d.line = false) (hh : s.held d.line = none)
    (hv : s.victim d.line = some w) (htag : s.freeTag = some t)
    (hroom : (∃ k x, s.wayAt d.line w = .holding k .altered x) → s.rqFree = true) :
    exec (.localRequestAcceptance tag code addr len data) s = .next
      { s with
        lpu.tags := s.tagsWith tag
        cache := ((s.setWay d.line w (.reserved d.line)).touch d.line w).cache
        engine := (s.setEntry t
          (.fresh (if d.item.op = .read then .fetch else .claim) d.line (some w) [d.item] .request)).engine
        ret := (s.victimQueued d.line w).ret
        bus := ((s.victimQueued d.line w).enqueue (.prt t)).bus
        out := noOutput } := by
  have hplain : d.plain := hop.imp_right And.left
  have hbusy : ¬ s.lineBusy d := by
    rintro (hbusy | ⟨hw, hu⟩)
    · simp [ht] at hbusy
    · rcases hop with hr | ⟨_, hu'⟩
      · simp [hr] at hw
      · simp [hu'] at hu
  have hj := (judgeHead_vacant hp hplain hrq he hbusy hh).trans (judgeMiss_victim _ hv hroom)
  have hfree : s.freeTag ≠ none := by simp [htag]
  have hqueued := victimQueued_eq s d.line w
  refine exec_headLeaves hpass hj rfl (fun _ => hfree) rfl (fun r => ?_)
    (calm_of_remote_entry hpass (by simp [hp]) hplain hfree rfl rfl ?_ ?_ ?_ victimQueued_rq_length)
  · have hframe : (s.headWaiting tag r d).victimQueued d.line w =
        { s.victimQueued d.line w with lpu := (s.headWaiting tag r d).lpu, out := noOutput } := by
      by_cases h : ∃ k x, s.wayAt d.line w = .holding k .altered x
      · obtain ⟨k, x, hw⟩ := h
        rw [victimQueued_altered hw, victimQueued_altered (s := s.headWaiting tag r d) hw]
        rfl
      · rw [victimQueued_other h, victimQueued_other (s := s.headWaiting tag r d) h]
        rfl
    rw [actHead_makeMiss _ hplain (s := s.headWaiting tag r d) htag, hframe]
    rfl
  all_goals rw [hqueued]; rfl

theorem exec_makePromote {t : ReqTag} (hpass : s.passesOn tag code addr len data d = true) (hp : d.path = .cached)
    (hop : d.item.op = .write) (hline : s.lineFree d.line = true) (hh : s.held d.line = some (w, .copy, x))
    (htag : s.freeTag = some t) :
    exec (.localRequestAcceptance tag code addr len data) s = .next
      { s with
        lpu.tags := s.tagsWith tag
        cache := (s.touch d.line w).cache
        engine := (s.setEntry t (.fresh .promote d.line (some w) [d.item] .request)).engine
        bus := (s.enqueue (.prt t)).bus
        out := noOutput } := by
  obtain ⟨he, hrq, ht, hu⟩ := lineFree_iff.mp hline
  have hplain : d.plain := .inr hop
  have hj : s.judgeHead d = .makePromote w := by
    rw [judgeHead_held hp hplain hrq he (by simp [State.lineBusy, ht, hu]) hh]
    simp [hop]
  have hfree : s.freeTag ≠ none := by simp [htag]
  refine exec_headLeaves hpass hj rfl (fun _ => hfree) rfl (fun r => ?_)
    (calm_of_remote_entry hpass (by simp [hp]) hplain hfree rfl rfl rfl rfl rfl le_rfl)
  rw [actHead_makePromote (s := s.headWaiting tag r d) hplain htag]
  rfl

theorem exec_makeDirect {t : ReqTag} (hpass : s.passesOn tag code addr len data d = true) (hp : d.path = .direct)
    (hop : d.item.op = .read ∨ d.item.op = .write ∧ s.underAnswer d.line = false) (he : s.findEntry d.line = none)
    (htag : s.freeTag = some t) :
    exec (.localRequestAcceptance tag code addr len data) s = .next
      { s with
        lpu.tags := s.tagsWith tag
        engine := (s.setEntry t
          (.fresh (if d.item.op = .read then .directRead else .directWrite) d.line none [d.item] .request)).engine
        bus := (s.enqueue (.prt t)).bus
        out := noOutput } := by
  have hplain : d.plain := hop.imp_right And.left
  have hfree : s.freeTag ≠ none := by simp [htag]
  refine exec_headLeaves hpass (judgeHead_direct hp hop he) rfl (fun _ => hfree) rfl (fun r => ?_)
    (calm_of_remote_entry hpass (by simp [hp]) hplain hfree rfl rfl rfl rfl rfl le_rfl)
  rw [actHead_makeDirect _ (s := s.headWaiting tag r d) htag]
  rfl

end passing

/-! ### What keeps a remote Read or Write at the head (R19, R24, R28, R62) -/

section
variable (hp : d.path = .cached) (hop : d.plain) (he : s.findEntry d.line = none)

include hp hop he

/-- A line with an RQ entry, in transit, or under answer with a Write. -/
theorem headStays_lineBusy (h : s.findRq d.line ≠ none ∨ s.lineBusy d) : s.headStays d := by
  by_cases hrq : s.findRq d.line = none
  · exact .inl (judgeHead_lineBusy hp hop hrq he (h.resolve_left (not_not.mpr hrq)))
  · exact .inl (judgeHead_cached_rq hp hop hrq)

/-- A miss for which a PRT entry, a way, or an RQ entry for its Altered victim is wanting. -/
theorem headStays_miss (hh : s.held d.line = none)
    (h : s.freeTag = none ∨ s.victim d.line = none ∨
      ∃ w k x, s.victim d.line = some w ∧ s.wayAt d.line w = .holding k .altered x ∧ s.rqFree = false) : s.headStays d := by
  by_cases hbusy : s.findRq d.line ≠ none ∨ s.lineBusy d
  · exact headStays_lineBusy hp hop he hbusy
  · obtain ⟨hrq, hfree⟩ := not_or.mp hbusy
    have hj := judgeHead_vacant hp hop (not_not.mp hrq) he hfree hh
    rcases h with h | h | ⟨w, k, x, hv, hw, hfull⟩
    · rcases judgeMiss_cases (s := s) (l := d.line) (if d.item.op = .read then .fetch else .claim) with hm | ⟨w, hm⟩
      · exact .inl (hj.trans hm)
      · exact .inr ⟨by rw [hj, hm]; rfl, h⟩
    · exact .inl (hj.trans (judgeMiss_noVictim _ h))
    · exact .inl (hj.trans (judgeMiss_rqFull _ hv hw hfull))

/-- A Write to a Copy for which a PRT entry is wanting. -/
theorem headStays_promote (hw : d.item.op = .write) (hh : s.held d.line = some (w, .copy, x)) (h : s.freeTag = none) :
    s.headStays d := by
  by_cases hbusy : s.findRq d.line ≠ none ∨ s.lineBusy d
  · exact headStays_lineBusy hp hop he hbusy
  · obtain ⟨hrq, hfree⟩ := not_or.mp hbusy
    have hj : s.judgeHead d = .makePromote w := by
      rw [judgeHead_held hp hop (not_not.mp hrq) he hfree hh]
      simp [hw]
    exact .inr ⟨by rw [hj]; rfl, h⟩

end

theorem headStays_direct (hp : d.path = .direct)
    (h : s.freeTag = none ∨ d.item.op = .write ∧ s.underAnswer d.line = true) : s.headStays d := by
  rcases h with h | ⟨hw, hu⟩
  · rcases judgeHead_direct_cases (s := s) hp with hj | ⟨kind, hj⟩
    · exact .inl hj
    · exact .inr ⟨by rw [hj]; rfl, h⟩
  · exact .inl (judgeHead_direct_underAnswer hp hw hu)

/-! ### The head judged again (R25) -/

theorem exec_judgedAgain_stays {r : LocalReq} (hcalm : s.calm = true) (hq : s.lpu.lrq = [r]) (hhead : s.lpu.head = some d)
    (h : s.headStays d) : exec .headJudgedAgain s = .next { s with out := noOutput } := by
  have hwaits : s.begin.headOnce = (s.begin, false) := by
    rw [headOnce_decoded (s := s.begin) hq hhead]
    exact startHead_stays (s := s.begin) h
  show Host.Outcome.next (s.begin.settle s.begin .all) = _
  rw [settle_head_waits s.begin hcalm hwaits hcalm s.begin .all (judgedAgain_all _ _)]
  rfl

theorem exec_judgedAgain_readHit {r : LocalReq} {st : LineState} (hcalm : s.calm = true) (hq : s.lpu.lrq = [r])
    (hhead : s.lpu.head = some d) (hj : s.judgeHead d = .readHit w) (hh : s.held d.line = some (w, st, x)) :
    exec .headJudgedAgain s = .next
      { s with
        lpu := { s.lpu with lrq := [], head := none, pinRecall := none, tags := s.tagsWithout d.item.tag }
        cache := (s.touch d.line w).cache
        out := oneResponse d.item.tag .ok (.bytes (x.bytes d.item.offset.toNat d.item.len)) } := by
  have hstart : s.begin.headOnce = ((s.begin.actHead d (.readHit w)).popHead, true) := by
    rw [headOnce_decoded (s := s.begin) hq hhead]
    exact startHead_leaves (s := s.begin) hj rfl nofun
  rw [actHead_readHit (s := s.begin) hh] at hstart
  have hcalm' := (calm_touch (s := s) (l := d.line) (w := w)).trans hcalm
  show Host.Outcome.next (s.begin.settle s.begin .all) = _
  rw [settle_head_started s.begin hcalm hstart hcalm' (by simp [hq]) s.begin .all (judgedAgain_all _ _)]
  unfold State.popHead
  dsimp only
  rw [show s.begin.lpu.lrq.tail = [] by simp [hq]]
  rfl

/-! ### The obligations -/

/-- Settles O17: a Read of a held line and a Write of one held Sole or Altered are answered in the event of their acceptance. -/
theorem cachedHitOutcomes : Obligations.CachedHitOutcomes :=
  ⟨fun _ _ _ _ _ _ _ _ _ _ hpass hp hop he hrq ht hh => exec_readHit hpass hp hop he hrq ht hh,
   fun _ _ _ _ _ _ _ _ _ _ hpass hp hop hfree hh hst => exec_writeHit hpass hp hop hfree hh hst⟩

/-- Settles O18: a miss that has all it needs (`exec_makeMiss`), the victim of R23, and each thing whose want keeps the head waiting. -/
theorem missMakesEntry : Obligations.MissMakesEntry := by
  refine ⟨?made, fun s l => ⟨fun v hv hlow => victim_empty hv hlow, fun hfull => ⟨fun v hv => ?oldest, fun hv u => ?no⟩,
    fun v k hw => by simp [State.replaceable, hw], fun v k st x hw => replaceable_holding_iff hw⟩, ?waits⟩
  case made =>
    intro s tag code addr len data d w t hpass hp hop he hrq ht hh hv htag hroom
    exact exec_makeMiss hpass hp hop he hrq ht hh hv htag hroom
  case oldest =>
    rw [victim_full hfull] at hv
    obtain ⟨hmem, hmax⟩ := foldl_olderOf_eq_some hv
    exact ⟨mem_replaceable.mp hmem, fun u hu => hmax u (mem_replaceable.mpr hu)⟩
  case no =>
    rw [victim_full hfull] at hv
    have hnone := foldl_olderOf_eq_none hv
    rw [← Bool.not_eq_true, ← mem_replaceable, hnone]
    exact List.not_mem_nil
  case waits =>
    intro s tag code addr len data r d hpass hacc hp hop he
    refine ⟨fun h => ?_, fun _ hh => ⟨fun h => ?_, fun w k x hv hw hfull => ?_⟩, fun w x _ hh hwrite htag => ?_⟩
    · exact exec_headStays hpass hacc (headStays_lineBusy hp hop he h)
    · exact exec_headStays hpass hacc (headStays_miss hp hop he hh (h.imp_right .inl))
    · exact exec_headStays hpass hacc (headStays_miss hp hop he hh (.inr (.inr ⟨w, k, x, hv, hw, hfull⟩)))
    · exact exec_headStays hpass hacc (headStays_promote hp hop he hwrite hh htag)

/-- Settles O19: a Write to a Copy, a direct request, and what keeps a direct request waiting. -/
theorem promoteAndDirectEntries : Obligations.PromoteAndDirectEntries := by
  refine ⟨?_, ?_, ?_⟩
  · intro s tag code addr len data d w x t hpass hp hop hfree hh htag
    exact exec_makePromote hpass hp hop hfree hh htag
  · intro s tag code addr len data d t hpass hp hop he htag
    exact exec_makeDirect hpass hp hop he htag
  · intro s tag code addr len data d r hpass hacc hp _ h
    exact exec_headStays hpass hacc (headStays_direct hp h)

/-- Settles O55: a head that must wait stays, and a Read whose line has come to be held is a hit. -/
theorem headJudgedAgainOutcomes : Obligations.HeadJudgedAgainOutcomes := by
  intro s r d hcalm hq hhead
  refine ⟨fun h => exec_judgedAgain_stays hcalm hq hhead (.inl h), ?_⟩
  intro w st x hp hop he hrq ht hh
  refine exec_judgedAgain_readHit hcalm hq hhead ?_ hh
  rw [judgeHead_held hp (.inl hop) hrq he (by simp [State.lineBusy, ht, hop]) hh, if_pos hop]

end Sys2Proof.Machine
end

section
/-!
PROOF. O5. SQ entries and held places together stay within 8 (R51): a place is held, and an entry made, only where one is free; the close of
a window makes at most the entries whose places its record holds, and releases these; nothing else adds to the SQ.
-/

namespace Sys2Proof.Machine

/-! ### The two fields that places of the SQ are counted from -/

/-- What `State.sqBounded` reads: how many entries the SQ holds, and the medium, whose open window holds places (log 26). -/
def State.supply (s : State) : Nat × Medium := (s.bus.sq.length, s.bus.medium)

variable {s t : State}

theorem sqBounded_iff : s.sqBounded = true ↔ s.bus.sq.length + s.sqHeld ≤ 8 := decide_eq_true_iff

/-- Held places are read from the medium alone. -/
theorem sqHeld_congr (h : t.bus.medium = s.bus.medium) : t.sqHeld = s.sqHeld := by simp only [State.sqHeld, h]

theorem length_of_supply (h : t.supply = s.supply) : t.bus.sq.length = s.bus.sq.length := congrArg Prod.fst h

theorem medium_of_supply (h : t.supply = s.supply) : t.bus.medium = s.bus.medium := congrArg Prod.snd h

/-- No more entries than before, and the medium as it was. -/
theorem sqBounded_of_le (hs : s.sqBounded = true) (hlen : t.bus.sq.length ≤ s.bus.sq.length)
    (hmed : t.bus.medium = s.bus.medium) : t.sqBounded = true := by
  rw [sqBounded_iff] at hs ⊢
  rw [sqHeld_congr hmed]
  omega

theorem sqBounded_of_supply (hs : s.sqBounded = true) (h : t.supply = s.supply) : t.sqBounded = true :=
  sqBounded_of_le hs (length_of_supply h).le (medium_of_supply h)

/-- A free place may be filled. -/
theorem sqBounded_of_filled (hfree : s.sqFree = true) (hlen : t.bus.sq.length ≤ s.bus.sq.length + 1)
    (hmed : t.bus.medium = s.bus.medium) : t.sqBounded = true := by
  rw [sqFree_iff] at hfree
  rw [sqBounded_iff, sqHeld_congr hmed]
  omega

/-- Places held are entries at most, once they are released. -/
theorem sqBounded_of_released (hs : s.sqBounded = true) (hlen : t.bus.sq.length ≤ s.bus.sq.length + s.sqHeld)
    (hheld : t.sqHeld = 0) : t.sqBounded = true := by
  rw [sqBounded_iff] at hs ⊢
  omega

/-! ### The named operations (Machine/Flags.lean, Machine/Ops.lean) -/

variable (s)

@[simp] theorem reply_supply (tag : PTag) (st : Status) (p : Payload) : (s.reply tag st p).supply = s.supply := rfl
@[simp] theorem answer_supply (tag : PTag) (st : Status) (p : Payload) : (s.answer tag st p).supply = s.supply := rfl
@[simp] theorem enterMode_supply (m : Mode) : (s.enterMode m).supply = s.supply := rfl
@[simp] theorem begin_supply : s.begin.supply = s.supply := rfl
@[simp] theorem popHead_supply : s.popHead.supply = s.supply := rfl
@[simp] theorem removePin_supply (l : LineNo) : (s.removePin l).supply = s.supply := rfl
@[simp] theorem addPin_supply (p : PinEntry) : (s.addPin p).supply = s.supply := rfl
@[simp] theorem holdPin_supply (l : LineNo) : (s.holdPin l).supply = s.supply := rfl
@[simp] theorem setWay_supply (l : LineNo) (w : WayNo) (x : Way) : (s.setWay l w x).supply = s.supply := rfl
@[simp] theorem touch_supply (l : LineNo) (w : WayNo) : (s.touch l w).supply = s.supply := rfl
@[simp] theorem walkEmpty_supply (p : Nat) : (s.walkEmpty p).supply = s.supply := rfl
@[simp] theorem setWalk_supply (w : Walk) : (s.setWalk w).supply = s.supply := rfl
@[simp] theorem setEntry_supply (t : ReqTag) (e : PrtEntry) : (s.setEntry t e).supply = s.supply := rfl
@[simp] theorem freeEntry_supply (t : ReqTag) : (s.freeEntry t).supply = s.supply := rfl
@[simp] theorem makeEntry_supply (t : ReqTag) (e : PrtEntry) : (s.makeEntry t e).supply = s.supply := rfl
@[simp] theorem setTurn_supply (t : Turn) : (s.setTurn t).supply = s.supply := rfl
@[simp] theorem enqueue_supply (i : SendItem) : (s.enqueue i).supply = s.supply := rfl
@[simp] theorem dequeue_supply (i : SendItem) : (s.dequeue i).supply = s.supply := rfl
@[simp] theorem ask_supply (a : Asker) : (s.ask a).supply = s.supply := rfl
@[simp] theorem addRq_supply (l : LineNo) (d : LineData) (ts : List PTag) : (s.addRq l d ts).supply = s.supply := rfl
@[simp] theorem addLineWork_supply (w : HwqWork) : (s.addLineWork w).supply = s.supply := rfl
@[simp] theorem addItemWork_supply (l : LineNo) (i : Item) : (s.addItemWork l i).supply = s.supply := rfl
@[simp] theorem setExportSet_supply (l : LineNo) (es : List ExportEntry) : (s.setExportSet l es).supply = s.supply := rfl
@[simp] theorem changeExport_supply (l : LineNo) (f : ExportEntry → ExportEntry) : (s.changeExport l f).supply = s.supply := rfl
@[simp] theorem clearAwaiting_supply (l : LineNo) : (s.clearAwaiting l).supply = s.supply := rfl
@[simp] theorem setAwaiting_supply (l : LineNo) : (s.setAwaiting l).supply = s.supply := rfl
@[simp] theorem removeExport_supply (l : LineNo) : (s.removeExport l).supply = s.supply := rfl
@[simp] theorem recallStarts_supply (l : LineNo) : (s.recallStarts l).supply = s.supply := rfl
@[simp] theorem mergeWay_supply (l : LineNo) (w : WayNo) (i : Item) : (s.mergeWay l w i).supply = s.supply := rfl
@[simp] theorem serveRead_supply (l : LineNo) (w : WayNo) (i : Item) : (s.serveRead l w i).supply = s.supply := rfl
@[simp] theorem awaitData_supply (t : ReqTag) (e : PrtEntry) (g : Grant) : (s.awaitData t e g).supply = s.supply := rfl
@[simp] theorem failWrite_supply (e : HwqEntry) : (s.failWrite e).supply = s.supply := rfl
@[simp] theorem writeHome_supply (ps : List Host.Cell) : (s.writeHome ps).supply = s.supply := rfl
@[simp] theorem holdResult_supply (r : Option LineData) : (s.holdResult r).supply = s.supply := rfl
@[simp] theorem setGap_supply : s.setGap.supply = s.supply := rfl
@[simp] theorem joinLrq_supply (r : LocalReq) : (s.joinLrq r).supply = s.supply := rfl
@[simp] theorem contestNumber_supply (n : StationNo) : (s.contestNumber n).supply = s.supply := rfl

/-- Whole blocks other than the Bus Interface may be written. -/
@[simp] theorem withLpu_supply (x : LocalPort) : ({ s with lpu := x } : State).supply = s.supply := rfl
@[simp] theorem withRet_supply (x : ReturnUnit) : ({ s with ret := x } : State).supply = s.supply := rfl
@[simp] theorem withHome_supply (x : HomeUnit) : ({ s with home := x } : State).supply = s.supply := rfl
@[simp] theorem withCtl_supply (x : Controller) : ({ s with ctl := x } : State).supply = s.supply := rfl

@[simp] theorem addFault_supply (r : FaultRecord) : (s.addFault r).supply = s.supply := by simp [State.supply]
@[simp] theorem startPort_supply : s.startPort.supply = s.supply := by unfold State.startPort; split <;> rfl
@[simp] theorem popHwq_supply : s.popHwq.supply = s.supply := by simp [State.popHwq]
@[simp] theorem createOrSet_supply (l : LineNo) (c : ExportClass) : (s.createOrSet l c).supply = s.supply := by
  unfold State.createOrSet; split <;> simp
@[simp] theorem answerFlushes_supply (ts : List PTag) : (s.answerFlushes ts).supply = s.supply := by
  induction ts generalizing s with
  | nil => rfl
  | cons t ts ih => exact ih (s.answer t .ok .none)
@[simp] theorem removeRq_supply (l : LineNo) : (s.removeRq l).supply = s.supply := by
  unfold State.removeRq; split <;> simp

/-! ### The LRQ head (Machine/Head.lean) -/

@[simp] theorem makeAtFree_supply (e : PrtEntry) : (s.makeAtFree e).supply = s.supply := by
  unfold State.makeAtFree; split <;> simp
@[simp] theorem pendPin_supply (i : Item) (l : LineNo) (p : PinPath) : (s.pendPin i l p).supply = s.supply := by
  unfold State.pendPin; split <;> simp
@[simp] theorem attachItem_supply (t : ReqTag) (i : Item) : (s.attachItem t i).supply = s.supply := by
  unfold State.attachItem; split <;> simp
@[simp] theorem evict_supply (l : LineNo) (w : WayNo) : (s.evict l w).supply = s.supply := by
  unfold State.evict; split <;> simp
@[simp] theorem actHead_supply (d : Decoded) (a : HeadAction) : (s.actHead d a).supply = s.supply := by
  cases a with
  | pinRecall => exact makeAtFree_supply s _
  | _ => simp [State.actHead]
@[simp] theorem startHead_supply (d : Decoded) : (s.startHead d).1.supply = s.supply := by
  unfold State.startHead; dsimp only; split
  · rfl
  · split <;> simp
@[simp] theorem refuseDecode_supply (r : LocalReq) (st : Status) (p : Payload) : (s.refuseDecode r st p).supply = s.supply := by
  unfold State.refuseDecode; split <;> simp
@[simp] theorem headOnce_supply : s.headOnce.1.supply = s.supply := by
  unfold State.headOnce
  split
  · rfl
  · split
    · simp
    · split <;> simp
@[simp] theorem recheckHead_supply : s.recheckHead.supply = s.supply := by
  unfold State.recheckHead; split <;> simp

/-! ### The Request Engine (Machine/Engine.lean) -/

@[simp] theorem serveItem_supply (l : LineNo) (w : WayNo) (i : Item) : (State.serveItem l w s i).supply = s.supply := by
  unfold State.serveItem
  split
  case h_4 =>
    split
    · split <;> simp
    · simp
  all_goals simp
@[simp] theorem serve_supply (l : LineNo) (w : WayNo) (is : List Item) : (s.serve l w is).supply = s.supply := by
  induction is generalizing s with
  | nil => rfl
  | cons i is ih => exact (ih (State.serveItem l w s i)).trans (serveItem_supply s l w i)
@[simp] theorem answerAll_supply (is : List Item) (st : Status) : (s.answerAll is st).supply = s.supply := by
  rw [answerAll_eq]; rfl
@[simp] theorem dropPendingPin_supply (e : PrtEntry) : (s.dropPendingPin e).supply = s.supply := by
  unfold State.dropPendingPin; split <;> simp
@[simp] theorem emptyReserved_supply (e : PrtEntry) : (s.emptyReserved e).supply = s.supply := by
  unfold State.emptyReserved; split <;> simp
@[simp] theorem recallFails_supply (t : ReqTag) (e : PrtEntry) (st : Status) : (s.recallFails t e st).supply = s.supply := by
  unfold State.recallFails; dsimp only; (repeat' split) <;> simp
@[simp] theorem abandonOrFree_supply (t : ReqTag) (e : PrtEntry) : (s.abandonOrFree t e).supply = s.supply := by
  unfold State.abandonOrFree; split <;> simp
@[simp] theorem endEntry_supply (t : ReqTag) (e : PrtEntry) (st : Status) : (s.endEntry t e st).supply = s.supply := by
  simp [State.endEntry]
@[simp] theorem exhaust_supply (t : ReqTag) (e : PrtEntry) : (s.exhaust t e).supply = s.supply := by simp [State.exhaust]
@[simp] theorem timeOut_supply (t : ReqTag) (e : PrtEntry) : (s.timeOut t e).supply = s.supply := by simp [State.timeOut]
@[simp] theorem cancelEntry_supply (t : ReqTag) (e : PrtEntry) : (s.cancelEntry t e).supply = s.supply := by
  unfold State.cancelEntry; dsimp only; split <;> simp
@[simp] theorem completePromote_supply (t : ReqTag) (e : PrtEntry) (w : WayNo) :
    (s.completePromote t e w).supply = s.supply := by simp [State.completePromote]
@[simp] theorem promoteToClaim_supply (t : ReqTag) (e : PrtEntry) (w : WayNo) :
    (s.promoteToClaim t e w).supply = s.supply := by simp [State.promoteToClaim]
/-- Work for a whole list joins the HWQ. -/
@[simp] theorem addItemWorks_supply (l : LineNo) (is : List Item) :
    (is.foldl (fun s i => s.addItemWork l i) s).supply = s.supply := by
  induction is generalizing s with
  | nil => rfl
  | cons i is ih => exact ih (s.addItemWork l i)
@[simp] theorem completeRecall_supply (t : ReqTag) (e : PrtEntry) : (s.completeRecall t e).supply = s.supply := by
  unfold State.completeRecall; dsimp only; split <;> simp
@[simp] theorem ownResult_supply (t : ReqTag) (e : PrtEntry) (c : AnswerCode) : (s.ownResult t e c).supply = s.supply := by
  unfold State.ownResult; (repeat' split) <;> simp
@[simp] theorem afterServing_supply (t : ReqTag) (e : PrtEntry) (w : WayNo) (fromHome : Bool) :
    (s.afterServing t e w fromHome).supply = s.supply := by
  unfold State.afterServing; dsimp only; (repeat' split) <;> simp
@[simp] theorem fillLine_supply (t : ReqTag) (e : PrtEntry) (w : WayNo) (st : LineState) (d : LineData) (fromHome : Bool) :
    (s.fillLine t e w st d fromHome).supply = s.supply := by simp [State.fillLine]
@[simp] theorem takeLine_supply (t : ReqTag) (e : PrtEntry) (g : Grant) (d : LineData) (sender : StationNo) :
    (s.takeLine t e g d sender).supply = s.supply := by
  unfold State.takeLine; split <;> simp
/-- Each request of a list answered with bytes of a line. -/
@[simp] theorem answerBytes_supply (d : LineData) (is : List Item) :
    (is.foldl (fun s i => s.answer i.tag .ok (.bytes (d.bytes i.offset.toNat i.len))) s).supply = s.supply := by
  induction is generalizing s with
  | nil => rfl
  | cons i is ih => exact ih (s.answer i.tag .ok (.bytes (d.bytes i.offset.toNat i.len)))
@[simp] theorem takeDirect_supply (t : ReqTag) (e : PrtEntry) (d : LineData) : (s.takeDirect t e d).supply = s.supply := by
  simp [State.takeDirect]
@[simp] theorem takeRecall_supply (t : ReqTag) (e : PrtEntry) (d : LineData) : (s.takeRecall t e d).supply = s.supply := by
  simp [State.takeRecall]
@[simp] theorem takeAbandoned_supply (t : ReqTag) (e : PrtEntry) : (s.takeAbandoned t e).supply = s.supply := by
  unfold State.takeAbandoned; dsimp only; (repeat' split) <;> simp
@[simp] theorem takeMessage_supply (t : ReqTag) (e : PrtEntry) (m : DataMsg) (sender : StationNo) :
    (s.takeMessage t e m sender).supply = s.supply := by
  unfold State.takeMessage; dsimp only; (repeat' split) <;> simp
@[simp] theorem destinationTakes_supply (sender : StationNo) (m : DataMsg) :
    (s.destinationTakes sender m).2.supply = s.supply := by
  unfold State.destinationTakes; dsimp only; (repeat' split) <;> simp
@[simp] theorem expireData_supply (t : ReqTag) : (s.expireData t).supply = s.supply := by
  unfold State.expireData; (repeat' split) <;> simp
@[simp] theorem takeHeldExpiry_supply (t : ReqTag) : (s.takeHeldExpiry t).supply = s.supply := by
  unfold State.takeHeldExpiry; (repeat' split) <;> simp
@[simp] theorem takeHeldExpiries_supply : s.takeHeldExpiries.supply = s.supply := by simp [State.takeHeldExpiries, allTags]

/-! ### Enrolment, the home, the timers and the control window -/

@[simp] theorem notePeer_supply (n : StationNo) : (s.notePeer n).supply = s.supply := by
  unfold State.notePeer
  split
  · rfl
  · rw [addFault_supply]; rfl
@[simp] theorem isolate_supply (r : FaultRecord) : (s.isolate r).supply = s.supply := addFault_supply s r
@[simp] theorem queueReady_supply : s.queueReady.supply = s.supply := by unfold State.queueReady; split <;> rfl
@[simp] theorem applyClaim_supply (n : StationNo) (i : Nat) (c : Claim) : (s.applyClaim n i c).supply = s.supply := by
  unfold State.applyClaim
  dsimp only
  split
  · rfl
  · rfl
  · split <;> simp
@[simp] theorem applyClaims_supply (n : StationNo) (i : Nat) (cs : List Claim) :
    (s.applyClaims n i cs).supply = s.supply := by
  induction cs generalizing s i with
  | nil => rfl
  | cons c cs ih => exact (ih (s.applyClaim n i c) (i + 1)).trans (applyClaim_supply s n i c)
@[simp] theorem recordAnnounce_supply (n : StationNo) (f : BitVec 4) (cs : List Claim) (own : Bool) :
    (s.recordAnnounce n f cs own).supply = s.supply := by
  unfold State.recordAnnounce; dsimp only; split <;> simp
@[simp] theorem takeAnnounce_supply (n : StationNo) (f : BitVec 4) (cs : List Claim) (own : Bool) :
    (s.takeAnnounce n f cs own).supply = s.supply := by
  unfold State.takeAnnounce; (repeat' split) <;> simp
@[simp] theorem closeRoll_supply : s.closeRoll.supply = s.supply := by unfold State.closeRoll; split <;> rfl
@[simp] theorem countReady_supply (n : StationNo) : (s.countReady n).supply = s.supply := by
  unfold State.countReady; split <;> rfl
@[simp] theorem checkOperational_supply : s.checkOperational.supply = s.supply := by
  unfold State.checkOperational; split <;> rfl
@[simp] theorem enrolReady_supply (n : StationNo) (set : StationSet) : (s.enrolReady n set).supply = s.supply := by
  unfold State.enrolReady; dsimp only; (repeat' split) <;> simp
@[simp] theorem takeReady_supply (n : StationNo) (set : StationSet) : (s.takeReady n set).supply = s.supply := by
  unfold State.takeReady; split <;> simp
@[simp] theorem requeueOwn_supply (own : Option SendItem) : (s.requeueOwn own).supply = s.supply := by
  unfold State.requeueOwn; (repeat' split) <;> simp
@[simp] theorem closeAnnounce_supply (own : Option SendItem) (n : StationNo) (f : BitVec 4) (cs : List Claim) (c : AnswerCode) :
    (s.closeAnnounce own n f cs c).supply = s.supply := by
  cases c <;> simp [State.closeAnnounce]
@[simp] theorem closeReady_supply (own : Option SendItem) (n : StationNo) (set : StationSet) (c : AnswerCode) :
    (s.closeReady own n set c).supply = s.supply := by
  cases c <;> simp [State.closeReady]
@[simp] theorem expireEnrolment_supply : s.expireEnrolment.supply = s.supply := by
  unfold State.expireEnrolment; (repeat' split) <;> simp

@[simp] theorem memorySuccess_supply (e : HwqEntry) : (s.memorySuccess e).supply = s.supply := by
  unfold State.memorySuccess State.pinCompletes; (repeat' split) <;> simp
@[simp] theorem memoryError_supply (e : HwqEntry) : (s.memoryError e).supply = s.supply := by
  unfold State.memoryError State.errorEffect State.pinFails; (repeat' split) <;> simp
@[simp] theorem completeMemory_supply (ok : Bool) : (s.completeMemory ok).supply = s.supply := by
  unfold State.completeMemory; (repeat' split) <;> simp
@[simp] theorem expireAwaiting_supply (l : LineNo) : (s.expireAwaiting l).supply = s.supply := by
  unfold State.expireAwaiting; split <;> simp
@[simp] theorem expirePin_supply (l : LineNo) : (s.expirePin l).supply = s.supply := by
  unfold State.expirePin; (repeat' split) <;> simp

@[simp] theorem joinRoll_supply : s.joinRoll.supply = s.supply := by
  unfold State.joinRoll
  split
  · exact isolate_supply s _
  · split
    · exact isolate_supply s _
    · rfl
@[simp] theorem doJoin_supply (tag : PTag) : (s.doJoin tag).supply = s.supply := by
  unfold State.doJoin; (repeat' split) <;> simp
@[simp] theorem doResume_supply (tag : PTag) : (s.doResume tag).supply = s.supply := by
  unfold State.doResume; split <;> simp
@[simp] theorem clearLog_supply (tag : PTag) : (s.clearLog tag).supply = s.supply := rfl
@[simp] theorem readStatus_supply (tag : PTag) : (s.readStatus tag).supply = s.supply := rfl
@[simp] theorem writeEnables_supply (tag : PTag) (v : BitVec 64) : (s.writeEnables tag v).supply = s.supply := rfl
@[simp] theorem popLog_supply (tag : PTag) : (s.popLog tag).supply = s.supply := by
  unfold State.popLog; split <;> rfl
@[simp] theorem writeStart_supply (tag : PTag) (x : Register) (v : BitVec 64) : (s.writeStart tag x v).supply = s.supply := by
  unfold State.writeStart; split <;> simp
@[simp] theorem controlRead_supply (tag : PTag) (o : BitVec 12) : (s.controlRead tag o).supply = s.supply := by
  unfold State.controlRead; split <;> simp

/-! ### What follows in the same event (Machine/Settle.lean) -/

@[simp] theorem emptyCopy_supply (l : LineNo) : (s.emptyCopy l).supply = s.supply := by
  unfold State.emptyCopy; split <;> simp
@[simp] theorem victimOne_supply : s.victimOne.supply = s.supply := by
  unfold State.victimOne; split <;> simp [State.makeVictim]
@[simp] theorem allocate_supply (n : Nat) (a b j : Bool) : (s.allocate n a b j).supply = s.supply := by
  induction n generalizing s a b j with
  | zero => rfl
  | succ n ih => unfold State.allocate; (repeat' split) <;> simp [ih]
@[simp] theorem walkFrom_supply (n p : Nat) : (s.walkFrom n p).supply = s.supply := by
  induction n generalizing s p with
  | zero => simp [State.walkFrom]
  | succ n ih => unfold State.walkFrom; (repeat' split) <;> simp [ih]
@[simp] theorem runWalk_supply : s.runWalk.supply = s.supply := by
  unfold State.runWalk; (repeat' split) <;> simp
@[simp] theorem enterQuiesced_supply : s.enterQuiesced.supply = s.supply := by
  unfold State.enterQuiesced; split <;> simp

/-- R55: the entry that is converted leaves the SQ, and none joins it. -/
theorem convert_sq (e : SqEntry) :
    (s.convert e).bus.sq.length ≤ s.bus.sq.length ∧ (s.convert e).bus.medium = s.bus.medium := by
  have hkeep : ((s.addRq e.msg.line (e.msg.data.getD (fill 6 0)) []).emptyCopy e.msg.line).supply = s.supply := by simp
  simp only [State.convert, addFault_bus]
  exact ⟨List.length_eraseP_le.trans (length_of_supply hkeep).le, medium_of_supply hkeep⟩

theorem convertOne_sq :
    s.convertOne.bus.sq.length ≤ s.bus.sq.length ∧ s.convertOne.bus.medium = s.bus.medium := by
  unfold State.convertOne
  split
  · split
    · exact convert_sq s _
    · exact ⟨le_rfl, rfl⟩
  · exact ⟨le_rfl, rfl⟩

theorem convertAll_sq (n : Nat) :
    (State.convertAll n s).bus.sq.length ≤ s.bus.sq.length ∧ (State.convertAll n s).bus.medium = s.bus.medium := by
  induction n generalizing s with
  | zero => exact ⟨le_rfl, rfl⟩
  | succ n ih =>
    unfold State.convertAll
    split
    · obtain ⟨hlen, hmed⟩ := ih s.convertOne
      obtain ⟨hlen', hmed'⟩ := convertOne_sq s
      exact ⟨hlen.trans hlen', hmed.trans hmed'⟩
    · exact ⟨le_rfl, rfl⟩

/-- What an asker is given is one entry at most. -/
theorem giveTo_sq (a : Asker) :
    (s.giveTo a).bus.sq.length ≤ s.bus.sq.length + 1 ∧ (s.giveTo a).bus.medium = s.bus.medium := by
  cases a with
  | prt t =>
    unfold State.giveTo State.placePrt
    dsimp only
    split
    · simp
    · split <;> simp [State.handOff, State.placeAbandoned]
      split <;> simp
  | home =>
    unfold State.giveTo State.placeHome
    dsimp only
    (repeat' split) <;> simp [popHwq_eq]

/-- R51: a place is given only where one is free. -/
theorem giveOne_sqBounded (hs : s.sqBounded = true) : s.giveOne.sqBounded = true := by
  unfold State.giveOne
  split
  · exact hs
  case h_2 a rest _ =>
    split
    case isTrue hfree =>
      obtain ⟨hlen, hmed⟩ := giveTo_sq { s with bus.askers := rest } a
      exact sqBounded_of_filled hfree hlen hmed
    case isFalse => exact hs

theorem givePlaces_sqBounded (n : Nat) (hs : s.sqBounded = true) : (State.givePlaces n s).sqBounded = true := by
  induction n generalizing s with
  | zero => exact hs
  | succ n ih =>
    unfold State.givePlaces
    split
    · exact hs
    · exact ih _ (giveOne_sqBounded s hs)

/-- What follows an event keeps the bound. -/
theorem settle_sqBounded (hs : s.sqBounded = true) (s0 : State) (j : Judged) : (s.settle s0 j).sqBounded = true := by
  obtain ⟨hlen, hmed⟩ := convertAll_sq s s.bus.sq.length
  have hplaces := givePlaces_sqBounded _ (State.convertAll s.bus.sq.length s).bus.askers.length (sqBounded_of_le hs hlen hmed)
  refine sqBounded_of_supply hplaces ?_
  simp [State.settle, State.allocateAfter]

/-- What leaves the two fields alone, and what then follows in the same event. -/
theorem settle_sqBounded_of_supply {s t : State} (hs : s.sqBounded = true) (h : t.supply = s.supply) (s0 : State) (j : Judged) :
    (t.settle s0 j).sqBounded = true :=
  settle_sqBounded t (sqBounded_of_supply hs h) s0 j

/-! ### Places held at an arrival (Machine/Snoop.lean, Machine/Bus.lean) -/

@[simp] theorem markForRequest_supply (r : Request) : (s.markForRequest r).supply = s.supply := by
  unfold State.markForRequest State.markVictim; (repeat' split) <;> simp

/-- R32: the Line Cache holds a place only where one is free. -/
theorem cacheJudge_holds (k : LineKind) (l : LineNo) : (s.cacheJudge k l).2.2 = true → s.sqFree = true := by
  unfold State.cacheJudge
  (repeat' split) <;> simp_all

/-- R125: the Return Unit holds a place only where one is free beside those held before it. -/
theorem returnJudge_holds (k : LineKind) (l : LineNo) (taken : Nat) :
    (s.returnJudge k l taken).2 = true → s.bus.sq.length + s.sqHeld + taken < 8 := by
  unfold State.returnJudge
  (repeat' split) <;> simp_all [Config.sqPlaces]

/-- R42, R51: the places that a judgement holds are free ones. -/
theorem judgeRequest_holds (r : Request) (hs : s.sqBounded = true) :
    s.bus.sq.length + s.sqHeld + ((s.judgeRequest r).2.supply.toNat + (s.judgeRequest r).2.takeover.toNat) ≤ 8 := by
  rw [sqBounded_iff] at hs
  cases r with
  | line k t g l =>
    have hcache := cacheJudge_holds s k l
    have hreturn := returnJudge_holds s k l (s.cacheJudge k l).2.2.toNat
    rw [sqFree_iff] at hcache
    simp only [State.judgeRequest, State.judgeLine]
    generalize (s.returnJudge k l (s.cacheJudge k l).2.2.toNat).2 = takeover at hreturn ⊢
    generalize (s.cacheJudge k l).2.2 = supply at hcache hreturn ⊢
    cases supply <;> cases takeover <;> simp at hcache hreturn ⊢ <;> omega
  | giveBack | directRead | directWrite | announce | ready => exact hs

/-- Before a window opens no place is held; then those of its record are. -/
theorem openWindow_sqBounded {s u : State} {w : Window} (hidle : s.bus.medium = .idle) (hu : u.supply = s.supply)
    (hw : s.bus.sq.length + s.sqHeld + (w.record.supply.toNat + w.record.takeover.toNat) ≤ 8) :
    (u.openWindow w).sqBounded = true := by
  have hlen := length_of_supply hu
  have hheld : s.sqHeld = 0 := by simp [State.sqHeld, hidle]
  rw [sqBounded_iff]
  show u.bus.sq.length + (w.record.supply.toNat + w.record.takeover.toNat) ≤ 8
  omega

/-- A window in which nothing is recorded holds no place. -/
theorem openWindow_plain_sqBounded {s u : State} {w : Window} (hs : s.sqBounded = true) (hidle : s.bus.medium = .idle)
    (hu : u.supply = s.supply) (hw : w.record = .nothing) : (u.openWindow w).sqBounded = true :=
  openWindow_sqBounded hidle hu (by rw [hw]; exact sqBounded_iff.mp hs)

theorem memberArrival_sqBounded (hs : s.sqBounded = true) (hidle : s.bus.medium = .idle) (sender : StationNo) (r : Request) :
    (s.memberArrival sender r).sqBounded = true := by
  unfold State.memberArrival
  split
  · exact openWindow_plain_sqBounded hs hidle (by simp) rfl
  · unfold State.judgeArrival
    split
    · exact openWindow_sqBounded hidle (markForRequest_supply s r) (judgeRequest_holds s r hs)
    · exact openWindow_plain_sqBounded hs hidle rfl rfl

theorem peerArrival_sqBounded (hs : s.sqBounded = true) (hidle : s.bus.medium = .idle) (msg : Option (StationNo × Request)) :
    (s.peerArrival msg).sqBounded = true := by
  unfold State.peerArrival
  split
  · exact hs
  · split
    · exact openWindow_plain_sqBounded hs hidle (by simp) rfl
    · exact openWindow_plain_sqBounded hs hidle (by split <;> simp) rfl
  · split
    · exact openWindow_plain_sqBounded hs hidle rfl rfl
    · exact openWindow_plain_sqBounded hs hidle (by split <;> simp) rfl
  · exact openWindow_plain_sqBounded hs hidle rfl rfl
  all_goals
    split
    · exact openWindow_plain_sqBounded hs hidle rfl rfl
    · exact memberArrival_sqBounded s hs hidle _ _

/-! ### The close of an answer window -/

@[simp] theorem changeEntry_supply (t : ReqTag) (f : PrtEntry → PrtEntry) : (s.changeEntry t f).supply = s.supply := by
  unfold State.changeEntry; split <;> simp
@[simp] theorem convertPromote_supply (t : ReqTag) : (s.convertPromote t).supply = s.supply := by
  unfold State.convertPromote; dsimp only; (repeat' split) <;> simp
@[simp] theorem closeEngine_supply (rec : Recorded) (c : AnswerCode) (k : LineKind) (sender : StationNo) (t : ReqTag) (g : Gen) :
    (s.closeEngine rec c k sender t g).supply = s.supply := by
  unfold State.closeEngine; (repeat' split) <;> simp
@[simp] theorem returnSettles_supply (l : LineNo) : (s.returnSettles l).supply = s.supply := by
  unfold State.returnSettles; (repeat' split) <;> simp
@[simp] theorem homeChange_supply (sender : StationNo) (r : Request) (c : AnswerCode) :
    (s.homeChange sender r c).supply = s.supply := by
  unfold State.homeChange; (repeat' split) <;> simp
@[simp] theorem applyOwn_supply (i : SendItem) (c : AnswerCode) : (s.applyOwn i c).supply = s.supply := by
  unfold State.applyOwn; (repeat' split) <;> simp

theorem addSq_supply (m : DataMsg) (f : Bool) : (s.addSq m f).supply = (s.bus.sq.length + 1, s.bus.medium) := by
  simp [State.supply, State.addSq]

/-- R32: the Line Cache makes the entry whose place it held. -/
theorem closeCache_length (rec : Recorded) (k : LineKind) (dest : StationNo) (t : ReqTag) (g : Gen) (l : LineNo) :
    (s.closeCache rec k dest t g l).bus.sq.length ≤ s.bus.sq.length + rec.supply.toNat := by
  unfold State.closeCache
  dsimp only
  split
  · simp
  · cases rec.supply <;> (split <;> simp)

/-- R126: so does the Return Unit. -/
theorem closeTakeover_length (rec : Recorded) (k : LineKind) (dest : StationNo) (t : ReqTag) (g : Gen) (l : LineNo) :
    (s.closeTakeover rec k dest t g l).bus.sq.length ≤ s.bus.sq.length + rec.takeover.toNat := by
  unfold State.closeTakeover
  split
  case isTrue htake =>
    split
    case h_1 e _ =>
      have hkeep := removeRq_supply (s.addSq (supplyMsg k dest t g l e.data) true) l
      rw [addSq_supply] at hkeep
      have hlen : ((s.addSq (supplyMsg k dest t g l e.data) true).removeRq l).bus.sq.length = s.bus.sq.length + 1 :=
        congrArg Prod.fst hkeep
      simp [hlen, htake]
    case h_2 => simp
  case isFalse => simp

theorem applyPeer_length (sender : StationNo) (r : Request) (rec : Recorded) (c : AnswerCode) :
    (s.applyPeer sender r rec c).bus.sq.length ≤ s.bus.sq.length + (rec.supply.toNat + rec.takeover.toNat) := by
  have hhome : ∀ u : State, (if rec.home then u.homeChange sender r c else u).bus.sq.length = u.bus.sq.length := fun u => by
    split
    · exact length_of_supply (homeChange_supply u sender r c)
    · rfl
  unfold State.applyPeer
  dsimp only
  rw [hhome]
  cases r with
  | line k t g l =>
    have hcache := closeCache_length s rec k sender t g l
    have htake := closeTakeover_length (s.closeCache rec k sender t g l) rec k sender t g l
    have hengine := length_of_supply
      (closeEngine_supply ((s.closeCache rec k sender t g l).closeTakeover rec k sender t g l) rec c k sender t g)
    dsimp only
    omega
  | giveBack | directRead | directWrite | announce | ready => exact Nat.le_add_right _ _

/-- R45, R46: at the close of a window the places it held are entries at most, and are released. -/
theorem closeWindow_length (w : Window) (c : AnswerCode) :
    (s.closeWindow w c).bus.sq.length ≤ s.bus.sq.length + (w.record.supply.toNat + w.record.takeover.toNat) := by
  have hheld : ∀ u : State, u.takeHeldExpiries.idle.bus.sq.length = u.bus.sq.length := fun u => by
    rw [idle_bus_sq, length_of_supply (takeHeldExpiries_supply u)]
  unfold State.closeWindow
  dsimp only
  rw [hheld]
  split
  · rw [length_of_supply (applyOwn_supply s _ c)]
    exact Nat.le_add_right _ _
  · split
    · exact Nat.le_add_right _ _
    · exact applyPeer_length s _ _ _ _
  · exact Nat.le_add_right _ _

theorem closeAny_length (w : Window) (c : AnswerCode) :
    (s.closeAny w c).bus.sq.length ≤ s.bus.sq.length + (w.record.supply.toNat + w.record.takeover.toNat) := by
  unfold State.closeAny
  split
  · exact (length_of_supply (closeAnnounce_supply s _ _ _ _ c)).le.trans (Nat.le_add_right _ _)
  · exact (length_of_supply (closeReady_supply s _ _ _ c)).le.trans (Nat.le_add_right _ _)
  all_goals exact closeWindow_length s w c

/-- After the close the medium is idle. -/
theorem closeAny_medium (w : Window) (c : AnswerCode) : (s.closeAny w c).bus.medium = .idle := by
  unfold State.closeAny
  split <;> rfl

theorem closeAnswer_sqBounded {s t : State} {kind : WindowKind} {driven : Table (BitVec 3) 4} (hs : s.sqBounded = true)
    (h : s.closeAnswer kind driven = .next t) : t.sqBounded = true := by
  unfold State.closeAnswer at h
  split at h
  case h_1 => cases h; exact hs
  case h_2 w hw =>
    split at h
    · cases h
      have hheld : s.sqHeld = w.record.supply.toNat + w.record.takeover.toNat := by simp [State.sqHeld, hw]
      refine settle_sqBounded _ (sqBounded_of_released hs ?_ ?_) _ _
      · rw [hheld]
        exact closeAny_length s w _
      · simp [State.sqHeld, closeAny_medium]
    · cases h
  all_goals cases h

/-! ### Sending, data messages and the control window -/

@[simp] theorem changeSqHead_go_length (f : SqEntry → SqEntry) (es : List SqEntry) :
    (State.changeSqHead.go f es).length = es.length := by
  induction es with
  | nil => rfl
  | cons e es ih => unfold State.changeSqHead.go; split <;> simp [ih]

theorem changeSqHead_supply (f : SqEntry → SqEntry) : (s.changeSqHead f).supply = s.supply := by
  simp [State.supply, State.changeSqHead]

/-- A unit that this station has sent holds no place. -/
theorem sent_sqBounded {s u : State} {x : OwnUnit} (hs : s.sqBounded = true) (hlen : u.bus.sq.length = s.bus.sq.length)
    (hmed : u.bus.medium = .sent x) : u.sqBounded = true :=
  sqBounded_of_released hs (hlen.le.trans (Nat.le_add_right _ _)) (by simp [State.sqHeld, hmed])

theorem sendRequest_sqBounded (hs : s.sqBounded = true) : s.sendRequest.sqBounded = true := by
  unfold State.sendRequest
  split
  · exact hs
  · split
    · exact sent_sqBounded hs rfl rfl
    · exact hs

theorem sendData_sqBounded (hs : s.sqBounded = true) : s.sendData.sqBounded = true := by
  unfold State.sendData
  split
  · exact sent_sqBounded hs (changeSqHead_go_length _ _) rfl
  · exact hs

theorem send_sqBounded (hs : s.sqBounded = true) (c : ContenderClass) : (s.send c).sqBounded = true := by
  unfold State.send
  split
  · split
    · exact sendData_sqBounded s hs
    · exact hs
  · split
    · exact sendRequest_sqBounded s hs
    · exact hs

theorem contend_sqBounded (hs : s.sqBounded = true) (peers : List Contender) (d : Declared) :
    (s.contend peers d).sqBounded = true := by
  unfold State.contend
  dsimp only
  split
  case h_1 => exact hs
  case h_2 w _ =>
    split
    · exact send_sqBounded { s with bus.lastWinner := w.number } hs w.cls
    · exact hs

/-- An acknowledgement window holds no place. -/
theorem openAck_sqBounded {s u : State} (hs : s.sqBounded = true) (hu : u.supply = s.supply) (own homeTake : Bool)
    (dest home : Option AckCode) : (u.openAck own homeTake dest home).sqBounded = true :=
  sqBounded_of_released hs ((length_of_supply hu).le.trans (Nat.le_add_right _ _)) rfl

@[simp] theorem homePart_supply (sender : StationNo) (m : DataMsg) : (s.homePart sender m).2.supply = s.supply := by
  unfold State.homePart State.homeTakes State.abandonedAtHome; dsimp only; (repeat' split) <;> simp
@[simp] theorem destPart_supply (sender : StationNo) (m : DataMsg) : (s.destPart sender m).2.supply = s.supply := by
  unfold State.destPart; dsimp only; split <;> simp

theorem peerData_sqBounded (hs : s.sqBounded = true) (msg : Option (StationNo × DataMsg)) :
    (s.peerData msg).sqBounded = true := by
  unfold State.peerData
  split
  case h_1 => exact hs
  case h_2 => exact openAck_sqBounded hs (setGap_supply s) _ _ _ _
  case h_3 =>
    split
    · exact openAck_sqBounded hs rfl _ _ _ _
    · exact openAck_sqBounded hs (isolate_supply s _) _ _ _ _
  case h_4 => exact openAck_sqBounded hs rfl _ _ _ _
  all_goals
    split
    · exact openAck_sqBounded hs rfl _ _ _ _
    · exact settle_sqBounded _ (openAck_sqBounded hs (by simp) _ _ _ _) _ _

@[simp] theorem failedRecords_supply (e : SqEntry) : (s.failedRecords e).supply = s.supply := by
  unfold State.failedRecords; dsimp only; (repeat' split) <;> simp

/-- R53: at the end of its delivery an entry leaves the SQ or waits in it. -/
theorem senderAck_length (read : Option SqEntry) : (s.senderAck read).1.bus.sq.length ≤ s.bus.sq.length := by
  have hdrop : s.dropSqHead.bus.sq.length ≤ s.bus.sq.length := List.length_eraseP_le
  unfold State.senderAck State.endDelivery
  split
  · exact le_rfl
  · split
    · split
      · split
        · exact hdrop
        · exact (length_of_supply (changeSqHead_supply s _)).le
      · exact (length_of_supply (failedRecords_supply s.dropSqHead _)).le.trans hdrop
    · exact (length_of_supply (changeSqHead_supply s _)).le

theorem closeAck_sqBounded (hs : s.sqBounded = true) (a : AckWindow) (dest home : BitVec 3) :
    (s.closeAck a dest home).sqBounded = true := by
  refine settle_sqBounded _ (sqBounded_of_released hs ?_ (by simp [State.sqHeld])) _ _
  rw [idle_bus_sq]
  exact (senderAck_length s _).trans (Nat.le_add_right _ _)

theorem doQuiesce_sqBounded (hs : s.sqBounded = true) (tag : PTag) : (s.doQuiesce tag).sqBounded = true := by
  unfold State.doQuiesce
  split
  · exact settle_sqBounded_of_supply hs (by simp) s .byChange
  · exact sqBounded_of_supply hs (by simp)

theorem writeCommand_sqBounded (hs : s.sqBounded = true) (tag : PTag) (v : BitVec 64) :
    (s.writeCommand tag v).sqBounded = true := by
  unfold State.writeCommand
  split
  · exact sqBounded_of_supply hs (by simp)
  · split
    · exact doQuiesce_sqBounded s hs tag
    · exact sqBounded_of_supply hs (by (repeat' split) <;> simp)

theorem controlWrite_sqBounded (hs : s.sqBounded = true) (tag : PTag) (o : BitVec 12) (v : BitVec 64) :
    (s.controlWrite tag o v).sqBounded = true := by
  unfold State.controlWrite
  split
  case h_3 => exact writeCommand_sqBounded s hs tag v
  all_goals exact sqBounded_of_supply hs (by simp)

theorem control_sqBounded (hs : s.sqBounded = true) (tag : PTag) (effect : State → State)
    (h : (effect s).sqBounded = true) : (s.control tag effect).sqBounded = true := by
  unfold State.control
  split
  · exact sqBounded_of_supply hs (by simp)
  · exact h

theorem acceptLocal_sqBounded (hs : s.sqBounded = true) (tag : PTag) (code : BitVec 3) (addr : LocalAddr) (len : BitVec 6)
    (data : List Byte) : (s.acceptLocal tag code addr len data).sqBounded = true := by
  unfold State.acceptLocal
  split
  case h_1 o _ =>
    refine control_sqBounded s hs tag _ ?_
    split
    · exact sqBounded_of_supply hs (by simp)
    · split
      · exact sqBounded_of_supply hs (by simp)
      · split
        · exact controlWrite_sqBounded s hs tag o _
        · exact sqBounded_of_supply hs (by simp)
  case h_2 =>
    unfold State.acceptPool
    split
    · exact sqBounded_of_supply hs (by simp)
    · split
      · exact settle_sqBounded_of_supply hs (joinLrq_supply s _) s .all
      · exact sqBounded_of_supply hs (by simp)
  all_goals exact sqBounded_of_supply hs (by simp)

/-! ### The commands (Machine/Dispatch.lean) -/

variable {s}

theorem execContention_sqBounded {peers : List Contender} {own : Declared} (hs : s.sqBounded = true)
    (h : execContention peers own s = .next t) : t.sqBounded = true := by
  unfold execContention at h
  split at h
  · cases h; exact hs
  · split at h
    · cases h; exact contend_sqBounded s.begin hs peers own
    · cases h

theorem execRequestArrival_sqBounded {bytes : List Byte} (hs : s.sqBounded = true)
    (h : execRequestArrival bytes s = .next t) : t.sqBounded = true := by
  unfold execRequestArrival at h
  split at h
  · cases h; exact hs
  · split at h
    case h_1 => cases h; exact sqBounded_of_released hs (Nat.le_add_right _ _) rfl
    case h_2 hidle => cases h; exact settle_sqBounded _ (peerArrival_sqBounded s.begin hs hidle _) _ _
    all_goals cases h

theorem execDataMessageArrival_sqBounded {bytes : List Byte} (hs : s.sqBounded = true)
    (h : execDataMessageArrival bytes s = .next t) : t.sqBounded = true := by
  unfold execDataMessageArrival at h
  split at h
  · cases h; exact hs
  · split at h
    case h_1 => cases h; exact openAck_sqBounded hs (begin_supply s) _ _ _ _
    case h_2 => cases h; exact peerData_sqBounded s.begin hs _
    all_goals cases h

theorem execAcknowledgementWindowClose_sqBounded {dest home : BitVec 3} (hs : s.sqBounded = true)
    (h : execAcknowledgementWindowClose dest home s = .next t) : t.sqBounded = true := by
  unfold execAcknowledgementWindowClose at h
  split at h
  case h_1 => cases h; exact hs
  case h_2 => cases h; exact closeAck_sqBounded s.begin hs _ _ _
  all_goals cases h

theorem sqBounded_of_next {u : State} (hnext : (Host.Outcome.next u : Host.Outcome State Fault Refusal) = .next t)
    (hu : u.sqBounded = true) : t.sqBounded = true := by
  cases hnext; exact hu

/-- Each command keeps the bound. -/
theorem exec_keeps_sqBounded {c : Instr} (hs : s.sqBounded = true) (h : exec c s = .next t) : t.sqBounded = true := by
  cases c with
  | poolReset | powerOn | stationReset => cases h; rfl
  | localRequestAcceptance => exact sqBounded_of_next h (acceptLocal_sqBounded s.begin hs _ _ _ _ _)
  | quiesce tag => exact sqBounded_of_next h (control_sqBounded s.begin hs tag _ (doQuiesce_sqBounded s.begin hs tag))
  | registerWrite tag o v =>
    exact sqBounded_of_next h (control_sqBounded s.begin hs tag _ (controlWrite_sqBounded s.begin hs tag o v))
  | join tag | resume tag | clearLog tag | faultLogPop tag | stationStatusRead tag | eventEnableWrite tag =>
    exact sqBounded_of_next h (control_sqBounded s.begin hs tag _ (sqBounded_of_supply hs (by simp)))
  | contention => exact execContention_sqBounded hs h
  | requestArrival => exact execRequestArrival_sqBounded hs h
  | answerWindowClose | announceClose | readyClose => exact closeAnswer_sqBounded (s := s.begin) hs h
  | dataMessageArrival => exact execDataMessageArrival_sqBounded hs h
  | acknowledgementWindowClose => exact execAcknowledgementWindowClose_sqBounded hs h
  | conversionToReturn =>
    obtain ⟨hlen, hmed⟩ := convertOne_sq s.begin
    exact sqBounded_of_next h (settle_sqBounded _ (sqBounded_of_le (s := s.begin) hs hlen hmed) _ _)
  | sqPlaceGiven => exact sqBounded_of_next h (settle_sqBounded _ (giveOne_sqBounded s.begin hs) _ _)
  | enrolmentTimerExpiry | quiescedEntry => exact sqBounded_of_next h (sqBounded_of_supply hs (by simp))
  | memoryCompletion | dataTimerExpiry | awaitingDataTimerExpiry | pinTimerExpiry | headJudgedAgain | victimRecall | quiesceWalk =>
    exact sqBounded_of_next h (settle_sqBounded_of_supply hs (by simp) _ _)

/-- Settles O5: a step runs the front command on the queue's rest, which the bound does not read. -/
theorem stepKeepsSqBounded : Obligations.StepKeepsSqBounded := by
  intro s t hs h
  unfold step at h
  split at h
  case h_1 => cases h; exact hs
  case h_2 c rest _ => exact exec_keeps_sqBounded (s := { s with pending := rest }) hs h

end Sys2Proof.Machine
end

section
/-!
PROOF. O40 and O52: the strongest of the codes driven (R44) and of the blocks' judgements (R42). O30 and O31: the winner of a contention
(R39), what a station contends for by its state, and what the winner sends (R40, R52, R66, R123, R144, R149).
-/

namespace Sys2Proof

theorem mem_toList_iff_look {α : Type} {n : Nat} (t : Table α n) (x : α) : x ∈ t.toList ↔ ∃ i : BitVec n, look t i = x := by
  rw [Vector.mem_toList_iff, Vector.mem_iff_getElem]
  constructor
  · rintro ⟨i, hi, hx⟩
    exact ⟨BitVec.ofNatLT i hi, by simpa [look] using hx⟩
  · rintro ⟨i, hx⟩
    exact ⟨i.toNat, i.isLt, hx⟩

theorem look_mem_toList {α : Type} {n : Nat} (t : Table α n) (i : BitVec n) : look t i ∈ t.toList :=
  (mem_toList_iff_look t _).mpr ⟨i, rfl⟩

end Sys2Proof

namespace Sys2Proof.Machine

/-! ### The combined answer (R44, R169) -/

theorem maxValue_left (a b : BitVec 3) : a.toNat ≤ (maxValue a b).toNat := by
  unfold maxValue; split <;> omega

theorem maxValue_right (a b : BitVec 3) : b.toNat ≤ (maxValue a b).toNat := by
  unfold maxValue; split <;> omega

theorem maxValue_eq_or (a b : BitVec 3) : maxValue a b = a ∨ maxValue a b = b := by
  unfold maxValue; split <;> simp

/-- The greatest of the values read so far and those of a list: none is greater, and it is one of them. -/
theorem foldl_maxValue (vs : List (BitVec 3)) (a : BitVec 3) :
    a.toNat ≤ (vs.foldl maxValue a).toNat ∧ (∀ v ∈ vs, v.toNat ≤ (vs.foldl maxValue a).toNat) ∧
      (vs.foldl maxValue a = a ∨ vs.foldl maxValue a ∈ vs) := by
  induction vs generalizing a with
  | nil => simp
  | cons v vs ih =>
    obtain ⟨hstart, hmem, hone⟩ := ih (maxValue a v)
    refine ⟨(maxValue_left a v).trans hstart, ?_, ?_⟩
    · intro x hx
      rcases List.mem_cons.mp hx with rfl | hx
      · exact (maxValue_right a x).trans hstart
      · exact hmem x hx
    · rw [List.foldl_cons]
      rcases hone with h | h
      · rw [h]
        exact (maxValue_eq_or a v).imp_right fun h => by simp [h]
      · exact .inr (List.mem_cons_of_mem v h)

/-- R44, R169: the code of the greatest value read. -/
theorem ofValue_eq (m : BitVec 3) :
    AnswerCode.ofValue m =
      if m.toNat ≤ 1 then .clear else if m = 2 then .shared else if m = 3 then .supply else if m = 4 then .follow
      else if m = 5 then .again else .void := by
  revert m; decide

/-- The value of a position in which this station drives a code, or nothing. -/
def ownValue (own : Option AnswerCode) : BitVec 3 := match own with | some c => c.value | none => 0

theorem combine_eq (driven : Table (BitVec 3) 4) (own : Option AnswerCode) :
    combine driven own = AnswerCode.ofValue (maxValue (driven.toList.foldl maxValue 0) (ownValue own)) := rfl

/-- Settles O40: the greatest value of all positions, and its code. -/
theorem combinedAnswerIsStrongest : Obligations.CombinedAnswerIsStrongest := by
  intro driven own
  obtain ⟨_, hmem, hone⟩ := foldl_maxValue driven.toList 0
  refine ⟨maxValue (driven.toList.foldl maxValue 0) (ownValue own), fun i => ?_, ?_, ?_, ?_⟩
  · exact (hmem _ (look_mem_toList driven i)).trans (maxValue_left _ _)
  · rintro c rfl
    exact maxValue_right _ _
  · rcases maxValue_eq_or (driven.toList.foldl maxValue 0) (ownValue own) with h | h
    · rw [h]
      exact hone.imp_right fun h => .inl ((mem_toList_iff_look driven _).mp h)
    · rw [h]
      cases own with
      | none => exact .inl rfl
      | some c => exact .inr (.inr ⟨c, rfl, rfl⟩)
  · rw [combine_eq, ofValue_eq]

/-! ### The station's answer (R42) -/

/-- A code that is one of a list's and that none of them is stronger than. -/
def AnswerCode.IsStrongestOf (c : AnswerCode) (codes : List AnswerCode) : Prop :=
  c ∈ codes ∧ ∀ x ∈ codes, x.value.toNat ≤ c.value.toNat

theorem isStrongestOf_single (c : AnswerCode) : c.IsStrongestOf [c] := by simp [AnswerCode.IsStrongestOf]

/-- One more code. -/
theorem AnswerCode.IsStrongestOf.snoc {c : AnswerCode} {codes : List AnswerCode} (h : c.IsStrongestOf codes) (d : AnswerCode) :
    (c.strongest d).IsStrongestOf (codes ++ [d]) := by
  obtain ⟨hmem, hmax⟩ := h
  unfold AnswerCode.strongest
  split
  case isTrue hle =>
    refine ⟨by simp, fun x hx => ?_⟩
    rcases List.mem_append.mp hx with hx | hx
    · exact (hmax x hx).trans hle
    · rw [List.mem_singleton.mp hx]
  case isFalse hlt =>
    refine ⟨by simp [hmem], fun x hx => ?_⟩
    rcases List.mem_append.mp hx with hx | hx
    · exact hmax x hx
    · rw [List.mem_singleton.mp hx]
      omega

variable (s : State) (l : LineNo)

/-- R42, for a Fetch, Claim, Promote or Recall: the six blocks. -/
theorem judgeLine_isStrongest (r : Request) (k : LineKind) :
    (s.judgeLine r k l).1.IsStrongestOf
      [(s.cacheJudge k l).1, (s.returnJudge k l (s.cacheJudge k l).2.2.toNat).1, (s.engineJudge k l).1, (s.homeRole r l).1,
        s.pinJudge l, s.transitJudge l] :=
  (((((isStrongestOf_single _).snoc _).snoc _).snoc _).snoc _).snoc _

/-- R42, for a Return, Direct Read or Direct Write: the Request Engine, the home and the Supply Queue. -/
theorem judgeOther_isStrongest (r : Request) :
    (s.judgeOther r l).1.IsStrongestOf [s.finishingJudge l, (s.homeRole r l).1, s.transitJudge l] :=
  ((isStrongestOf_single _).snoc _).snoc _

/-- A request of the Operational phase that is no Fetch, Claim, Promote or Recall is judged by the three blocks. -/
theorem judgeRequest_other {r : Request} (hl : r.line? = some l) (hr : ∀ k t g, r ≠ .line k t g l) :
    s.judgeRequest r = s.judgeOther r l := by
  cases r with
  | line k t g l' => cases hl; exact absurd rfl (hr k t g)
  | giveBack | directRead | directWrite => cases hl; rfl
  | announce | ready => cases hl

/-- R125: the Return Unit's judgement of a line with an RQ entry. -/
theorem returnJudge_entry (k : LineKind) (taken : Nat) (h : s.findRq l ≠ none) :
    s.returnJudge k l taken =
      if k = .promote then (.again, false)
      else if s.bus.sq.length + s.sqHeld + taken < 8 then (.supply, true) else (.again, false) := by
  obtain ⟨q, hq⟩ := Option.ne_none_iff_exists'.mp h
  cases k <;> simp only [State.returnJudge, hq] <;> rfl

theorem pinned_iff : s.pinned l = true ↔ ∃ p, s.findPin l = some p ∧ (p.held = true ∨ p.path = .home) := by
  unfold State.pinned
  cases s.findPin l <;> simp

theorem inTransit_iff : s.inTransit l = true ↔ ∃ e ∈ s.bus.sq, e.onlyFresh = true ∧ e.msg.line = l := by
  simp [State.inTransit]

/-- Settles O52: the strongest of the blocks' codes, their records, and the judgement of each block. -/
theorem stationAnswerIsStrongestJudgement : Obligations.StationAnswerIsStrongestJudgement := by
  intro s l
  refine ⟨?line, ?other, ?ret, ?pin, ?transit, ⟨?noEntry, ?entry⟩, fun r => rfl⟩
  case line =>
    rintro k t g codes rfl
    obtain ⟨hmem, hmax⟩ := judgeLine_isStrongest s l (.line k t g l) k
    exact ⟨hmem, hmax, rfl⟩
  case other =>
    rintro r codes hl hr rfl
    rw [judgeRequest_other s l hl hr]
    obtain ⟨hmem, hmax⟩ := judgeOther_isStrongest s l r
    exact ⟨hmem, hmax, rfl⟩
  case ret =>
    intro k taken
    refine ⟨fun h => by simp [State.returnJudge, h], fun h hk => ?_, fun h hk hroom => ?_, fun h hk hfull => ?_⟩
    · rw [returnJudge_entry s l k taken h, if_pos hk]
    · rw [returnJudge_entry s l k taken h, if_neg hk, if_pos hroom]
    · rw [returnJudge_entry s l k taken h, if_neg hk, if_neg (by omega)]
  case pin => simp only [State.pinJudge, pinned_iff]
  case transit => simp only [State.transitJudge, inTransit_iff]
  case noEntry =>
    intro h
    exact ⟨by simp [State.finishingJudge, h], fun k => by simp [State.engineJudge, h]⟩
  case entry =>
    intro t e ht he
    exact ⟨by simp [State.finishingJudge, ht, he], fun k => by simp [State.engineJudge, ht, he]⟩

/-! ### The winner of a contention (R39) -/

variable {s l}

/-- Among contenders there is a first after the last winner, one of them, and none is nearer. -/
theorem firstAfter_spec (last : StationNo) (cs : List Contender) :
    (cs ≠ [] → (firstAfter last cs).isSome = true) ∧
      ∀ w, firstAfter last cs = some w → w ∈ cs ∧ ∀ c ∈ cs, distance last w.number ≤ distance last c.number := by
  induction cs with
  | nil => simp [firstAfter]
  | cons c cs ih =>
    obtain ⟨hsome, hbest⟩ := ih
    unfold firstAfter
    cases hfirst : firstAfter last cs with
    | none =>
      obtain rfl : cs = [] := by
        by_contra hne
        simpa [hfirst] using hsome hne
      simp
    | some b =>
      obtain ⟨hmem, hmin⟩ := hbest b hfirst
      dsimp only
      split
      case isTrue hlt =>
        refine ⟨fun _ => rfl, fun w hw => ?_⟩
        cases hw
        refine ⟨List.mem_cons_of_mem c hmem, fun x hx => ?_⟩
        rcases List.mem_cons.mp hx with rfl | hx
        · exact hlt.le
        · exact hmin x hx
      case isFalse hge =>
        refine ⟨fun _ => rfl, fun w hw => ?_⟩
        cases hw
        refine ⟨List.mem_cons_self, fun x hx => ?_⟩
        rcases List.mem_cons.mp hx with rfl | hx
        · exact le_rfl
        · exact (not_lt.mp hge).trans (hmin x hx)

theorem any_data_iff (cs : List Contender) : (cs.any fun c => c.cls == .data) = true ↔ ∃ c ∈ cs, c.cls = .data := by
  simp

/-- R39: there is a winner, one of those that take part, and none of these comes before it. -/
theorem winner_spec (last : StationNo) (cs : List Contender) :
    (cs ≠ [] → (winner last cs).isSome = true) ∧
      ∀ w, winner last cs = some w →
        w ∈ cs ∧ ((∃ c ∈ cs, c.cls = .data) → w.cls = .data) ∧
          ∀ c ∈ cs, ((∃ c ∈ cs, c.cls = .data) → c.cls = .data) → distance last w.number ≤ distance last c.number := by
  unfold winner
  split
  case isTrue hany =>
    obtain ⟨d, hd, hdata⟩ := (any_data_iff cs).mp hany
    obtain ⟨hsome, hbest⟩ := firstAfter_spec last (cs.filter fun c => c.cls == .data)
    refine ⟨fun _ => hsome (List.ne_nil_of_mem (List.mem_filter.mpr ⟨hd, by simp [hdata]⟩)), fun w hw => ?_⟩
    obtain ⟨hmem, hmin⟩ := hbest w hw
    obtain ⟨hmem, hcls⟩ := List.mem_filter.mp hmem
    exact ⟨hmem, fun _ => by simpa using hcls,
      fun c hc hpart => hmin c (List.mem_filter.mpr ⟨hc, by simp [hpart ⟨d, hd, hdata⟩]⟩)⟩
  case isFalse hany =>
    have hno : ¬ ∃ c ∈ cs, c.cls = .data := fun h => hany ((any_data_iff cs).mpr h)
    obtain ⟨hsome, hbest⟩ := firstAfter_spec last cs
    refine ⟨hsome, fun w hw => ?_⟩
    obtain ⟨hmem, hmin⟩ := hbest w hw
    exact ⟨hmem, fun h => absurd h hno, fun c hc _ => hmin c hc⟩

/-! ### A contention at this station (R39, R40, R52) -/

variable {peers : List Contender} {own : Declared}

theorem exec_contention (hmode : s.ctl.mode ≠ .parked) (hidle : s.bus.medium = .idle) :
    exec (.contention peers own) s = .next (s.begin.contend peers own) := by
  show execContention peers own s = _
  simp [execContention, hmode, hidle]

/-- R40: a station that does not win keeps everything but its last-winner number. -/
theorem contend_lost {w : Contender}
    (hw : winner s.bus.lastWinner ((s.declares own).toList.map (fun c => { number := s.number, cls := c }) ++ peers) = some w)
    (hne : w.number ≠ s.number) : s.contend peers own = { s with bus.lastWinner := w.number } := by
  have hlost : ∀ p : Prop, [Decidable p] → ¬(w.number = ({ s with bus.lastWinner := w.number } : State).number ∧ p) :=
    fun _ _ h => hne h.1
  unfold State.contend
  cases hd : s.declares own <;> rw [hd] at hw <;> simp only [Option.toList, List.map_cons, List.map_nil] at hw <;>
    simp only [hw, if_neg (hlost _)]

/-- R40: the winner sends what it has won for. -/
theorem contend_won {c : ContenderClass} (hown : s.declares own = some c)
    (hw : winner s.bus.lastWinner ({ number := s.number, cls := c } :: peers) = some { number := s.number, cls := c }) :
    s.contend peers own = ({ s with bus.lastWinner := s.number } : State).send c := by
  unfold State.contend
  simp only [hown, List.cons_append, List.nil_append, hw]
  exact if_pos ⟨rfl, trivial⟩

/-- The head of the sending order is the first entry whose conversion does not wait (R52). -/
theorem sqHead_cons {e : SqEntry} {rest : List SqEntry} (hsq : s.bus.sq = e :: rest) (he : e.converting = false) :
    s.sqHead = some e := by simp [State.sqHead, hsq, he]

theorem changeSqHead_cons {e : SqEntry} {rest : List SqEntry} (hsq : s.bus.sq = e :: rest) (he : e.converting = false)
    (f : SqEntry → SqEntry) : s.changeSqHead f = { s with bus.sq := f e :: rest } := by
  simp [State.changeSqHead, hsq, State.changeSqHead.go, he]

theorem contends_data (hmode : s.ctl.mode.member = true) (hsq : s.sqHead.isSome = true) : s.contends = some .data := by
  simp [State.contends, hmode, hsq]

/-- Settles O30: the winner, the loser's part, and the data message of the winner. -/
theorem contentionOutcomes : Obligations.ContentionOutcomes := by
  refine ⟨winner_spec, fun s peers own => ⟨fun hparked => ?_, fun w hmode hidle hw hne => ?_⟩, ?_⟩
  · show execContention peers own s = _
    simp [execContention, hparked, State.begin, noOutput]
  · have hw' : winner s.bus.lastWinner
        ((s.declares own).toList.map (fun c => { number := s.number, cls := c }) ++ peers) = some w := by
      cases hd : s.declares own <;> simpa [hd] using hw
    rw [exec_contention hmode hidle, contend_lost (s := s.begin) hw' hne]
    rfl
  · intro s peers e rest hmode hidle hsq he hw
    have hparked : s.ctl.mode ≠ .parked := by
      intro h
      simp [h, Mode.member] at hmode
    have hhead := sqHead_cons (s := s.begin) hsq he
    have hown : s.begin.declares .current = some .data := contends_data (s := s.begin) hmode (by simp [hhead])
    rw [exec_contention hparked hidle, contend_won (s := s.begin) hown hw]
    let s' : State := { s.begin with bus.lastWinner := s.number }
    have hhead' : s'.sqHead = some e := hhead
    have hmode' : s'.ctl.mode.member = true := hmode
    show Host.Outcome.next (s'.send .data) = _
    simp only [State.send, hmode', if_true, State.sendData, hhead', changeSqHead_cons (s := s') hsq he]
    rfl

/-! ### What a request contender sends (R66, R123, R144, R149) -/

/-- R66: a flag for each byte from the offset for the length. -/
theorem getLsbD_byteMask (off len j : Nat) (_ : 1 ≤ len) (hfit : off + len ≤ 64) (hj : j < 64) :
    (byteMask off len).getLsbD j = (decide (off ≤ j) && decide (j < off + len)) := by
  simp only [byteMask, BitVec.getLsbD_shiftLeft, BitVec.getLsbD_ushiftRight, BitVec.getLsbD_allOnes, hj, decide_true,
    Bool.true_and]
  by_cases h : off ≤ j
  · have h1 : ¬ j < off := by omega
    have h2 : (64 - len + (j - off) < 64) ↔ (j < off + len) := by omega
    simp [h, h1, h2]
  · have h1 : j < off := by omega
    simp [h, h1]

theorem itemMessage_prt {t : ReqTag} {e : PrtEntry} (h : s.entry t = some e) :
    s.itemMessage (.prt t) = e.message t (look s.engine.prt t).gen := by simp [State.itemMessage, h]

/-- The number of a station is in a set that it is added to. -/
theorem has_add (v : StationSet) (n m : StationNo) : (v.add n).has m = (v.has m || m == n) := by
  have hm : m.toNat < 16 := m.isLt
  simp only [StationSet.has, StationSet.add, BitVec.getLsbD_or]
  rw [← BitVec.twoPow_eq, BitVec.getLsbD_twoPow]
  have hn : n.toNat < 16 := n.isLt
  simp [hn, BitVec.toNat_inj, eq_comm, Bool.beq_eq_decide_eq]

/-- R146: the valid set gathers the numbers announced. -/
theorem foldl_has (p : StationNo → Bool) (ns : List StationNo) (v : StationSet) (m : StationNo) :
    (ns.foldl (fun v n => if p n then StationSet.add v n else v) v).has m = (v.has m || (p m && ns.contains m)) := by
  induction ns generalizing v with
  | nil => simp
  | cons n ns ih =>
    rw [List.foldl_cons, ih, List.contains_cons]
    by_cases hmn : m = n
    · subst hmn
      cases hp : p m <;> simp [has_add]
    · have hne : (m == n) = false := by simp [hmn]
      cases p n <;> simp [has_add, hne]

theorem mem_allStations : ∀ n : StationNo, n ∈ allStations := by decide

theorem validSet_has (r : Roll) (n : StationNo) : r.validSet.has n = (look r.announced n).isSome := by
  unfold Roll.validSet
  have hzero : StationSet.has 0 n = false := by simp [StationSet.has]
  rw [foldl_has (fun n => (look r.announced n).isSome), hzero]
  simp [mem_allStations]

/-- R144: the claims of the valid slots, with the access and kind that their bits spell. -/
theorem startRecord_claims (r : StartRecord) :
    r.claims = (r.slots.toList.filter (·.valid)).map fun (c : ClaimSlot) =>
      { segment := c.segment
        access := if c.access = 0 then .none else if c.access = 1 then .readOnly else if c.access = 2 then .writeOnly
          else .readWrite
        kind := if c.kind.getLsbD 0 then .direct else .cached } := rfl

/-- R39: what a station contends for by its state. -/
theorem contends_outside (h : s.ctl.mode = .dormant ∨ s.ctl.mode = .isolated ∨ s.ctl.mode = .parked) : s.contends = none := by
  rcases h with h | h | h <;> simp [State.contends, h, Mode.member]

theorem contends_enrolling (h : s.ctl.mode = .enrolling) :
    s.contends = if s.bus.sendList = [] then none else some .request := by
  simp [State.contends, h, Mode.member]

theorem member_of_pool (h : s.ctl.mode = .operational ∨ s.ctl.mode = .quiescing ∨ s.ctl.mode = .quiesced) :
    s.ctl.mode.member = true := by
  rcases h with h | h | h <;> rw [h] <;> rfl

theorem contends_no_data (hmode : s.ctl.mode.member = true) (hsq : ∀ e ∈ s.bus.sq, e.converting = true) :
    s.contends = if s.bus.sendList = [] then none else some .request := by
  have hhead : s.sqHead = none := by simpa [State.sqHead] using hsq
  simp [State.contends, hmode, hhead]

/-- A station that contends with a request may send one. -/
theorem may_send_request (h : s.contends = some .request) : (s.ctl.mode.member || s.ctl.mode == .enrolling) = true := by
  by_contra hno
  simp only [Bool.or_eq_true, beq_iff_eq, not_or] at hno
  simp [State.contends, hno] at h

theorem sendRequest_cons {i : SendItem} {rest : List SendItem} {r : Request} (hlist : s.bus.sendList = i :: rest)
    (hr : s.itemMessage i = some r) :
    s.sendRequest =
      { s with bus.sendList := rest, bus.medium := .sent (.request i r), out.sent := some (encodeRequest s.number r) } := by
  simp only [State.sendRequest, hlist, hr]

/-- Settles O31: the request that the winner sends, what the items describe, and what a station contends for. -/
theorem requestContenderSendsHead : Obligations.RequestContenderSendsHead := by
  refine ⟨?send, ?prt, fun s => ⟨fun l q hq => by simp [State.itemMessage, hq], ?announce, ?ready⟩,
    fun s => ⟨rfl, contends_outside, contends_enrolling, fun hpool => ⟨?data, contends_no_data (member_of_pool hpool)⟩⟩⟩
  case send =>
    intro s peers i rest r hmode hidle hcontends hlist hr hw
    rw [exec_contention hmode hidle, contend_won (s := s.begin) (own := .current) hcontends hw]
    let s' : State := { s.begin with bus.lastWinner := s.number }
    have hmay : (s'.ctl.mode.member || s'.ctl.mode == .enrolling) = true := may_send_request (s := s) hcontends
    show Host.Outcome.next (s'.send .request) = _
    simp only [State.send, hmay, if_true]
    rw [sendRequest_cons (s := s') hlist hr]
    rfl
  case prt =>
    intro s t e he
    rw [itemMessage_prt he]
    refine ⟨fun k hk => ?_, fun i rest hkind hw hlo hhi => ?_, fun i rest hkind hw hlo hfit => ?_⟩
    · rcases hk with ⟨hkind, rfl⟩ | ⟨hkind, rfl⟩ | ⟨hkind, rfl⟩ | ⟨hkind, rfl⟩ <;> simp [PrtEntry.message, hkind]
    · refine ⟨BitVec.ofNat 6 (i.len - 1), ?_, by simp [PrtEntry.message, hkind, hw]⟩
      rw [BitVec.toNat_ofNat]
      omega
    · exact ⟨byteMask i.offset.toNat i.len, fun j hj => getLsbD_byteMask _ _ j hlo hfit hj,
        by simp [PrtEntry.message, hkind, hw]⟩
  case announce =>
    intro hlo hhi
    refine ⟨(s.ctl.start.expected - 1).setWidth 4, ?_, ?_⟩
    · rw [BitVec.toNat_setWidth, BitVec.toNat_sub]
      have hone : (1 : BitVec 5).toNat = 1 := rfl
      omega
    · show some (Request.announce _ s.ctl.start.claims) = _
      rw [startRecord_claims]
  case ready => exact ⟨s.ctl.roll.validSet, validSet_has s.ctl.roll, rfl⟩
  case data =>
    rintro ⟨e, he, hconv⟩
    refine contends_data (member_of_pool hpool) ?_
    rw [State.sqHead, List.find?_isSome]
    exact ⟨e, he, by simp [hconv]⟩

end Sys2Proof.Machine
end

section
/-!
PROOF. O33 and O34. A run of bytes is found sound exactly where it is, byte for byte, a message within its ranges (R38, R41, R47, R168):
each field's bytes spell the field and nothing else does, and so for each body, for the frame, and for the message.
-/

namespace Sys2Proof.Machine

/-! ### The frame (R168) -/

/-- A run of bytes passes the check exactly where it ends with the check of the rest. -/
theorem checkFrame_iff (bs m : List Byte) :
    checkFrame bs = some m ↔ bs = m ++ [(crc16 m).extractLsb' 8 8, (crc16 m).extractLsb' 0 8] := by
  refine ⟨fun h => ?_, fun h => h ▸ checkFrame_framed m⟩
  unfold checkFrame at h
  dsimp only at h
  split at h
  case h_1 hi lo hdrop =>
    split at h
    case isTrue hcrc =>
      obtain rfl := Option.some.inj h
      have hsplit := (List.take_append_drop (bs.length - 2) bs).symm
      rw [hdrop] at hsplit
      have hhi : (hi ++ lo : BitVec 16).extractLsb' 8 8 = hi := by
        apply BitVec.eq_of_toNat_eq
        have hlo : lo.toNat < 2 ^ 8 := lo.isLt
        rw [BitVec.extractLsb'_toNat, BitVec.toNat_append, ← Nat.shiftLeft_add_eq_or_of_lt hlo]
        omega
      have hlo : (hi ++ lo : BitVec 16).extractLsb' 0 8 = lo := by
        apply BitVec.eq_of_toNat_eq
        have hlo : lo.toNat < 2 ^ 8 := lo.isLt
        rw [BitVec.extractLsb'_toNat, BitVec.toNat_append, ← Nat.shiftLeft_add_eq_or_of_lt hlo]
        omega
      rw [← hcrc, hhi, hlo]
      exact hsplit
    case isFalse => cases h
  case h_2 => cases h

/-- The header of a frame: the phase marker, zeros above it and the sender below, and nothing else (R41, R47). -/
theorem headerOk_iff (h : Byte) (enrolment : Bool) :
    headerOk h enrolment = true ↔ h = (0#3 ++ BitVec.ofBool enrolment ++ h.extractLsb' 0 4 : BitVec 8) := by
  refine ⟨fun hok => ?_, fun hspelt => hspelt ▸ header_ok enrolment _⟩
  revert h
  cases enrolment <;> decide +kernel

/-! ### The fields -/

theorem toNat_append_byte {n : Nat} (x : BitVec n) (y : Byte) : (x ++ y).toNat = x.toNat * 256 + y.toNat := by
  have hy : y.toNat < 2 ^ 8 := y.isLt
  rw [BitVec.toNat_append, ← Nat.shiftLeft_add_eq_or_of_lt hy, Nat.shiftLeft_eq]

/-- A line number's four bytes are found to spell it. -/
theorem lineOf_bytes (l : LineNo) :
    lineOf (l.extractLsb' 24 8) (l.extractLsb' 16 8) (l.extractLsb' 8 8) (l.extractLsb' 0 8) = some l := by
  have hl : l.toNat < 2 ^ 28 := l.isLt
  have hzero : (l.extractLsb' 24 8).extractLsb' 4 4 = 0 := by
    have h0 : (0 : BitVec 4).toNat = 0 := rfl
    apply BitVec.eq_of_toNat_eq
    simp only [BitVec.extractLsb'_toNat]
    omega
  unfold lineOf
  rw [if_pos hzero, Option.some_inj]
  apply BitVec.eq_of_toNat_eq
  simp only [BitVec.toNat_setWidth, toNat_append_byte, BitVec.extractLsb'_toNat]
  omega

/-- Four bytes spell a line number exactly where they are its bytes (11 section 11.1). -/
theorem lineOf_iff (a b c d : Byte) (l : LineNo) : lineOf a b c d = some l ↔ [a, b, c, d] = lineBytes l := by
  constructor
  · intro h
    unfold lineOf at h
    split at h
    case isTrue hzero =>
      obtain rfl := Option.some.inj h
      have h0 : (0 : BitVec 4).toNat = 0 := rfl
      have ha := congrArg BitVec.toNat hzero
      have ha' : a.toNat < 2 ^ 8 := a.isLt
      have hb : b.toNat < 2 ^ 8 := b.isLt
      have hc : c.toNat < 2 ^ 8 := c.isLt
      have hd : d.toNat < 2 ^ 8 := d.isLt
      simp only [BitVec.extractLsb'_toNat] at ha
      simp only [lineBytes, List.cons.injEq, and_true]
      refine ⟨?_, ?_, ?_, ?_⟩ <;> apply BitVec.eq_of_toNat_eq <;>
        simp only [BitVec.toNat_setWidth, toNat_append_byte, BitVec.extractLsb'_toNat] <;> omega
    case isFalse => cases h
  · intro h
    simp only [lineBytes, List.cons.injEq, and_true] at h
    obtain ⟨rfl, rfl, rfl, rfl⟩ := h
    exact lineOf_bytes l

/-- A byte spells a tag and a generation exactly where it is their tag byte. -/
theorem tagOf_iff (x : Byte) (t : ReqTag) (g : Gen) : tagOf x = some (t, g) ↔ x = tagByte t g := by
  have hround : ∀ (t : ReqTag) (g : Gen), tagOf (tagByte t g) = some (t, g) := by decide +kernel
  have hspelt : ∀ x : Byte, x.extractLsb' 5 3 = 0 → x = tagByte (x.extractLsb' 0 3) (x.extractLsb' 3 2) := by decide +kernel
  refine ⟨fun h => ?_, fun h => h ▸ hround t g⟩
  unfold tagOf at h
  split at h
  case isTrue hzero =>
    cases h
    exact hspelt x hzero
  case isFalse => cases h

/-- The 64 bytes of a line are a list of that length. -/
theorem toList_ofBytes {bs : List Byte} (h : bs.length = 64) : (LineData.ofBytes bs).toList = bs := by
  apply List.ext_getElem
  · simp [h]
  · intro i _ hi
    simp [LineData.ofBytes, tab, List.getElem?_eq_getElem hi]

theorem ofBytes_toList (d : LineData) : LineData.ofBytes d.toList = d := by
  apply Vector.toList_inj.mp
  exact toList_ofBytes (by simp)

theorem toList_length (d : LineData) : d.toList.length = 64 := by simp

/-- The eight bytes of a mask, most significant first. -/
def maskBytes (m : BitVec 64) : List Byte :=
  [m.extractLsb' 56 8, m.extractLsb' 48 8, m.extractLsb' 40 8, m.extractLsb' 32 8, m.extractLsb' 24 8, m.extractLsb' 16 8,
    m.extractLsb' 8 8, m.extractLsb' 0 8]

theorem mask_append (m : BitVec 64) :
    (m.extractLsb' 56 8 ++ m.extractLsb' 48 8 ++ m.extractLsb' 40 8 ++ m.extractLsb' 32 8 ++ m.extractLsb' 24 8 ++
      m.extractLsb' 16 8 ++ m.extractLsb' 8 8 ++ m.extractLsb' 0 8 : BitVec 64) = m := by
  apply BitVec.eq_of_toNat_eq
  simp only [toNat_append_byte, BitVec.extractLsb'_toNat]
  omega

theorem maskBytes_append (a b c d e f g h : Byte) :
    maskBytes (a ++ b ++ c ++ d ++ e ++ f ++ g ++ h : BitVec 64) = [a, b, c, d, e, f, g, h] := by
  have := a.isLt; have := b.isLt; have := c.isLt; have := d.isLt
  have := e.isLt; have := f.isLt; have := g.isLt; have := h.isLt
  simp only [maskBytes, List.cons.injEq, and_true]
  refine ⟨?_, ?_, ?_, ?_, ?_, ?_, ?_, ?_⟩ <;> apply BitVec.eq_of_toNat_eq <;>
    simp only [toNat_append_byte, BitVec.extractLsb'_toNat] <;> omega

/-- The claims spelt by a run of byte pairs (R144). -/
theorem parseClaims_iff (bs : List Byte) (cs : List Claim) : parseClaims bs = some cs ↔ bs = cs.flatMap Claim.encode := by
  have hround : ∀ (a : Access) (k : SegKind), (0#5 ++ BitVec.ofBool k.bit ++ a.code : BitVec 8).extractLsb' 3 5 = 0 ∧
      Access.ofCode ((0#5 ++ BitVec.ofBool k.bit ++ a.code : BitVec 8).extractLsb' 0 2) = a ∧
      SegKind.ofBit ((0#5 ++ BitVec.ofBool k.bit ++ a.code : BitVec 8).getLsbD 2) = k := by
    intro a k; cases a <;> cases k <;> decide
  have hspelt : ∀ x : Byte, x.extractLsb' 3 5 = 0 →
      x = 0#5 ++ BitVec.ofBool (SegKind.ofBit (x.getLsbD 2)).bit ++ (Access.ofCode (x.extractLsb' 0 2)).code := by
    decide +kernel
  constructor
  · intro h
    induction bs using parseClaims.induct generalizing cs with
    | case1 => cases h; rfl
    | case2 => cases h
    | case3 s x rest hzero cs' hrest ih =>
      simp only [parseClaims, hzero, if_true, hrest] at h
      cases h
      rw [List.flatMap_cons, ← ih cs' hrest]
      simp only [Claim.encode, List.cons_append, List.nil_append, ← hspelt x hzero]
    | case4 s x rest hzero hrest =>
      simp only [parseClaims, hzero, if_true, hrest] at h
      cases h
    | case5 s x rest hzero =>
      simp only [parseClaims, if_neg hzero] at h
      cases h
  · rintro rfl
    induction cs with
    | nil => rfl
    | cons c cs ih =>
      obtain ⟨hzero, haccess, hkind⟩ := hround c.access c.kind
      simp only [List.flatMap_cons, Claim.encode, List.cons_append, List.nil_append, parseClaims, hzero, if_true, ih, haccess,
        hkind]

theorem length_encode_claims (cs : List Claim) : (cs.flatMap Claim.encode).length = 2 * cs.length := by
  induction cs with
  | nil => rfl
  | cons c cs ih =>
    simp only [List.flatMap_cons, Claim.encode, List.cons_append, List.nil_append, List.length_cons, ih]
    omega

/-! ### The bodies of request messages (R41) -/

theorem parseLine_iff (k : LineKind) (body : List Byte) (r : Request) :
    parseLine k body = some r ↔ ∃ t g l, r = .line k t g l ∧ body = tagByte t g :: lineBytes l := by
  constructor
  · intro h
    unfold parseLine at h
    split at h
    case h_1 x a b c d =>
      split at h
      case h_1 t g l htag hline =>
        cases h
        exact ⟨t, g, l, rfl, by rw [(tagOf_iff x t g).mp htag, ← (lineOf_iff a b c d l).mp hline]⟩
      case h_2 => cases h
    case h_2 => cases h
  · rintro ⟨t, g, l, rfl, rfl⟩
    simp only [parseLine, lineBytes, (tagOf_iff _ t g).mpr rfl, lineOf_bytes]

theorem parseGiveBack_iff (body : List Byte) (r : Request) :
    parseGiveBack body = some r ↔ ∃ l d, r = .giveBack l d ∧ body = lineBytes l ++ d.toList := by
  constructor
  · intro h
    unfold parseGiveBack at h
    split at h
    case h_1 a b c d data =>
      split at h
      case h_1 l hline =>
        split at h
        case isTrue hlen =>
          cases h
          refine ⟨l, .ofBytes data, rfl, ?_⟩
          rw [toList_ofBytes hlen, ← (lineOf_iff a b c d l).mp hline]
          rfl
        case isFalse => cases h
      case h_2 => cases h
    case h_2 => cases h
  · rintro ⟨l, d, rfl, rfl⟩
    simp only [parseGiveBack, lineBytes, List.cons_append, List.nil_append, lineOf_bytes, toList_length, if_true, ofBytes_toList]

theorem parseDirectRead_iff (body : List Byte) (r : Request) :
    parseDirectRead body = some r ↔ ∃ t g l off len, r = .directRead t g l off len ∧ r.wf = true ∧
      body = tagByte t g :: lineBytes l ++ [off.setWidth 8, len.setWidth 8] := by
  have hround : ∀ x : BitVec 6, (x.setWidth 8 : Byte).extractLsb' 6 2 = 0 ∧ (x.setWidth 8 : Byte).setWidth 6 = x := by
    decide +kernel
  have hspelt : ∀ x : Byte, x.extractLsb' 6 2 = 0 → x = (x.setWidth 6).setWidth 8 := by decide +kernel
  constructor
  · intro h
    unfold parseDirectRead at h
    split at h
    case h_1 x a b c d o n =>
      split at h
      case h_1 t g l htag hline =>
        dsimp only at h
        split at h
        case isTrue hok =>
          obtain ⟨ho, hn, hwf⟩ := hok
          cases h
          refine ⟨t, g, l, o.setWidth 6, n.setWidth 6, rfl, hwf, ?_⟩
          rw [← hspelt o ho, ← hspelt n hn, (tagOf_iff x t g).mp htag, ← (lineOf_iff a b c d l).mp hline]
          rfl
        case isFalse => cases h
      case h_2 => cases h
    case h_2 => cases h
  · rintro ⟨t, g, l, off, len, rfl, hwf, rfl⟩
    obtain ⟨ho, hoff⟩ := hround off
    obtain ⟨hn, hlen⟩ := hround len
    simp only [parseDirectRead, lineBytes, List.cons_append, List.nil_append, (tagOf_iff _ t g).mpr rfl, lineOf_bytes, ho, hn,
      hoff, hlen, hwf, and_self, if_true]

theorem parseDirectWrite_iff (body : List Byte) (r : Request) :
    parseDirectWrite body = some r ↔ ∃ t g l mask bytes, r = .directWrite t g l mask bytes ∧ r.wf = true ∧
      body = tagByte t g :: lineBytes l ++ maskBytes mask ++ bytes := by
  constructor
  · intro h
    unfold parseDirectWrite at h
    split at h
    case h_1 x a b c d m7 m6 m5 m4 m3 m2 m1 m0 bytes =>
      split at h
      case h_1 t g l htag hline =>
        dsimp only at h
        split at h
        case isTrue hwf =>
          cases h
          refine ⟨t, g, l, _, bytes, rfl, hwf, ?_⟩
          rw [maskBytes_append, (tagOf_iff x t g).mp htag, ← (lineOf_iff a b c d l).mp hline]
          rfl
        case isFalse => cases h
      case h_2 => cases h
    case h_2 => cases h
  · rintro ⟨t, g, l, mask, bytes, rfl, hwf, rfl⟩
    simp only [parseDirectWrite, lineBytes, maskBytes, List.cons_append, List.nil_append, (tagOf_iff _ t g).mpr rfl, lineOf_bytes,
      mask_append, hwf, if_true]

theorem parseAnnounce_iff (body : List Byte) (r : Request) :
    parseAnnounce body = some r ↔ ∃ e cs, r = .announce e cs ∧ cs.length ≤ 16 ∧
      body = e.setWidth 8 :: BitVec.ofNat 8 cs.length :: cs.flatMap Claim.encode := by
  have hround : ∀ x : BitVec 4, (x.setWidth 8 : Byte).extractLsb' 4 4 = 0 ∧ (x.setWidth 8 : Byte).setWidth 4 = x := by decide
  have hspelt : ∀ x : Byte, x.extractLsb' 4 4 = 0 → x = (x.setWidth 4).setWidth 8 := by decide +kernel
  constructor
  · intro h
    unfold parseAnnounce at h
    split at h
    case h_1 x n rest =>
      split at h
      case isTrue hok =>
        obtain ⟨hx, hn, hlen⟩ := hok
        split at h
        case h_1 cs hcs =>
          cases h
          obtain rfl := (parseClaims_iff rest cs).mp hcs
          have hcount : cs.length = n.toNat := by
            rw [length_encode_claims] at hlen
            omega
          refine ⟨x.setWidth 4, cs, rfl, by omega, ?_⟩
          rw [← hspelt x hx, hcount, BitVec.ofNat_toNat, BitVec.setWidth_eq]
        case h_2 => cases h
      case isFalse => cases h
    case h_2 => cases h
  · rintro ⟨e, cs, rfl, hlen, rfl⟩
    obtain ⟨hzero, he⟩ := hround e
    have hcount : (BitVec.ofNat 8 cs.length).toNat = cs.length := by
      rw [BitVec.toNat_ofNat]
      omega
    simp only [parseAnnounce, hzero, hcount, hlen, length_encode_claims, and_self, if_true, (parseClaims_iff _ cs).mpr rfl, he]

theorem count_le (s : StationSet) : s.count ≤ 16 := by
  unfold StationSet.count
  exact List.countP_le_length.trans (by simp)

theorem parseReady_iff (body : List Byte) (r : Request) :
    parseReady body = some r ↔ ∃ s : StationSet, r = .ready s ∧ s ≠ 0 ∧
      body = [s.extractLsb' 8 8, s.extractLsb' 0 8, BitVec.ofNat 8 s.count] := by
  constructor
  · intro h
    unfold parseReady at h
    split at h
    case h_1 a b n =>
      dsimp only at h
      split at h
      case isTrue hok =>
        obtain ⟨hne, hn⟩ := hok
        cases h
        refine ⟨a ++ b, rfl, hne, ?_⟩
        have ha : (a ++ b : BitVec 16).extractLsb' 8 8 = a := by
          apply BitVec.eq_of_toNat_eq
          have := a.isLt; have := b.isLt
          simp only [toNat_append_byte, BitVec.extractLsb'_toNat]
          omega
        have hb : (a ++ b : BitVec 16).extractLsb' 0 8 = b := by
          apply BitVec.eq_of_toNat_eq
          have := b.isLt
          simp only [toNat_append_byte, BitVec.extractLsb'_toNat]
          omega
        rw [ha, hb, ← hn, BitVec.ofNat_toNat, BitVec.setWidth_eq]
      case isFalse => cases h
    case h_2 => cases h
  · rintro ⟨s, rfl, hne, rfl⟩
    have hcount : (BitVec.ofNat 8 s.count).toNat = s.count := by
      have := count_le s
      rw [BitVec.toNat_ofNat]
      omega
    simp only [parseReady, crc_bytes_join, hcount, hne, ne_eq, not_false_eq_true, and_self, if_true]

/-! ### Request messages (R38, R41, R168) -/

/-- The bytes of a body, with the kind byte before it, spell a request exactly where they are its own and it is within its ranges. -/
theorem parseBody_iff (k : Byte) (body : List Byte) (r : Request) :
    parseBody k body = some r ↔ r.wf = true ∧ k = r.kindByte ∧ body = r.body := by
  constructor
  · intro h
    unfold parseBody at h
    split_ifs at h with h1 h2 h3 h4 h5 h6 h7 h8 h9
    · obtain ⟨t, g, l, rfl, rfl⟩ := (parseLine_iff .fetch body r).mp h
      exact ⟨rfl, h1, rfl⟩
    · obtain ⟨t, g, l, rfl, rfl⟩ := (parseLine_iff .claim body r).mp h
      exact ⟨rfl, h2, rfl⟩
    · obtain ⟨t, g, l, rfl, rfl⟩ := (parseLine_iff .promote body r).mp h
      exact ⟨rfl, h3, rfl⟩
    · obtain ⟨l, d, rfl, rfl⟩ := (parseGiveBack_iff body r).mp h
      exact ⟨rfl, h4, rfl⟩
    · obtain ⟨t, g, l, rfl, rfl⟩ := (parseLine_iff .recall body r).mp h
      exact ⟨rfl, h5, rfl⟩
    · obtain ⟨t, g, l, off, len, rfl, hwf, rfl⟩ := (parseDirectRead_iff body r).mp h
      exact ⟨hwf, h6, rfl⟩
    · obtain ⟨t, g, l, mask, bytes, rfl, hwf, rfl⟩ := (parseDirectWrite_iff body r).mp h
      exact ⟨hwf, h7, rfl⟩
    · obtain ⟨e, cs, rfl, hlen, rfl⟩ := (parseAnnounce_iff body r).mp h
      exact ⟨by simpa [Request.wf] using hlen, h8, rfl⟩
    · obtain ⟨s, rfl, hne, rfl⟩ := (parseReady_iff body r).mp h
      exact ⟨by simpa [Request.wf] using hne, h9, rfl⟩
  · rintro ⟨hwf, rfl, rfl⟩
    cases r with
    | line k t g l => cases k <;> exact (parseLine_iff _ _ _).mpr ⟨t, g, l, rfl, rfl⟩
    | giveBack l d => exact (parseGiveBack_iff _ _).mpr ⟨l, d, rfl, rfl⟩
    | directRead t g l off len => exact (parseDirectRead_iff _ _).mpr ⟨t, g, l, off, len, rfl, hwf, rfl⟩
    | directWrite t g l mask bytes => exact (parseDirectWrite_iff _ _).mpr ⟨t, g, l, mask, bytes, rfl, hwf, rfl⟩
    | announce e cs => exact (parseAnnounce_iff _ _).mpr ⟨e, cs, rfl, by simpa [Request.wf] using hwf, rfl⟩
    | ready s => exact (parseReady_iff _ _).mpr ⟨s, rfl, by simpa [Request.wf] using hwf, rfl⟩

/-- A run of bytes is found to be a request message exactly where it is one, byte for byte, and within its ranges. -/
theorem parseRequest_iff (bs : List Byte) (n : StationNo) (r : Request) :
    parseRequest bs = some (n, r) ↔ r.wf = true ∧ bs = encodeRequest n r := by
  constructor
  · intro h
    unfold parseRequest at h
    split at h
    case h_1 k x body hframe =>
      split at h
      case h_1 r' hbody =>
        split at h
        case isTrue hheader =>
          cases h
          obtain ⟨hwf, rfl, rfl⟩ := (parseBody_iff k body r).mp hbody
          have hx := (headerOk_iff x r.enrolment).mp hheader
          refine ⟨hwf, ?_⟩
          rw [(checkFrame_iff bs _).mp hframe, encodeRequest, encodeFrame, ← hx]
        case isFalse => cases h
      case h_2 => cases h
    case h_2 => cases h
  · rintro ⟨hwf, rfl⟩
    exact parseRequest_framed _ _ n _ r ((parseBody_iff _ _ r).mpr ⟨hwf, rfl, rfl⟩) rfl

/-! ### Data messages (R38, R47, R168) -/

theorem Grant.ofCode_iff (x : BitVec 2) (g : Grant) : Grant.ofCode x = some g ↔ x = g.code := by
  revert x; cases g <;> decide

theorem DataStatus.ofCode_iff (x : BitVec 2) (st : DataStatus) : DataStatus.ofCode x = some st ↔ x = st.code := by
  revert x; cases st <;> decide

/-- The status byte spells its fields, its other bits zero (11 section 11.1). -/
theorem statusByte_fields (m : DataMsg) :
    m.statusByte.extractLsb' 6 2 = 0 ∧ m.statusByte.getLsbD 3 = false ∧ m.statusByte.getLsbD 2 = m.homeTake ∧
      m.statusByte.extractLsb' 0 2 = m.grant.code ∧ m.statusByte.extractLsb' 4 2 = m.status.code := by
  unfold DataMsg.statusByte
  generalize m.status = st
  generalize m.grant = g
  generalize m.homeTake = h
  cases st <;> cases g <;> cases h <;> decide

theorem statusByte_of_fields {m : DataMsg} {x : Byte} (hhigh : x.extractLsb' 6 2 = 0) (hthree : x.getLsbD 3 = false)
    (htake : x.getLsbD 2 = m.homeTake) (hgrant : x.extractLsb' 0 2 = m.grant.code)
    (hstatus : x.extractLsb' 4 2 = m.status.code) : x = m.statusByte := by
  have hspelt : ∀ x : Byte, x.extractLsb' 6 2 = 0 → x.getLsbD 3 = false →
      x = 0#2 ++ x.extractLsb' 4 2 ++ 0#1 ++ BitVec.ofBool (x.getLsbD 2) ++ x.extractLsb' 0 2 := by decide +kernel
  rw [DataMsg.statusByte, ← htake, ← hgrant, ← hstatus]
  exact hspelt x hhigh hthree

/-- The bytes of a message's line: none, or 64. -/
def DataMsg.dataBytes (m : DataMsg) : List Byte := match m.data with | some d => d.toList | none => []

theorem dataMsg_body (m : DataMsg) :
    m.body = m.dest.setWidth 8 :: tagByte m.tag m.gen :: lineBytes m.line ++ m.statusByte :: m.dataBytes := rfl

/-- The line that a run of bytes spells: none where it is empty. -/
theorem dataBytes_iff (bs : List Byte) (m : DataMsg) :
    (bs.length = 0 ∨ bs.length = 64) ∧ m.data = (if bs = [] then none else some (.ofBytes bs)) ↔ bs = m.dataBytes := by
  constructor
  · rintro ⟨hlen, hdata⟩
    unfold DataMsg.dataBytes
    rw [hdata]
    by_cases hbs : bs = []
    · simp [hbs]
    · have hlen' : bs.length = 64 := hlen.resolve_left (by simpa using hbs)
      simp [hbs, toList_ofBytes hlen']
  · rintro rfl
    unfold DataMsg.dataBytes
    cases m.data with
    | none => simp
    | some d =>
      have hne : d.toList ≠ [] := List.ne_nil_of_length_pos (by simp)
      exact ⟨.inr (toList_length d), by simp [hne, ofBytes_toList]⟩

theorem parseDataBody_iff (body : List Byte) (m : DataMsg) :
    parseDataBody body = some m ↔ m.wf = true ∧ body = m.body := by
  have hround : ∀ x : BitVec 4, (x.setWidth 8 : Byte).extractLsb' 4 4 = 0 ∧ (x.setWidth 8 : Byte).extractLsb' 0 4 = x := by
    decide
  have hspelt : ∀ x : Byte, x.extractLsb' 4 4 = 0 → x = (x.extractLsb' 0 4).setWidth 8 := by decide +kernel
  constructor
  · intro h
    unfold parseDataBody at h
    split at h
    case h_1 e t a b c d x data =>
      split at h
      case h_1 tag gen l g st htag hline hgrant hstatus =>
        generalize hspell : (if data = [] then none else some (LineData.ofBytes data)) = held at h
        dsimp only at h
        split at h
        case isTrue hok =>
          obtain ⟨hdest, hhigh, hthree, hlen, hwf⟩ := hok
          obtain rfl := Option.some.inj h
          refine ⟨hwf, ?_⟩
          rw [dataMsg_body, ← hspelt e hdest, ← (tagOf_iff t tag gen).mp htag, ← (lineOf_iff a b c d l).mp hline,
            ← (dataBytes_iff data _).mp ⟨hlen, hspell.symm⟩,
            ← statusByte_of_fields hhigh hthree rfl ((Grant.ofCode_iff _ g).mp hgrant) ((DataStatus.ofCode_iff _ st).mp hstatus)]
          rfl
        case isFalse => cases h
      case h_2 => cases h
    case h_2 => cases h
  · rintro ⟨hwf, rfl⟩
    obtain ⟨hzero, hdest⟩ := hround m.dest
    obtain ⟨hhigh, hthree, htake, hgrant, hstatus⟩ := statusByte_fields m
    obtain ⟨hlen, hdata⟩ := (dataBytes_iff m.dataBytes m).mpr rfl
    simp only [dataMsg_body, lineBytes, List.cons_append, List.nil_append, parseDataBody, (tagOf_iff _ m.tag m.gen).mpr rfl,
      lineOf_bytes, (Grant.ofCode_iff _ m.grant).mpr hgrant, (DataStatus.ofCode_iff _ m.status).mpr hstatus, hzero, hhigh, hthree,
      htake, hdest, ← hdata, hlen, hwf, and_self, if_true]

/-- A run of bytes is found to be a data message exactly where it is one, byte for byte, and keeps its constraints. -/
theorem parseData_iff (bs : List Byte) (n : StationNo) (m : DataMsg) :
    parseData bs = some (n, m) ↔ m.wf = true ∧ bs = encodeData n m := by
  constructor
  · intro h
    unfold parseData at h
    split at h
    case h_1 k x body hframe =>
      split at h
      case isTrue hok =>
        obtain ⟨rfl, hheader⟩ := hok
        split at h
        case h_1 m' hbody =>
          cases h
          obtain ⟨hwf, rfl⟩ := (parseDataBody_iff body m).mp hbody
          have hx := (headerOk_iff x false).mp hheader
          refine ⟨hwf, ?_⟩
          rw [(checkFrame_iff bs _).mp hframe, encodeData, encodeFrame, ← hx]
        case h_2 => cases h
      case isFalse => cases h
    case h_2 => cases h
  · rintro ⟨hwf, rfl⟩
    rw [encodeData, parseData_framed, (parseDataBody_iff _ m).mpr ⟨hwf, rfl⟩]
    rfl

/-! ### What is damaged -/

/-- A check that is not the check of the bytes before it (R168). -/
theorem checkFrame_wrong {bytes : List Byte} {hi lo : Byte} (h : (hi ++ lo : BitVec 16) ≠ crc16 bytes) :
    checkFrame (bytes ++ [hi, lo]) = none := by
  simp [checkFrame, h]

/-- The header of a message has zeros in its bits 7 to 5 (R38). -/
theorem header_zeros {kind header : Byte} {rest body : List Byte} {k : Byte} {enrolment : Bool} {n : StationNo}
    (h : kind :: header :: rest = encodeFrame k enrolment n body) : header.extractLsb' 5 3 = 0 := by
  have hheader : header = (0#3 ++ BitVec.ofBool enrolment ++ n : BitVec 8) := by
    simp only [encodeFrame, List.cons_append, List.cons.injEq] at h
    exact h.2.1
  have hok := header_ok enrolment n
  rw [← hheader, headerOk, Bool.and_eq_true, beq_iff_eq] at hok
  exact hok.1

/-- Settles O33: `parseRequest_iff` says both what is sound and what is damaged. -/
theorem requestMessageSoundOrDamaged : Obligations.RequestMessageSoundOrDamaged := by
  refine ⟨fun n r hwf => (parseRequest_iff _ n r).mpr ⟨hwf, rfl⟩, fun bytes hi lo hcrc => ?_, fun kind header rest hbits => ?_,
    fun bytes n r => (parseRequest_iff bytes n r).mp⟩
  · simp only [parseRequest, checkFrame_wrong hcrc]
  · rw [Option.eq_none_iff_forall_ne_some]
    rintro ⟨n, r⟩ h
    obtain ⟨_, hbytes⟩ := (parseRequest_iff _ n r).mp h
    exact hbits (header_zeros hbytes)

/-- Settles O34: `parseData_iff` says both what is sound and what is damaged. -/
theorem dataMessageSoundOrDamaged : Obligations.DataMessageSoundOrDamaged := by
  refine ⟨fun n m hwf => (parseData_iff _ n m).mpr ⟨hwf, rfl⟩, fun bytes hi lo hcrc => ?_, fun kind header rest hbits => ?_,
    fun bytes n m => (parseData_iff bytes n m).mp⟩
  · simp only [parseData, checkFrame_wrong hcrc]
  · rw [Option.eq_none_iff_forall_ne_some]
    rintro ⟨n, m⟩ h
    obtain ⟨_, hbytes⟩ := (parseData_iff _ n m).mp h
    exact hbits (header_zeros hbytes)

end Sys2Proof.Machine
end

section
/-!
PROOF. What follows in the same event at a station in which no local request waits (log 2): it depends on the state alone, each of its
parts may be done ahead, it does not look at what the command has given out, and where none of its conditions stands it begins a memory
operation at most.
-/

namespace Sys2Proof.Machine

/-! ### No local request waits -/

/-- No request waits at the LRQ head. -/
def State.noRequest (s : State) : Prop := s.lpu.lrq = [] ∧ s.lpu.head = none

theorem portEmpty_iff {s : State} :
    s.portEmpty = true ↔ s.lpu.lrq = [] ∧ s.lpu.head = none ∧ s.lpu.pinRecall = none := by
  simp [State.portEmpty, and_assoc]

theorem noRequest_of_portEmpty {s : State} (h : s.portEmpty = true) : s.noRequest := by
  obtain ⟨hq, hhead, _⟩ := portEmpty_iff.mp h
  exact ⟨hq, hhead⟩

theorem noRequest_of_still {s : State} (h : s.still = true) : s.noRequest := by
  obtain ⟨_, hq, hhead, _⟩ := still_iff.mp h
  exact ⟨hq, hhead⟩

theorem State.noRequest.congr {s x : State} (h : s.noRequest) (hq : x.lpu.lrq = s.lpu.lrq) (hhead : x.lpu.head = s.lpu.head) :
    x.noRequest :=
  ⟨hq.trans h.1, hhead.trans h.2⟩

/-- Victim recalls are made while one is wanted and a PRT entry is free (R117). -/
def State.victims : Nat → State → State
  | 0, s => s
  | n + 1, s => if s.nextVictim.isSome && s.freeTag.isSome then victims n s.victimOne else s

/-- What follows an event where no request waits. -/
def State.followUp (s : State) : State :=
  let s := s.convertAll s.bus.sq.length
  let s := s.givePlaces s.bus.askers.length
  let s := s.startPort
  let s := s.victims (s.home.wanted.length + 2)
  s.runWalk.startPort.enterQuiesced

variable (s : State)

/-! ### The LRQ is not touched -/

@[simp] theorem convertOne_lrq : s.convertOne.lpu.lrq = s.lpu.lrq := by
  unfold State.convertOne State.convert State.emptyCopy
  dsimp only
  (repeat' split) <;> simp
@[simp] theorem convertOne_head : s.convertOne.lpu.head = s.lpu.head := by
  unfold State.convertOne State.convert State.emptyCopy
  dsimp only
  (repeat' split) <;> simp

theorem convertAll_noRequest {s : State} (h : s.noRequest) (n : Nat) : (State.convertAll n s).noRequest := by
  induction n generalizing s with
  | zero => exact h
  | succ n ih =>
    unfold State.convertAll
    split
    · exact ih ⟨(convertOne_lrq s).trans h.1, (convertOne_head s).trans h.2⟩
    · exact h

@[simp] theorem giveTo_lpu (a : Asker) : (s.giveTo a).lpu = s.lpu := by
  cases a with
  | prt t =>
    unfold State.giveTo State.placePrt State.handOff State.placeAbandoned
    dsimp only
    (repeat' split) <;> simp
  | home =>
    unfold State.giveTo State.placeHome
    dsimp only
    (repeat' split) <;> simp [popHwq_eq]

@[simp] theorem giveOne_lpu : s.giveOne.lpu = s.lpu := by
  unfold State.giveOne
  (repeat' split) <;> simp

@[simp] theorem givePlaces_lpu (n : Nat) : (State.givePlaces n s).lpu = s.lpu := by
  induction n generalizing s with
  | zero => rfl
  | succ n ih => unfold State.givePlaces; split <;> simp [ih]

@[simp] theorem startPort_lpu : s.startPort.lpu = s.lpu := by
  unfold State.startPort; split <;> rfl

@[simp] theorem victimOne_lpu : s.victimOne.lpu = s.lpu := by
  unfold State.victimOne
  split
  · unfold State.makeVictim State.makeAtFree
    split <;> rfl
  all_goals rfl

/-! ### What follows depends on the state alone -/

/-- Where no request waits, free PRT entries go to victim recalls alone (R63). -/
theorem allocate_noRequest {s : State} (h : s.noRequest) (n : Nat) (a b : Bool) :
    s.allocate n a b true = State.victims n s := by
  induction n generalizing s with
  | zero => rfl
  | succ n ih =>
    obtain ⟨hq, hhead⟩ := h
    have hneeds : s.headNeedsEntry = false := by simp [State.headNeedsEntry, hhead]
    have hnext : s.victimOne.noRequest := ⟨by rw [victimOne_lpu, hq], by rw [victimOne_lpu, hhead]⟩
    simp only [State.allocate, State.victims, hneeds, Bool.and_false, headOnce_empty s hq, ih hnext, if_true,
      Bool.false_eq_true, if_false]

theorem settle_noRequest {s : State} (h : s.noRequest) (s0 : State) (j : Judged) : s.settle s0 j = s.followUp := by
  have hlpu : ∀ t : State, t.noRequest → ∀ n, ((State.givePlaces n t).startPort).noRequest := fun t ht n =>
    ⟨by simpa using ht.1, by simpa using ht.2⟩
  have hready := hlpu _ (convertAll_noRequest h s.bus.sq.length) (State.convertAll s.bus.sq.length s).bus.askers.length
  unfold State.settle State.followUp State.allocateAfter
  dsimp only
  rw [judgedAgain_undecoded _ hready.2, allocate_noRequest hready, hready.1]
  simp

/-! ### A conversion done ahead (R55) -/

theorem convertOne_of_calm {s : State} (h : ¬(s.bus.sq.any (·.converting) = true ∧ s.rqFree = true)) : s.convertOne = s := by
  unfold State.convertOne
  split
  case h_1 e he =>
    split
    case isTrue hfree => exact absurd ⟨List.any_eq_true.mpr ⟨e, List.mem_of_find?_eq_some he, List.find?_some he⟩, hfree⟩ h
    case isFalse => rfl
  case h_2 => rfl

/-- The conversion takes one entry out of the SQ. -/
theorem convertOne_length {s : State} (h : s.bus.sq.any (·.converting) = true ∧ s.rqFree = true) :
    s.convertOne.bus.sq.length = s.bus.sq.length - 1 := by
  obtain ⟨hany, hfree⟩ := h
  obtain ⟨q, hq, hconv⟩ := List.any_eq_true.mp hany
  cases hfind : s.bus.sq.find? (·.converting) with
  | none => exact absurd hconv (List.find?_eq_none.mp hfind q hq)
  | some e =>
    have hsq : ∀ l : LineNo, ∀ d : LineData, ((s.addRq l d []).emptyCopy l).bus.sq = s.bus.sq := fun l d => by
      unfold State.emptyCopy
      split <;> rfl
    simp only [State.convertOne, hfind, hfree, if_true, State.convert, addFault_bus, hsq]
    exact List.length_eraseP_of_mem hq hconv

theorem convertAll_convertOne {s : State} :
    State.convertAll s.convertOne.bus.sq.length s.convertOne = State.convertAll s.bus.sq.length s := by
  by_cases h : s.bus.sq.any (·.converting) = true ∧ s.rqFree = true
  · obtain ⟨q, hq, _⟩ := List.any_eq_true.mp h.1
    obtain ⟨n, hn⟩ : ∃ n, s.bus.sq.length = n + 1 := Nat.exists_eq_succ_of_ne_zero (List.length_pos_of_mem hq).ne'
    rw [convertOne_length h, hn, State.convertAll, if_pos h]
    rfl
  · rw [convertOne_of_calm h]

theorem followUp_convertOne : s.convertOne.followUp = s.followUp := by
  unfold State.followUp
  rw [convertAll_convertOne]

/-! ### A place given ahead (R51) -/

/-- What an asker is given is one new entry of the SQ, or nothing. -/
theorem giveTo_sq_eq (a : Asker) :
    (s.giveTo a).bus.sq = s.bus.sq ∨ ∃ m f, (s.giveTo a).bus.sq = s.bus.sq ++ [newSqEntry m f] := by
  cases a with
  | prt t =>
    simp only [State.giveTo, State.placePrt]
    split
    · exact .inl rfl
    · split
      · exact .inr ⟨_, _, rfl⟩
      · exact .inl rfl
      case h_3 e _ _ _ _ f _ _ =>
        refine .inr ⟨abandonedMsg e.line f, false, ?_⟩
        unfold State.placeAbandoned
        dsimp only
        split <;> rfl
      all_goals exact .inl rfl
  | home =>
    simp only [State.giveTo, State.placeHome]
    split
    · split
      · rw [popHwq_eq]
        exact .inr ⟨_, _, rfl⟩
      · exact .inl rfl
    all_goals exact .inl rfl

/-- No conversion waits that could be carried out. -/
def State.noConversion (s : State) : Prop := (∀ q ∈ s.bus.sq, q.converting = false) ∨ s.rqFree = false

theorem noConversion_iff {s : State} : s.noConversion ↔ (s.bus.sq.any (·.converting) && s.rqFree) = false := by
  rw [Bool.and_eq_false_iff, List.any_eq_false]
  simp [State.noConversion]

theorem State.noConversion.congr {s x : State} (h : s.noConversion) (hsq : x.bus.sq = s.bus.sq) (hret : x.ret = s.ret) :
    x.noConversion := by
  unfold State.noConversion State.rqFree
  rw [hsq, hret]
  exact h

theorem convertAll_of_noConversion {s : State} (h : s.noConversion) (n : Nat) : State.convertAll n s = s :=
  convertAll_calm s (noConversion_iff.mp h) n

@[simp] theorem giveTo_ret (a : Asker) : (s.giveTo a).ret = s.ret := by
  cases a with
  | prt t =>
    unfold State.giveTo State.placePrt State.handOff State.placeAbandoned
    dsimp only
    (repeat' split) <;> simp
  | home =>
    unfold State.giveTo State.placeHome
    dsimp only
    (repeat' split) <;> simp [popHwq_eq]

theorem giveOne_noConversion {s : State} (h : s.noConversion) : s.giveOne.noConversion := by
  unfold State.giveOne
  split
  · exact h
  case h_2 a rest _ =>
    split
    case isFalse => exact h
    case isTrue =>
      rcases h with h | h
      · left
        rcases giveTo_sq_eq { s with bus.askers := rest } a with hsq | ⟨m, f, hsq⟩
        · rw [hsq]
          exact h
        · rw [hsq]
          intro q hq
          rcases List.mem_append.mp hq with hq | hq
          · exact h q hq
          · rw [List.mem_singleton.mp hq]
            rfl
      · right
        simpa [State.rqFree] using h

/-- An asker that is given its place is no asker any more, and none is added. -/
theorem giveTo_askers (a : Asker) : (s.giveTo a).bus.askers.length ≤ s.bus.askers.length := by
  cases a with
  | prt t =>
    have hfree : ∀ v : State, v.bus.askers = s.bus.askers → (v.freeEntry t).bus.askers.length ≤ s.bus.askers.length :=
      fun v hv => (List.length_filter_le (fun a : Asker => a != .prt t) v.bus.askers).trans (congrArg List.length hv).le
    simp only [State.giveTo, State.placePrt]
    split
    · exact le_rfl
    · split
      · exact hfree _ rfl
      · exact le_rfl
      · unfold State.placeAbandoned
        dsimp only
        split
        · exact hfree _ rfl
        · exact le_rfl
      all_goals exact le_rfl
  | home =>
    unfold State.giveTo State.placeHome
    dsimp only
    (repeat' split) <;> simp [popHwq_eq]

theorem givePlaces_fuel {s : State} (n : Nat) (h : s.bus.askers.length ≤ n) :
    State.givePlaces n s = State.givePlaces s.bus.askers.length s := by
  suffices hstep : ∀ n m : Nat, ∀ s : State, s.bus.askers.length ≤ n → s.bus.askers.length ≤ m →
      State.givePlaces n s = State.givePlaces m s from hstep n _ s h le_rfl
  clear h n s
  intro n
  induction n with
  | zero =>
    intro m s hn _
    have hnil : s.bus.askers = [] := List.length_eq_zero_iff.mp (by omega)
    rw [givePlaces_calm s (by simp [hnil]), givePlaces_calm s (by simp [hnil])]
  | succ n ih =>
    intro m s hn hm
    by_cases hstop : s.bus.askers = [] ∨ s.sqFree = false
    · have hcalm : (s.bus.askers.isEmpty || !s.sqFree) = true := by simpa using hstop
      rw [givePlaces_calm s hcalm, givePlaces_calm s hcalm]
    · obtain ⟨hask, hfree⟩ := not_or.mp hstop
      obtain ⟨a, rest, hcons⟩ := List.exists_cons_of_ne_nil hask
      have hlen : s.giveOne.bus.askers.length ≤ rest.length := by
        have hgive := giveTo_askers { s with bus.askers := rest } a
        simpa [State.giveOne, hcons, hfree] using hgive
      obtain ⟨m, rfl⟩ : ∃ k, m = k + 1 := ⟨m - 1, by simp [hcons] at hm; omega⟩
      simp only [hcons, List.length_cons, Nat.add_le_add_iff_right] at hn hm
      simp only [State.givePlaces, if_neg hstop]
      exact ih m s.giveOne (hlen.trans hn) (hlen.trans hm)

theorem givePlaces_giveOne {s : State} :
    State.givePlaces s.giveOne.bus.askers.length s.giveOne = State.givePlaces s.bus.askers.length s := by
  cases hask : s.bus.askers with
  | nil =>
    have hsame : s.giveOne = s := by simp [State.giveOne, hask]
    rw [hsame, hask]
  | cons a rest =>
    cases hfree : s.sqFree with
    | false =>
      have hsame : s.giveOne = s := by simp [State.giveOne, hask, hfree]
      rw [hsame, hask]
    | true =>
      have hstop : ¬(s.bus.askers = [] ∨ s.sqFree = false) := by simp [hask, hfree]
      have hlen : s.giveOne.bus.askers.length ≤ rest.length := by
        have hgive := giveTo_askers { s with bus.askers := rest } a
        simpa [State.giveOne, hask, hfree] using hgive
      rw [List.length_cons, State.givePlaces, if_neg hstop, givePlaces_fuel rest.length hlen]

theorem followUp_giveOne {s : State} (h : s.noConversion) : s.giveOne.followUp = s.followUp := by
  unfold State.followUp
  dsimp only
  rw [convertAll_of_noConversion h, convertAll_of_noConversion (giveOne_noConversion h), givePlaces_giveOne]

/-! ### What the command has given out is not looked at -/

/-- The station with other outputs. -/
def State.withOut (s : State) (o : Outputs) : State := { s with out := o }

section
variable (o : Outputs)

theorem addFault_withOut (r : FaultRecord) : (s.withOut o).addFault r = (s.addFault r).withOut o := by
  show (if s.lpu.log.length < Config.logPlaces then _ else _) = _
  unfold State.addFault
  split <;> rfl

theorem emptyCopy_withOut (l : LineNo) : (s.withOut o).emptyCopy l = (s.emptyCopy l).withOut o := by
  have hheld : (s.withOut o).held l = s.held l := rfl
  unfold State.emptyCopy
  rw [hheld]
  split <;> rfl

theorem convert_withOut (e : SqEntry) : (s.withOut o).convert e = (s.convert e).withOut o := by
  have hrq : ∀ d : LineData, (s.withOut o).addRq e.msg.line d [] = (s.addRq e.msg.line d []).withOut o := fun _ => rfl
  unfold State.convert
  rw [hrq, emptyCopy_withOut, ← addFault_withOut]
  rfl

theorem convertOne_withOut : (s.withOut o).convertOne = s.convertOne.withOut o := by
  have hsq : (s.withOut o).bus.sq = s.bus.sq := rfl
  have hfree : (s.withOut o).rqFree = s.rqFree := rfl
  unfold State.convertOne
  rw [hsq, hfree]
  split
  · split
    · exact convert_withOut s o _
    · rfl
  · rfl

theorem convertAll_withOut (n : Nat) : State.convertAll n (s.withOut o) = (State.convertAll n s).withOut o := by
  induction n generalizing s with
  | zero => rfl
  | succ n ih =>
    have hsq : (s.withOut o).bus.sq = s.bus.sq := rfl
    have hfree : (s.withOut o).rqFree = s.rqFree := rfl
    unfold State.convertAll
    rw [convertOne_withOut, ih, hsq, hfree]
    split <;> rfl

theorem startPort_withOut : (s.withOut o).startPort = s.startPort.withOut o := by
  have hhome : (s.withOut o).home = s.home := rfl
  unfold State.startPort
  rw [hhome]
  split <;> rfl

theorem giveTo_withOut (a : Asker) : (s.withOut o).giveTo a = (s.giveTo a).withOut o := by
  cases a with
  | prt t =>
    have hentry : (s.withOut o).entry t = s.entry t := rfl
    simp only [State.giveTo, State.placePrt, hentry]
    split
    · rfl
    · split
      case h_3 e _ _ _ _ _ =>
        unfold State.placeAbandoned
        dsimp only
        split <;> rfl
      all_goals rfl
  | home =>
    have hhome : (s.withOut o).home = s.home := rfl
    simp only [State.giveTo, State.placeHome, hhome]
    split
    · split
      · rw [popHwq_eq, popHwq_eq]
        rfl
      · rfl
    all_goals rfl

theorem giveOne_withOut : (s.withOut o).giveOne = s.giveOne.withOut o := by
  have hask : (s.withOut o).bus.askers = s.bus.askers := rfl
  have hfree : (s.withOut o).sqFree = s.sqFree := rfl
  unfold State.giveOne
  rw [hask, hfree]
  split
  · rfl
  case h_2 a rest _ =>
    split
    · exact giveTo_withOut { s with bus.askers := rest } o a
    · rfl

theorem givePlaces_withOut (n : Nat) : State.givePlaces n (s.withOut o) = (State.givePlaces n s).withOut o := by
  induction n generalizing s with
  | zero => rfl
  | succ n ih =>
    have hask : (s.withOut o).bus.askers = s.bus.askers := rfl
    have hfree : (s.withOut o).sqFree = s.sqFree := rfl
    unfold State.givePlaces
    rw [giveOne_withOut, ih, hask, hfree]
    split <;> rfl

theorem victimOne_withOut : (s.withOut o).victimOne = s.victimOne.withOut o := by
  have hnext : (s.withOut o).nextVictim = s.nextVictim := rfl
  have htag : (s.withOut o).freeTag = s.freeTag := rfl
  unfold State.victimOne State.makeVictim State.makeAtFree
  rw [hnext, htag]
  cases s.nextVictim <;> cases s.freeTag <;> rfl

theorem victims_withOut (n : Nat) : State.victims n (s.withOut o) = (State.victims n s).withOut o := by
  induction n generalizing s with
  | zero => rfl
  | succ n ih =>
    have hnext : (s.withOut o).nextVictim = s.nextVictim := rfl
    have htag : (s.withOut o).freeTag = s.freeTag := rfl
    unfold State.victims
    rw [victimOne_withOut, ih, hnext, htag]
    split <;> rfl

theorem walkFrom_withOut (n p : Nat) : State.walkFrom n p (s.withOut o) = (State.walkFrom n p s).withOut o := by
  induction n generalizing s p with
  | zero => rfl
  | succ n ih =>
    have hat : (s.withOut o).walkAt p = s.walkAt p := rfl
    have hunder : ∀ l, (s.withOut o).underAnswer l = s.underAnswer l := fun _ => rfl
    have htransit : ∀ l, (s.withOut o).inTransit l = s.inTransit l := fun _ => rfl
    have hfree : (s.withOut o).rqFree = s.rqFree := rfl
    have hempty : (s.withOut o).walkEmpty p = (s.walkEmpty p).withOut o := rfl
    have hrq : ∀ l d, ((s.walkEmpty p).withOut o).addRq l d [] = ((s.walkEmpty p).addRq l d []).withOut o := fun _ _ => rfl
    unfold State.walkFrom
    simp only [hat, hunder, htransit, hfree, hempty, hrq, ih]
    (repeat' split) <;> rfl

theorem runWalk_withOut : (s.withOut o).runWalk = s.runWalk.withOut o := by
  have hmode : (s.withOut o).ctl = s.ctl := rfl
  have hret : (s.withOut o).ret = s.ret := rfl
  have hmay : (s.withOut o).walkMayBegin = s.walkMayBegin := rfl
  unfold State.runWalk
  simp only [hmode, hret, hmay, walkFrom_withOut]
  (repeat' split) <;> rfl

theorem enterQuiesced_withOut : (s.withOut o).enterQuiesced = s.enterQuiesced.withOut o := by
  have hmay : (s.withOut o).mayBeQuiesced = s.mayBeQuiesced := rfl
  unfold State.enterQuiesced
  rw [hmay]
  split <;> rfl

theorem followUp_withOut : (s.withOut o).followUp = s.followUp.withOut o := by
  have hsq : (s.withOut o).bus.sq.length = s.bus.sq.length := rfl
  have hask : ∀ t : State, (t.withOut o).bus.askers.length = t.bus.askers.length := fun _ => rfl
  have hwanted : ∀ t : State, (t.withOut o).home.wanted.length = t.home.wanted.length := fun _ => rfl
  unfold State.followUp
  dsimp only
  rw [hsq, convertAll_withOut, hask, givePlaces_withOut, startPort_withOut, hwanted, victims_withOut, runWalk_withOut,
    startPort_withOut, enterQuiesced_withOut]

end

/-! ### Nothing is left to happen but a memory operation's beginning -/

/-- None of the conditions of what follows stands, but that of the memory port. -/
structure State.Settled (s : State) : Prop where
  conv   : s.noConversion
  places : s.bus.askers = [] ∨ s.sqFree = false
  victim : s.nextVictim = none ∨ s.freeTag = none
  walk   : s.ctl.mode ≠ .quiescing ∨ s.walkStays = true

/-- The memory port has nothing to begin. -/
def State.portStays (s : State) : Prop := s.home.port ≠ .idle ∨ s.home.hwq = []

theorem State.portStays.congr {s x : State} (h : s.portStays) (hport : x.home.port = s.home.port) (hhwq : x.home.hwq = s.home.hwq) :
    x.portStays := by
  unfold State.portStays
  rw [hport, hhwq]
  exact h

theorem startPort_stays {s : State} (h : s.portStays) : s.startPort = s :=
  startPort_calm s (by simpa [State.portStays] using h)

theorem startPort_starts {s : State} (hport : s.home.port = .idle) (hhwq : s.home.hwq ≠ []) :
    s.startPort = { s with home.port := .busy } := by simp [State.startPort, hport, hhwq]

/-- R104: an idle memory port begins the work that has joined the HWQ. -/
theorem startPort_of_joined {s x : State} {added : List HwqEntry} (h : s.portStays) (hport : x.home.port = s.home.port)
    (hhwq : x.home.hwq = s.home.hwq ++ added) :
    x.startPort = { x with home.port := if s.home.port = .idle ∧ added ≠ [] then .busy else s.home.port } := by
  by_cases hidle : s.home.port = .idle ∧ added ≠ []
  · have hne : x.home.hwq ≠ [] := by simp [hhwq, hidle.2]
    rw [startPort_starts (hport.trans hidle.1) hne, if_pos hidle]
  · have hstays : x.portStays := by
      by_cases hp : s.home.port = .idle
      · have hadded : added = [] := by simpa [hp] using hidle
        exact .inr (by rw [hhwq, hadded, h.resolve_left (not_not.mpr hp), List.append_nil])
      · exact .inl (hport ▸ hp)
    rw [startPort_stays hstays, if_neg hidle, ← hport]

theorem calm_iff {s : State} : s.calm = true ↔ s.Settled ∧ s.portStays := by
  simp only [State.calm, Bool.and_eq_true, Bool.not_eq_true']
  constructor
  · rintro ⟨⟨⟨⟨hconv, hplaces⟩, hport⟩, hvictim⟩, hwalk⟩
    exact ⟨⟨noConversion_iff.mpr hconv, by simpa using hplaces, by simpa using hvictim, by simpa using hwalk⟩,
      by simpa [State.portStays] using hport⟩
  · rintro ⟨⟨hconv, hplaces, hvictim, hwalk⟩, hport⟩
    exact ⟨⟨⟨⟨noConversion_iff.mp hconv, by simpa using hplaces⟩, by simpa [State.portStays] using hport⟩,
      by simpa using hvictim⟩, by simpa using hwalk⟩

theorem settled_of_still {s : State} (h : s.still = true) : s.Settled ∧ s.portStays :=
  calm_iff.mp (still_iff.mp h).1

/-- That the port begins brings about none of the conditions. -/
theorem State.Settled.startPort {s : State} (h : s.Settled) : s.startPort.Settled := by
  unfold State.startPort
  split
  · exact ⟨h.conv, h.places, h.victim, h.walk⟩
  · exact h

theorem startPort_portStays : s.startPort.portStays := by
  unfold State.startPort State.portStays
  split
  · exact .inl (by simp)
  case isFalse h => rw [not_and_or, not_not] at h; exact h

theorem victims_of_settled {s : State} (h : s.nextVictim = none ∨ s.freeTag = none) (n : Nat) : State.victims n s = s := by
  cases n with
  | zero => rfl
  | succ n => rcases h with h | h <;> simp [State.victims, h]

/-- Where none of the conditions stands, the memory port begins at most. -/
theorem followUp_settled {s : State} (h : s.Settled) : s.followUp = s.startPort := by
  have hplaces : (s.bus.askers.isEmpty || !s.sqFree) = true := by simpa using h.places
  have hwalk : (s.startPort.ctl.mode != .quiescing || s.startPort.walkStays) = true := by simpa using h.startPort.walk
  unfold State.followUp
  dsimp only
  rw [convertAll_of_noConversion h.conv, givePlaces_calm s hplaces, victims_of_settled h.startPort.victim,
    runWalk_calm _ hwalk, startPort_stays (startPort_portStays s), enterQuiesced_calm _ hwalk]

theorem followUp_calm {s : State} (h : s.Settled) (hport : s.portStays) : s.followUp = s := by
  rw [followUp_settled h, startPort_stays hport]

/-- Where no request waits and none of the conditions stands, nothing follows. -/
theorem settle_calm {s : State} (h : s.Settled) (hport : s.portStays) (hreq : s.noRequest) (s0 : State) (j : Judged) :
    s.settle s0 j = s := by
  rw [settle_noRequest hreq, followUp_calm h hport]

/-- Where a single victim recall can be made, it is all that follows. -/
theorem followUp_victimOne {s t : State} {l : LineNo} {u : ReqTag} (hconv : s.noConversion)
    (hplaces : s.bus.askers = [] ∨ s.sqFree = false) (hport : s.portStays) (hnext : s.nextVictim = some l)
    (htag : s.freeTag = some u) (ht : s.victimOne = t) (hsettled : t.Settled) (hport' : t.portStays) : s.followUp = t := by
  have hplaces' : (s.bus.askers.isEmpty || !s.sqFree) = true := by simpa using hplaces
  have hwalk : (t.ctl.mode != .quiescing || t.walkStays) = true := by simpa using hsettled.walk
  unfold State.followUp
  dsimp only
  rw [convertAll_of_noConversion hconv, givePlaces_calm s hplaces', startPort_stays hport, State.victims, hnext, htag, ht]
  simp only [Option.isSome_some, Bool.and_self, if_true]
  rw [victims_of_settled hsettled.victim, runWalk_calm _ hwalk, startPort_stays hport', enterQuiesced_calm _ hwalk]

/-! ### The Export Table (R96, R99) -/

theorem put_put {α : Type} {n : Nat} (t : Table α n) (i : BitVec n) (x y : α) : put (put t i x) i y = put t i y := by
  simp [put]

section
variable (s : State) (l k : LineNo) (f g : ExportEntry → ExportEntry)

theorem exportSet_setExportSet (es : List ExportEntry) :
    (s.setExportSet l es).exportSet k = if exportIndex k = exportIndex l then es else s.exportSet k := look_put _ _ _ _

theorem exportSet_changeExport_self : (s.changeExport l f).exportSet l = (s.exportSet l).map fun x => if x.line = l then f x else x := by
  rw [State.changeExport, exportSet_setExportSet, if_pos rfl]

/-- Lines of one index have one set. -/
theorem exportSet_congr {l k : LineNo} (h : exportIndex k = exportIndex l) : s.exportSet k = s.exportSet l := by
  simp [State.exportSet, h]

variable {s l k f g}

theorem line_of_findExport {x : ExportEntry} (h : s.findExport l = some x) : x.line = l := by simpa using List.find?_some h

theorem findExport_changeExport_self (hf : ∀ x, (f x).line = x.line) :
    (s.changeExport l f).findExport l = (s.findExport l).map f := by
  unfold State.findExport
  rw [exportSet_changeExport_self]
  induction s.exportSet l with
  | nil => rfl
  | cons x xs ih =>
    by_cases hx : x.line = l
    · simp [hx, hf]
    · simpa [hx] using ih

theorem find_changed_other (hf : ∀ x, (f x).line = x.line) (hk : k ≠ l) (xs : List ExportEntry) :
    (xs.map fun x => if x.line = l then f x else x).find? (fun x => x.line == k) = xs.find? fun x => x.line == k := by
  induction xs with
  | nil => rfl
  | cons x xs ih =>
    by_cases hx : x.line = l
    · have hxk : x.line ≠ k := fun h => hk (h.symm.trans hx)
      have hfk : (f x).line ≠ k := fun h => hxk ((hf x).symm.trans h)
      simpa [hx, hf, hk.symm] using ih
    · by_cases hxk : x.line = k
      · subst hxk
        simp [hk]
      · simpa [hx, hxk] using ih

theorem findExport_changeExport_ne (hf : ∀ x, (f x).line = x.line) (hk : k ≠ l) :
    (s.changeExport l f).findExport k = s.findExport k := by
  unfold State.findExport
  rw [State.changeExport, exportSet_setExportSet]
  split
  case isTrue hidx => rw [find_changed_other hf hk, exportSet_congr s hidx]
  case isFalse => rfl

theorem changeExport_changeExport (hf : ∀ x, (f x).line = x.line) :
    (s.changeExport l f).changeExport l g = s.changeExport l fun x => g (f x) := by
  have hmap : ((s.exportSet l).map fun x => if x.line = l then f x else x).map (fun x => if x.line = l then g x else x) =
      (s.exportSet l).map fun x => if x.line = l then g (f x) else x := by
    rw [List.map_map]
    refine List.map_congr_left fun x _ => ?_
    by_cases hx : x.line = l
    · simp [hx, hf]
    · simp [hx]
  show State.setExportSet _ l _ = _
  rw [exportSet_changeExport_self, hmap]
  unfold State.changeExport State.setExportSet
  dsimp only
  rw [put_put]

end

/-! ### Wanted lines (R117) -/

/-- No victim recall can be made: no wanted line has an entry whose flag is not set. -/
theorem nextVictim_eq_none_iff {s : State} :
    s.nextVictim = none ↔ ∀ l ∈ s.home.wanted, ∀ x, s.findExport l = some x → x.awaiting ≠ none := by
  unfold State.nextVictim
  rw [List.find?_eq_none]
  refine forall₂_congr fun l _ => ?_
  cases s.findExport l <;> simp

theorem nextVictim_nil {s : State} (h : s.home.wanted = []) : s.nextVictim = none := by
  simp [State.nextVictim, h]

theorem nextVictim_single {s : State} {l : LineNo} {x : ExportEntry} (hwanted : s.home.wanted = [l]) (hfind : s.findExport l = some x)
    (hx : x.awaiting = none) : s.nextVictim = some l := by
  simp [State.nextVictim, hwanted, hfind, hx]

theorem victimOne_made {s : State} {l : LineNo} {u : ReqTag} (hnext : s.nextVictim = some l) (htag : s.freeTag = some u) :
    s.victimOne = (s.makeEntry u (.fresh .recall l none [] .victim)).recallStarts l := by
  simp only [State.victimOne, hnext, htag, State.makeVictim, State.makeAtFree]

/-! ### The quiesce walk at a station that has changed (R129 to R131) -/

/-- What the walk looks at of the PRT: the kind of each entry. -/
def State.entryKinds (s : State) : List (Option PrtKind) := s.engine.prt.toList.map fun x => x.entry.map (·.kind)

theorem walkMayBegin_eq : s.walkMayBegin = (s.cache.pins.isEmpty && s.entryKinds.all fun k => k.all (· == .recall)) := by
  unfold State.walkMayBegin State.entryKinds
  rw [List.all_map]
  congr 2
  funext x
  simp only [Function.comp]
  cases x.entry <;> rfl

theorem mayBeQuiesced_eq :
    s.mayBeQuiesced = (s.ctl.mode == .quiescing && s.ret.walk == .done && s.ret.rq.isEmpty && s.bus.sq.isEmpty && s.sqHeld == 0 &&
      s.cache.pins.isEmpty && s.entryKinds.all (·.isNone)) := by
  unfold State.mayBeQuiesced State.entryKinds
  rw [List.all_map]
  congr 2
  funext x
  simp

/-- The walk stays where it was: nothing that it waits for has come about. -/
theorem walkStays_of_frame {s t : State} (h : s.walkStays = true) (hret : t.ret = s.ret) (hcache : t.cache = s.cache)
    (hmode : t.ctl.mode = s.ctl.mode) (hkinds : t.entryKinds = s.entryKinds)
    (hunder : ∀ l, s.underAnswer l = true → t.underAnswer l = true) (htransit : ∀ l, s.inTransit l = true → t.inTransit l = true)
    (hsq : t.bus.sq.isEmpty = true → s.bus.sq.isEmpty = true) (hheld : t.sqHeld = 0 → s.sqHeld = 0) : t.walkStays = true := by
  have hat : ∀ p, t.walkAt p = s.walkAt p := fun p => by simp only [State.walkAt, hcache]
  have hfree : t.rqFree = s.rqFree := by simp only [State.rqFree, hret]
  unfold State.walkStays at h ⊢
  rw [hret]
  cases hwalk : s.ret.walk with
  | notBegun =>
    simp only [hwalk, walkMayBegin_eq, hkinds, hcache] at h ⊢
    exact h
  | atWay p =>
    simp only [hwalk, hat, hfree] at h ⊢
    cases hway : s.walkAt p with
    | empty => simp [hway] at h
    | reserved l => simpa [hway] using h
    | holding l st d =>
      simp only [hway, Bool.and_eq_true, Bool.or_eq_true] at h ⊢
      obtain ⟨hp, (hu | ht) | hr⟩ := h
      · exact ⟨hp, .inl (.inl (hunder l hu))⟩
      · exact ⟨hp, .inl (.inr (htransit l ht))⟩
      · exact ⟨hp, .inr hr⟩
  | done =>
    simp only [hwalk, mayBeQuiesced_eq, hkinds, hcache, hret, hmode, Bool.not_eq_true', Bool.and_eq_false_iff,
      beq_eq_false_iff_ne, ne_eq] at h ⊢
    have hsq' : s.bus.sq.isEmpty = false → t.bus.sq.isEmpty = false := fun hf => by
      cases ht : t.bus.sq.isEmpty
      · rfl
      · rw [hsq ht] at hf; exact hf
    have hheld' : ¬s.sqHeld = 0 → ¬t.sqHeld = 0 := fun hf ht => hf (hheld ht)
    tauto

/-- A new medium that leaves no line less under answer and holds no fewer places. -/
theorem underAnswer_of_idle {s : State} (h : s.bus.medium = .idle) (l : LineNo) : s.underAnswer l = false := by
  simp [State.underAnswer, h]

theorem sqHeld_of_idle {s : State} (h : s.bus.medium = .idle) : s.sqHeld = 0 := by simp [State.sqHeld, h]

end Sys2Proof.Machine
end

section
/-!
PROOF. The arrival of a request message and of a data message (R42, R43, R48 to R50, R99, R146, R153).
-/

namespace Sys2Proof.Machine

/-! ### What an arrival is -/

section
variable {s : State} {bytes : List Byte}

theorem exec_requestArrival_parked (h : s.ctl.mode = .parked) : exec (.requestArrival bytes) s = .next s.begin := by
  show execRequestArrival bytes s = _
  simp [execRequestArrival, h]

theorem exec_requestArrival_peer (hmode : s.ctl.mode ≠ .parked) (hidle : s.bus.medium = .idle) :
    exec (.requestArrival bytes) s = .next ((s.begin.peerArrival (parseRequest bytes)).settle s.begin .byChange) := by
  show execRequestArrival bytes s = _
  simp only [execRequestArrival, hmode, hidle, if_false]

theorem exec_requestArrival_own {i : SendItem} {r : Request} (hmode : s.ctl.mode ≠ .parked) (hsent : s.bus.medium = .sent (.request i r)) :
    exec (.requestArrival bytes) s = .next (s.begin.ownArrival i r) := by
  show execRequestArrival bytes s = _
  simp only [execRequestArrival, hmode, hsent, if_false]

theorem exec_dataArrival_parked (h : s.ctl.mode = .parked) : exec (.dataMessageArrival bytes) s = .next s.begin := by
  show execDataMessageArrival bytes s = _
  simp [execDataMessageArrival, h]

theorem exec_dataArrival_peer (hmode : s.ctl.mode ≠ .parked) (hidle : s.bus.medium = .idle) :
    exec (.dataMessageArrival bytes) s = .next (s.begin.peerData (parseData bytes)) := by
  show execDataMessageArrival bytes s = _
  simp only [execDataMessageArrival, hmode, hidle, if_false]

theorem exec_dataArrival_own {homeTake : Bool} (hmode : s.ctl.mode ≠ .parked) (hsent : s.bus.medium = .sent (.data homeTake)) :
    exec (.dataMessageArrival bytes) s = .next (s.begin.openAck true homeTake none none) := by
  show execDataMessageArrival bytes s = _
  simp only [execDataMessageArrival, hmode, hsent, if_false]

theorem member_ne_parked (h : s.ctl.mode.member = true) : s.ctl.mode ≠ .parked := by
  intro hp
  simp [hp, Mode.member] at h

theorem peerArrival_member (h : s.ctl.mode.member = true) (n : StationNo) (r : Request) :
    s.peerArrival (some (n, r)) = s.memberArrival n r := by
  cases hm : s.ctl.mode <;> simp_all [State.peerArrival, Mode.member]

theorem peerArrival_damaged (h : s.ctl.mode.member = true) :
    s.peerArrival none = s.openWindow (plainWindow none (some .void)) := by
  cases hm : s.ctl.mode <;> simp_all [State.peerArrival, Mode.member]

theorem peerData_member (h : s.ctl.mode.member = true) (n : StationNo) (m : DataMsg) : s.peerData (some (n, m)) = s.memberData n m := by
  cases hm : s.ctl.mode <;> simp_all [State.peerData, Mode.member]

theorem peerData_dormant (h : s.ctl.mode = .dormant) (msg : Option (StationNo × DataMsg)) :
    s.peerData msg = s.setGap.openAck false false none none := by simp [State.peerData, h]

theorem peerData_isolated (h : s.ctl.mode = .isolated) (msg : Option (StationNo × DataMsg)) :
    s.peerData msg = s.openAck false false none none := by simp [State.peerData, h]

theorem peerData_enrolling (h : s.ctl.mode = .enrolling) (n : StationNo) (m : DataMsg) :
    s.peerData (some (n, m)) = (s.isolate (lateJoin (some n))).openAck false false none none := by simp [State.peerData, h]

theorem peerData_enrolling_damaged (h : s.ctl.mode = .enrolling) :
    s.peerData none = s.openAck false false (some .garbled) (some .garbled) := by simp [State.peerData, h]

theorem peerData_damaged (h : s.ctl.mode.member = true) :
    s.peerData none = s.openAck false false (some .garbled) (some .garbled) := by
  cases hm : s.ctl.mode <;> simp_all [State.peerData, Mode.member]

end

/-! ### What follows keeps the roll, the late peers and the station state (R131) -/

section
variable (s : State) (s0 : State) (j : Judged)

@[simp] theorem settle_roll : (s.settle s0 j).ctl.roll = s.ctl.roll := congrArg (fun x => x.2.2.2.2.2.2.2.2.1) (settle_fixed s s0 j)

@[simp] theorem settle_latePeers : (s.settle s0 j).bus.latePeers = s.bus.latePeers :=
  congrArg (fun x => x.2.2.2.2.1) (settle_fixed s s0 j)

/-- What follows an event changes the state of a Quiescing station alone. -/
theorem settle_mode (h : s.ctl.mode ≠ .quiescing) : (s.settle s0 j).ctl.mode = s.ctl.mode := by
  have hbefore : ∀ t : State, t.membership = s.membership → t.enterQuiesced.ctl.mode = s.ctl.mode := fun t ht => by
    have hmode : t.ctl.mode = s.ctl.mode := congrArg Prod.fst ht
    rw [enterQuiesced_calm t (by simp [hmode, h]), hmode]
  refine hbefore _ ?_
  simp only [State.allocateAfter, startPort_membership, runWalk_membership, allocate_membership, givePlaces_membership,
    convertAll_membership]

end

/-- Only the bus tells a new medium apart: nothing becomes possible by a window that opens. -/
theorem State.Settled.withMedium {s : State} (h : s.Settled) (hidle : s.bus.medium = .idle) (m : Medium) :
    ({ s with bus.medium := m } : State).Settled where
  conv := h.conv
  places := h.places.imp_right fun hfull => by
    have hlen : Config.sqPlaces ≤ s.bus.sq.length := by simpa [State.sqFree, sqHeld_of_idle hidle] using hfull
    simp only [State.sqFree, decide_eq_false_iff_not, not_lt]
    omega
  victim := h.victim
  walk := h.walk.imp_right fun hstays =>
    walkStays_of_frame (s := s) hstays rfl rfl rfl rfl (fun l hl => by simp [underAnswer_of_idle hidle] at hl) (fun _ hl => hl)
      (fun hsq => hsq) (fun _ => sqHeld_of_idle hidle)

theorem State.Settled.begin {s : State} (h : s.Settled) : s.begin.Settled := ⟨h.conv, h.places, h.victim, h.walk⟩

theorem State.Settled.openWindow {s : State} (h : s.Settled) (hidle : s.bus.medium = .idle) (w : Window) : (s.openWindow w).Settled :=
  h.withMedium hidle _

theorem State.Settled.openAck {s : State} (h : s.Settled) (hidle : s.bus.medium = .idle) (own homeTake : Bool)
    (dest home : Option AckCode) : (s.openAck own homeTake dest home).Settled :=
  h.withMedium hidle _

/-- R57, R150: the sender of a message that comes too late is noted. -/
theorem notePeer_has (s : State) (n : StationNo) : (s.notePeer n).bus.latePeers.has n = true := by
  unfold State.notePeer
  split
  · assumption
  · simp [has_add]

/-! ### By the station's state -/

section
variable {s : State} {msg : Option (StationNo × Request)}

theorem peerArrival_dormant (h : s.ctl.mode = .dormant) :
    (s.peerArrival msg).bus.medium = .answering (plainWindow msg none) ∧
      (s.peerArrival msg).ctl.roll.gap = (s.ctl.roll.gap || msg.all fun x => !x.2.enrolment) := by
  rcases msg with _ | ⟨n, r⟩
  · simp [State.peerArrival, h, State.openWindow, State.setGap]
  · cases hr : r.enrolment <;> simp [State.peerArrival, h, State.openWindow, State.setGap, hr]

theorem peerArrival_enrolling (h : s.ctl.mode = .enrolling) :
    (s.peerArrival msg).bus.medium = .answering (plainWindow msg (some (if msg = none then .void else .clear))) ∧
      (s.peerArrival msg).ctl.mode = if msg.all fun x => x.2.enrolment then .enrolling else .isolated := by
  rcases msg with _ | ⟨n, r⟩
  · simp [State.peerArrival, h, State.openWindow]
  · cases hr : r.enrolment
    · simp only [State.peerArrival, h, hr, Option.all_some]
      exact ⟨rfl, rfl⟩
    · simp [State.peerArrival, h, State.openWindow, hr]

theorem peerArrival_isolated (h : s.ctl.mode = .isolated) :
    s.peerArrival msg = s.openWindow (plainWindow msg (some .clear)) := by simp [State.peerArrival, h]

/-- R57: an Enrolment-phase request at a member is noted and answered Clear. -/
theorem memberArrival_enrolment {n : StationNo} {r : Request} (h : r.enrolment = true) :
    s.memberArrival n r = (s.notePeer n).openWindow (plainWindow (some (n, r)) (some .clear)) := by simp [State.memberArrival, h]

theorem memberArrival_stranger {n : StationNo} {r : Request} (h : r.enrolment = false) (hn : s.ctl.enrolled.has n = false) :
    s.memberArrival n r = s.openWindow (plainWindow (some (n, r)) (some .again)) := by
  simp [State.memberArrival, State.judgeArrival, h, hn]

theorem memberArrival_known {n : StationNo} {r : Request} (h : r.enrolment = false) (hn : s.ctl.enrolled.has n = true) :
    s.memberArrival n r = (s.markForRequest r).openWindow
      { msg := some (n, r), own := none, drives := some (s.judgeRequest r).1, record := (s.judgeRequest r).2 } := by
  simp [State.memberArrival, State.judgeArrival, h, hn]

end

theorem isolate_room {s : State} {r : FaultRecord} (h : s.lpu.log.length < 8) :
    s.isolate r =
      { s with
        ctl.mode := .isolated
        ctl.roll.timer := none
        lpu.stateChange := true
        lpu.log := s.lpu.log ++ [r]
        bus.sendList := (s.bus.sendList.filter (· != .announce)).filter (· != .ready) } := by
  unfold State.isolate
  rw [addFault_room s r h]
  rfl

/-- R48: a message for another station, of a line that this station does not home or that says nothing to a home, changes nothing. -/
theorem memberData_noParty {s : State} {n : StationNo} {m : DataMsg} (hstill : s.still = true) (hidle : s.bus.medium = .idle)
    (hdest : m.dest ≠ s.number) (hhome : s.homesLine m.line = false ∨ (m.homeTake = false ∧ m.status ≠ .abandoned)) :
    s.memberData n m = s.openAck false m.homeTake none none := by
  have hpart : s.homePart n m = (none, s) := by
    rcases hhome with hl | ⟨htake, hstatus⟩
    · simp [State.homePart, State.abandonedAtHome, hl]
    · simp [State.homePart, State.abandonedAtHome, htake, hstatus]
  obtain ⟨hsettled, hport⟩ := settled_of_still hstill
  obtain ⟨hlrq, hhead⟩ := noRequest_of_still hstill
  unfold State.memberData State.destPart
  simp only [hdest, if_false, hpart]
  exact settle_calm (hsettled.openAck hidle _ _ _ _) hport ⟨hlrq, hhead⟩ s _

/-- Settles O35: for a request arrival by the station state, for a data message by the state and the message. -/
theorem arrivalByState : Obligations.ArrivalByState := by
  unfold Obligations.ArrivalByState
  refine ⟨fun s bytes hidle msg hmsg => ?request, fun s bytes => ⟨fun homeTake hmode hsent => ?own, fun hmode => ?parked, fun hidle =>
    ⟨fun hmode => ?dormant, fun hmode => ?isolated, fun hmsg hmode => ?damaged, fun n m hmsg =>
      ⟨fun hmode hlog => ?enrolling, fun hmode hdest hstill hhome => ?member⟩⟩⟩⟩
  case request =>
    have hexec : s.ctl.mode ≠ .parked →
        exec (.requestArrival bytes) s = .next ((s.begin.peerArrival msg).settle s.begin .byChange) :=
      fun hmode => hmsg ▸ exec_requestArrival_peer hmode hidle
    refine ⟨fun hmode => exec_requestArrival_parked hmode, fun hmode => ⟨_, hexec (by simp [hmode]), ?_⟩,
      fun hmode => ⟨_, hexec (by simp [hmode]), ?_⟩, fun hmode => ⟨_, hexec (by simp [hmode]), ?_⟩,
      fun hmode => ⟨_, hexec (member_ne_parked hmode), ?_⟩⟩
    · obtain ⟨hmedium, hgap⟩ := peerArrival_dormant (s := s.begin) (msg := msg) hmode
      rw [settle_medium, settle_roll, hmedium, hgap]
      cases msg <;> exact ⟨rfl, rfl⟩
    · obtain ⟨hmedium, hnext⟩ := peerArrival_enrolling (s := s.begin) (msg := msg) hmode
      rw [settle_medium, settle_mode _ _ _ (by rw [hnext]; split <;> simp), hmedium, hnext]
      refine ⟨rfl, fun n r hr henrol => by simp [hr, henrol], fun hall => ?_⟩
      rcases msg with _ | ⟨n, r⟩
      · rfl
      · simp [hall n r rfl]
    · rw [peerArrival_isolated (s := s.begin) hmode, settle_medium]
      rfl
    · have hmode' : s.begin.ctl.mode.member = true := hmode
      rw [settle_medium, settle_latePeers]
      refine ⟨?_, ?_, ?_, ?_⟩
      · rintro rfl
        rw [peerArrival_damaged hmode']
        rfl
      · rintro n r rfl henrol
        rw [peerArrival_member hmode', memberArrival_enrolment henrol]
        exact ⟨rfl, notePeer_has s.begin n⟩
      · rintro n r rfl henrol hn
        rw [peerArrival_member hmode', memberArrival_stranger (s := s.begin) henrol hn]
        rfl
      · rintro n r rfl henrol hn
        rw [peerArrival_member hmode', memberArrival_known (s := s.begin) henrol hn]
        rfl
  case own => exact exec_dataArrival_own hmode hsent
  case parked => exact exec_dataArrival_parked hmode
  case dormant =>
    rw [exec_dataArrival_peer (by simp [hmode]) hidle, peerData_dormant (s := s.begin) hmode]
    rfl
  case isolated =>
    rw [exec_dataArrival_peer (by simp [hmode]) hidle, peerData_isolated (s := s.begin) hmode]
    rfl
  case damaged =>
    rcases hmode with hmode | hmode
    · rw [exec_dataArrival_peer (by simp [hmode]) hidle, hmsg, peerData_enrolling_damaged (s := s.begin) hmode]
      rfl
    · rw [exec_dataArrival_peer (member_ne_parked hmode) hidle, hmsg, peerData_damaged (s := s.begin) hmode]
      rfl
  case enrolling =>
    rw [exec_dataArrival_peer (by simp [hmode]) hidle, hmsg, peerData_enrolling (s := s.begin) hmode, isolate_room (s := s.begin) hlog]
    rfl
  case member =>
    rw [exec_dataArrival_peer (member_ne_parked hmode) hidle, hmsg, peerData_member (s := s.begin) hmode,
      memberData_noParty (s := s.begin) hstill hidle hdest hhome]
    rfl

/-! ### A head that is not judged at an arrival (R25, R111, R159) -/

section
variable {s0 s : State}

theorem eq_of_mem_zip_self {α : Type} {xs : List α} {p : α × α} (h : p ∈ xs.zip xs) : p.1 = p.2 := by
  induction xs with
  | nil => simp at h
  | cons x xs ih =>
    rcases List.mem_cons.mp h with rfl | h
    · rfl
    · exact ih h

/-- Where an event has changed neither PRT, Pin Table, SQ nor Export Table, a decoded head is not judged again for what it brought about. -/
theorem judgedAgain_unchanged {d : Decoded} (hhead : s.lpu.head = some d) (hengine : s.engine = s0.engine) (hcache : s.cache = s0.cache)
    (hsq : s.bus.sq = s0.bus.sq) (hexports : s.home.exports = s0.home.exports) : State.judgedAgain s0 s .byChange = false := by
  have hentry : ∀ t, s.entry t = s0.entry t := fun t => by simp only [State.entry, hengine]
  have hfreed : State.prtFreed s0 s = false := by simp [State.prtFreed, hengine]
  have hphase : ∀ l, State.phaseMoved s0 s l = false := fun l => by
    refine List.any_eq_false.mpr fun t _ => ?_
    rw [hentry]
    cases s0.entry t <;> simp
  have hrecall : State.recallMoved s0 s = false := by
    refine List.any_eq_false.mpr fun t _ => ?_
    rw [hentry]
    cases s0.entry t <;> simp
  have hpin : State.pinEnded s0 s = false := by
    refine List.any_eq_false.mpr fun p hp => ?_
    have hfound : (s.findPin p.line).isSome = true := List.find?_isSome.mpr ⟨p, hcache ▸ hp, by simp⟩
    cases hfind : s.findPin p.line <;> simp_all
  have hflag : State.flagCleared s0 s = false := by
    refine List.any_eq_false.mpr fun p hp => ?_
    have hsame : p.1 = p.2 := by
      rw [hexports] at hp
      exact eq_of_mem_zip_self hp
    simp only [hsame, List.any_eq_true, Bool.and_eq_true, Bool.not_eq_true', not_exists, not_and]
    intro x hx hset
    simp only [Bool.not_eq_false, List.any_eq_true]
    exact ⟨x, hx, by simp [hset]⟩
  have hconverted : State.converted s0 s = false := by simp [State.converted, hsq]
  cases hpath : d.path with
  | home =>
    rw [judgedAgain_home s hhead hpath]
    simp [Judged.byChange, State.homeChanged, hfreed, hrecall, hflag, hpin]
  | cached =>
    rw [judgedAgain_remote s hhead (by simp [hpath])]
    simp [Judged.byChange, State.remoteChanged, hfreed, hphase, hpin, hconverted]
  | direct =>
    rw [judgedAgain_remote s hhead (by simp [hpath])]
    simp [Judged.byChange, State.remoteChanged, hfreed, hphase, hpin, hconverted]

/-- Where no victim recall can be made and the head is not judged, free PRT entries go to no party. -/
theorem allocate_unjudged (h : s.nextVictim = none ∨ s.freeTag = none) (a b : Bool) (n : Nat) : s.allocate n a b false = s := by
  cases n with
  | zero => rfl
  | succ n => rcases h with h | h <;> simp [State.allocate, h]

/-- Where none of the conditions stands and the waiting head is not judged, nothing follows. -/
theorem settle_unjudged {j : Judged} (h : s.Settled) (hport : s.portStays) (hj : State.judgedAgain s0 s j = false) : s.settle s0 j = s := by
  obtain ⟨hconv, hplaces, hvictim, hwalk⟩ := h
  have hplaces' : (s.bus.askers.isEmpty || !s.sqFree) = true := by simpa using hplaces
  have hwalk' : (s.ctl.mode != .quiescing || s.walkStays) = true := by simpa using hwalk
  unfold State.settle State.allocateAfter
  dsimp only
  rw [convertAll_of_noConversion hconv, givePlaces_calm s hplaces', startPort_stays hport, hj, allocate_unjudged hvictim,
    runWalk_calm s hwalk', startPort_stays hport, enterQuiesced_calm s hwalk']

end

/-! ### The window that opens (R42, R43, R99) -/

section
variable {s : State} {n : StationNo} {r : Request}

/-- R99 marks a victim for a full set alone. -/
theorem markForRequest_room (h : ∀ l, r.line? = some l → s.homesLine l = true → s.exportFull l = false) : s.markForRequest r = s := by
  unfold State.markForRequest
  split
  case h_1 l => exact if_neg (by simpa using h l rfl)
  case h_2 l => exact if_neg (by simpa using h l rfl)
  case h_3 l => exact if_neg (by simpa using h l rfl)
  all_goals rfl

theorem markForRequest_full {k : LineKind} {t : ReqTag} {g : Gen} {l : LineNo} (hk : k ≠ .recall) (hhome : s.homesLine l = true)
    (hfull : s.exportFull l = true) : s.markForRequest (.line k t g l) = s.markVictim l := by
  cases k <;> simp_all [State.markForRequest]

theorem markVictim_none {l : LineNo} (h : ∀ x ∈ s.exportSet l, x.state ≠ .none) : s.markVictim l = s := by
  have hfind : (s.exportSet l).find? (fun x => x.state == .none) = none := List.find?_eq_none.mpr (by simpa using h)
  simp [State.markVictim, hfind]

/-- The station with a line's entry wanted, behind the lines that are (R99). -/
def State.marked (s : State) (l : LineNo) : State :=
  { s with
    home :=
      { s.home with
        exports := (s.changeExport l fun y => { y with state := .wanted }).home.exports
        wanted := s.home.wanted ++ [l] } }

/-- R63, R117: with a free PRT entry the recall of a line that is marked, and the first one wanted, is made in the same event. -/
theorem marked_followUp {l : LineNo} {x : ExportEntry} {u : ReqTag} {w : Window} (h : s.Settled) (hport : s.portStays)
    (hmode : s.ctl.mode ≠ .quiescing) (hidle : s.bus.medium = .idle) (hwanted : s.home.wanted = []) (hfind : s.findExport l = some x)
    (hx : x.awaiting = none) (htag : s.freeTag = some u) :
    ((s.marked l).openWindow w).followUp =
      { s with
        engine := (s.setEntry u (.fresh .recall l none [] .victim)).engine
        home.exports := (s.changeExport l fun y => { y with state := .inFlight }).home.exports
        bus :=
          { s.bus with
            sendList := s.bus.sendList.filter (· != .prt u) ++ [.prt u]
            medium := .answering w } } := by
  have hopen := h.openWindow hidle w
  have hwanted' : (s.marked l).home.wanted = [l] := by
    show s.home.wanted ++ [l] = [l]
    rw [hwanted]
    rfl
  have hfind' : ((s.marked l).openWindow w).findExport l = some { x with state := .wanted } := by
    have hchanged := findExport_changeExport_self (s := s) (l := l) (f := fun y => { y with state := .wanted }) fun _ => rfl
    rw [hfind] at hchanged
    exact hchanged
  have hnext : ((s.marked l).openWindow w).nextVictim = some l := nextVictim_single hwanted' hfind' hx
  have hexports := congrArg (fun t : State => t.home.exports) (changeExport_changeExport (s := s) (l := l)
    (f := fun y => { y with state := .wanted }) (g := fun y => { y with state := .inFlight }) fun _ => rfl)
  have hnone : (s.marked l).home.wanted.filter (· != l) = s.home.wanted := by
    rw [hwanted', hwanted]
    simp
  refine followUp_victimOne hopen.conv hopen.places hport hnext htag ?made
    ⟨hopen.conv, hopen.places, .inl (nextVictim_nil hwanted), .inl hmode⟩ hport
  rw [victimOne_made hnext htag]
  exact congr (congrArg (fun exports wanted => ({ s with
    engine := (s.setEntry u (.fresh .recall l none [] .victim)).engine
    home := { s.home with exports := exports, wanted := wanted }
    bus :=
      { s.bus with
        sendList := s.bus.sendList.filter (· != .prt u) ++ [.prt u]
        medium := .answering w } } : State)) hexports) hnone

/-- R99: the oldest entry with recall state none becomes wanted. -/
theorem markVictim_oldest {l : LineNo} {older newer : List ExportEntry} {x : ExportEntry} (hset : s.exportSet l = older ++ x :: newer)
    (holder : ∀ y ∈ older, y.state ≠ .none) (hx : x.state = .none) : s.markVictim l = s.marked x.line := by
  have hskip : older.find? (fun x => x.state == .none) = none := List.find?_eq_none.mpr (by simpa using holder)
  have hfind : (s.exportSet l).find? (fun x => x.state == .none) = some x := by simp [hset, List.find?_append, hskip, hx]
  simp only [State.markVictim, hfind]
  rfl

end

/-- Settles O36: at a calm station a window that opens is all that happens, but for the victim that R99 marks. -/
theorem requestArrivalOpensWindow : Obligations.RequestArrivalOpensWindow := by
  unfold Obligations.RequestArrivalOpensWindow
  refine ⟨fun s bytes n r hcalm hhead hmember hidle hparse henrol hn hroom => ?peer, fun s bytes i r hmode hsent => ?own,
    fun s bytes n k t g l hstill hmember hmode hidle hparse hk hn hhome hfull => ?full⟩
  case peer =>
    obtain ⟨hsettled, hport⟩ := calm_iff.mp hcalm
    have hopen := fun w => hsettled.begin.openWindow hidle w
    rw [exec_requestArrival_peer (member_ne_parked hmember) hidle, hparse, peerArrival_member (s := s.begin) hmember,
      memberArrival_known (s := s.begin) henrol hn, markForRequest_room (s := s.begin) hroom]
    rcases hhead with hempty | ⟨d, hd⟩
    · obtain ⟨hlrq, hhead⟩ := noRequest_of_portEmpty hempty
      rw [settle_calm (hopen _) hport ⟨hlrq, hhead⟩]
      rfl
    · rw [settle_unjudged (s0 := s.begin) (hopen _) hport (judgedAgain_unchanged hd rfl rfl rfl rfl)]
      rfl
  case own => exact exec_requestArrival_own hmode hsent
  case full =>
    obtain ⟨hsettled, hport⟩ := settled_of_still hstill
    obtain ⟨hlrq, hhead⟩ := noRequest_of_still hstill
    rw [exec_requestArrival_peer (member_ne_parked hmember) hidle, hparse, peerArrival_member (s := s.begin) hmember,
      memberArrival_known (s := s.begin) rfl hn, markForRequest_full (s := s.begin) hk hhome hfull]
    refine ⟨fun hnone => ?_, fun older newer x hset holder hx => ?_⟩
    · rw [markVictim_none (s := s.begin) hnone, settle_calm (hsettled.begin.openWindow hidle _) hport ⟨hlrq, hhead⟩]
      rfl
    · rw [markVictim_oldest (s := s.begin) hset holder hx]
      refine ⟨fun htag => ?_, fun u htag hwanted hfind hawait => ?_⟩
      · have hmarked : (s.begin.marked x.line).Settled := ⟨hsettled.conv, hsettled.places, .inr htag, .inl hmode⟩
        rw [settle_calm (hmarked.openWindow hidle _) hport ⟨hlrq, hhead⟩]
        rfl
      · rw [settle_noRequest (s := (s.begin.marked x.line).openWindow _) ⟨hlrq, hhead⟩,
          marked_followUp hsettled.begin hport hmode hidle hwanted hfind hawait htag]
        rfl

end Sys2Proof.Machine
end

section
/-!
PROOF. The close of an answer window (R44 to R46, R70, R80, R90, R101, R102, R118, R124, R126, R135).
-/

namespace Sys2Proof.Machine

/-! ### What a close is -/

/-- No entry of the PRT holds the expiry of its timer back (R80). -/
def State.NoneHeld (s : State) : Prop := ∀ t e, s.entry t = some e → e.expiryHeld = false

section
variable {s : State} {w : Window} {n : StationNo} {r : Request} {c : AnswerCode} {driven : Table (BitVec 3) 4}

theorem noneHeld_of (h : s.noHeldExpiry = true) : s.NoneHeld := by
  intro t e he
  have hslot := List.all_eq_true.mp h _ (look_mem_toList s.engine.prt t)
  rw [show (look s.engine.prt t).entry = some e from he] at hslot
  simpa using hslot

theorem State.NoneHeld.setEntry (h : s.NoneHeld) {t : ReqTag} {e : PrtEntry} (he : e.expiryHeld = false) : (s.setEntry t e).NoneHeld := by
  intro u x hx
  rw [State.entry, prt_setEntry] at hx
  split at hx
  · obtain rfl := Option.some.inj hx
    exact he
  · exact h u x hx

theorem State.NoneHeld.freeEntry (h : s.NoneHeld) (t : ReqTag) : (s.freeEntry t).NoneHeld := by
  intro u x hx
  rw [State.entry, prt_freeEntry] at hx
  split at hx
  · exact absurd hx (by simp)
  · exact h u x hx

theorem takeHeldExpiry_none (h : s.NoneHeld) (t : ReqTag) : s.takeHeldExpiry t = s := by
  unfold State.takeHeldExpiry
  split
  case h_1 e he => simp [h t e he]
  case h_2 => rfl

/-- Where no expiry is held back, the close takes none. -/
theorem takeHeldExpiries_none (h : s.NoneHeld) : s.takeHeldExpiries = s := by
  simp [State.takeHeldExpiries, allTags, takeHeldExpiry_none h]

/-- R46: what the close of an Operational-phase request's window does. -/
theorem exec_answerWindowClose (hopen : s.bus.medium = .answering w) (hmsg : w.msg = some (n, r)) (hr : r.enrolment = false)
    (hc : combine driven w.drives = c) :
    exec (.answerWindowClose driven) s = .next ((s.begin.closeWindow w c).settle s.begin .all) := by
  show State.closeAnswer s.begin .operational driven = _
  have hany : s.begin.closeAny w c = s.begin.closeWindow w c := by
    unfold State.closeAny
    rw [hmsg]
    cases r <;> simp_all [Request.enrolment]
  have hkind : w.kind = .operational := by
    unfold Window.kind
    rw [hmsg]
    cases r <;> simp_all [Request.enrolment]
  simp only [State.closeAnswer, begin_bus, hopen, hkind, true_or, if_true, hc, hany]

theorem closeWindow_own {i : SendItem} (hown : w.own = some i) (h : (s.applyOwn i c).NoneHeld) :
    s.closeWindow w c = (s.applyOwn i c).idle := by
  simp only [State.closeWindow, hown, takeHeldExpiries_none h]

theorem exec_close_own {i : SendItem} {x : State} (hopen : s.bus.medium = .answering w) (hown : w.own = some i)
    (hmsg : w.msg = some (n, r)) (hr : r.enrolment = false) (hc : combine driven w.drives = c) (hx : s.begin.applyOwn i c = x)
    (hheld : x.NoneHeld) : exec (.answerWindowClose driven) s = .next (x.idle.settle s.begin .all) := by
  subst hx
  rw [exec_answerWindowClose hopen hmsg hr hc, closeWindow_own hown hheld]

theorem closeWindow_peer (hown : w.own = none) (hmsg : w.msg = some (n, r)) (hc : c.cancels = false)
    (h : (s.applyPeer n r w.record c).NoneHeld) : s.closeWindow w c = (s.applyPeer n r w.record c).idle := by
  simp only [State.closeWindow, hown, hmsg, hc, Bool.false_eq_true, if_false, takeHeldExpiries_none h]

theorem closeWindow_cancelled (hown : w.own = none) (hmsg : w.msg = some (n, r)) (hc : c.cancels = true) (h : s.NoneHeld) :
    s.closeWindow w c = s.idle := by
  simp only [State.closeWindow, hown, hmsg, hc, if_true, takeHeldExpiries_none h]

theorem exec_close_peer {x : State} (hopen : s.bus.medium = .answering w) (hown : w.own = none)
    (hmsg : w.msg = some (n, r)) (hr : r.enrolment = false) (hc : combine driven w.drives = c) (hgood : c.cancels = false)
    (hx : s.begin.applyPeer n r w.record c = x) (hheld : x.NoneHeld) :
    exec (.answerWindowClose driven) s = .next (x.idle.settle s.begin .all) := by
  subst hx
  rw [exec_answerWindowClose hopen hmsg hr hc, closeWindow_peer hown hmsg hgood hheld]

theorem cancels_iff : c.cancels = true ↔ c = .void ∨ c = .again := by cases c <;> simp [AnswerCode.cancels]

theorem cancels_eq_false (hvoid : c ≠ .void) (hagain : c ≠ .again) : c.cancels = false := by
  cases c <;> simp_all [AnswerCode.cancels]

end

/-! ### The PRT entry that changes in place -/

section
variable {s : State} {t : ReqTag} {e e' : PrtEntry}

theorem entry_setEntry (u : ReqTag) : (s.setEntry t e).entry u = if u = t then some e else s.entry u := by
  unfold State.entry
  rw [prt_setEntry]
  split <;> rfl

/-- The list of a table whose entry at one index is written with what a function cannot tell from it. -/
theorem map_put_of_eq {α β : Type} {n : Nat} (tb : Table α n) (i : BitVec n) (x : α) (f : α → β) (h : f x = f (look tb i)) :
    (put tb i x).toList.map f = tb.toList.map f := by
  have hmap : (put tb i x).map f = tb.map f := by
    refine Vector.ext fun j hj => ?_
    by_cases hji : i.toNat = j
    · subst hji
      simpa [put, look] using h
    · simp [put, Vector.getElem_set_ne, hji]
  have hlist := congrArg Vector.toList hmap
  rwa [Vector.toList_map, Vector.toList_map] at hlist

theorem entryKinds_setEntry (he : s.entry t = some e) (hkind : e'.kind = e.kind) : (s.setEntry t e').entryKinds = s.entryKinds := by
  refine map_put_of_eq _ _ _ _ ?_
  show some e'.kind = (s.entry t).map (·.kind)
  rw [he, hkind]
  rfl

theorem freeTag_setEntry (he : s.entry t = some e) : (s.setEntry t e').freeTag = s.freeTag := by
  unfold State.freeTag
  congr 1
  funext u
  rw [entry_setEntry]
  split
  case isTrue h => rw [h, he]; rfl
  case isFalse => rfl

theorem freeEntry_setEntry : (s.setEntry t e).freeEntry t = s.freeEntry t := by
  unfold State.freeEntry
  rw [prt_setEntry, if_pos rfl]
  unfold State.setEntry
  dsimp only
  rw [put_put]

end

/-! ### An entry that ends without serving (R70, R73, R80, R90, R118, R135) -/

section
variable {s : State} {t : ReqTag} {e : PrtEntry} {st : Status}

theorem dropPendingPin_eq :
    s.dropPendingPin e =
      { s with
        cache.pins :=
          if e.waiting.any fun i => i.op == .pinnedRead then s.cache.pins.filter fun p => p.line != e.line else s.cache.pins } := by
  unfold State.dropPendingPin PrtEntry.pinLed
  split <;> rfl

/-- The reserved way is given back in the cache as it stands. -/
theorem emptyReserved_eq {x : State} {rs : List FaultRecord} (h : x.cache.sets = s.cache.sets) :
    x.emptyReserved e = { x with cache.sets := (s.afterFailing e st rs).cache.sets } := by
  unfold State.emptyReserved State.afterFailing
  cases hkind : e.kind <;> cases hway : e.way <;> simp [State.setWay, State.setOf, h] <;> rw [← h]

theorem recallFails_eq (hpin : s.lpu.pinRecall = none) : s.recallFails t e st = { s with home.exports := s.exportsAfterEnd e } := by
  unfold State.recallFails State.exportsAfterEnd
  split
  · simp [hpin, State.changeExport, State.setExportSet]
  · rfl

/-- The station once an entry's list has been answered with a failing status and what the entry held is given back. -/
def State.failed (s : State) (e : PrtEntry) (st : Status) (records : List FaultRecord) : State :=
  { s.afterFailing e st records with home.exports := s.exportsAfterEnd e }

theorem failed_begin (rs : List FaultRecord) : s.begin.failed e st rs = s.failed e st rs := by
  unfold State.failed State.afterFailing
  cases e.way with
  | none => rfl
  | some v =>
    dsimp only
    split <;> rfl

theorem allAnswered_items (items : List Item) :
    ({ noOutput with
        responses := noOutput.responses ++ items.map fun i : Item => { tag := i.tag, status := st, payload := .none } } : Outputs) =
      allAnswered (items.map (·.tag)) st := by
  simp [allAnswered, noOutput]

theorem endEntry_eq {r : FaultRecord} (hpin : s.lpu.pinRecall = none) (hlog : s.lpu.log.length < 8) (hout : s.out = noOutput) :
    (s.addFault r).endEntry t e st = (s.failed e st [r]).abandonOrFree t e := by
  have hanswered : (s.addFault r).answerAll e.waiting st = { s.afterFailing e st [r] with cache := s.cache } := by
    rw [addFault_room s r hlog, answerAll_eq]
    simp only [hout, allAnswered_items]
    rfl
  have hdropped : ({ s.afterFailing e st [r] with cache := s.cache } : State).dropPendingPin e =
      { s.afterFailing e st [r] with cache.sets := s.cache.sets } := dropPendingPin_eq
  have hemptied : ({ s.afterFailing e st [r] with cache.sets := s.cache.sets } : State).emptyReserved e = s.afterFailing e st [r] :=
    emptyReserved_eq (s := s) (st := st) (rs := [r]) (x := { s.afterFailing e st [r] with cache.sets := s.cache.sets }) rfl
  have hrecall : (s.afterFailing e st [r]).recallFails t e st = s.failed e st [r] := recallFails_eq hpin
  unfold State.endEntry
  dsimp only
  rw [hanswered, hdropped, hemptied, hrecall]

theorem abandonOrFree_none (h : e.follower = none) : s.abandonOrFree t e = s.freeEntry t := by simp [State.abandonOrFree, h]

theorem abandonOrFree_some {f : Follower} (h : e.follower = some f) : s.abandonOrFree t e = (s.setEntry t e.ended).ask (.prt t) := by
  simp [State.abandonOrFree, h, PrtEntry.ended]

end

/-! ### The asker that is given a place (R51, R90) -/

section
variable {s : State} {t : ReqTag}

theorem giveOne_cons {a : Asker} {rest : List Asker} (h : s.bus.askers = a :: rest) (hfree : s.sqFree = true) :
    s.giveOne = ({ s with bus.askers := rest } : State).giveTo a := by
  simp only [State.giveOne, h, hfree, if_true]

theorem placePrt_abandoned {e : PrtEntry} {f : Follower} (he : s.entry t = some e) (howes : e.owes = .abandoned)
    (hf : e.follower = some f) : s.placePrt t = s.placeAbandoned t e f := by
  simp only [State.placePrt, he, howes, hf]

theorem placeAbandoned_finishing {e : PrtEntry} {f : Follower} (h : e.phase = .finishing) :
    s.placeAbandoned t e f = (s.addSq (abandonedMsg e.line f) false).freeEntry t := by
  simp only [State.placeAbandoned, h, if_true]

end

/-! ### A cancelled window (R45, R70, R90, R124) -/

section
variable {s : State} {t : ReqTag} {e : PrtEntry} {st : Status} {rs : List FaultRecord}

/-- An entry that ends without a follower frees its tag, and nothing follows. -/
theorem settle_failed_freed (h : s.idle.Settled) (hport : s.portStays) (hreq : s.noRequest) (hwanted : s.home.wanted = [])
    (hmode : s.ctl.mode ≠ .quiescing) (s0 : State) (j : Judged) :
    (((s.failed e st rs).freeEntry t).idle).settle s0 j = ((s.failed e st rs).freeEntry t).idle := by
  have hplaces : ((s.failed e st rs).freeEntry t).idle.bus.askers = [] ∨ ((s.failed e st rs).freeEntry t).idle.sqFree = false := by
    refine h.places.imp (fun hask => ?_) fun hfull => hfull
    show s.bus.askers.filter (· != .prt t) = []
    rw [show s.bus.askers = [] from hask]
    rfl
  have hsettled : ((s.failed e st rs).freeEntry t).idle.Settled :=
    ⟨h.conv.congr rfl rfl, hplaces, .inl (nextVictim_nil hwanted), .inl hmode⟩
  exact settle_calm hsettled (hport.congr rfl rfl) (hreq.congr rfl rfl) s0 j

/-- The station once an entry has ended, owes its follower an Abandoned message and has asked for a place for it. -/
def State.abandoned (s : State) (t : ReqTag) (e : PrtEntry) (st : Status) (rs : List FaultRecord) : State :=
  (((s.failed e st rs).setEntry t e.ended).ask (.prt t)).idle

theorem sqFree_idle (hidle : s.bus.medium = .idle) : s.sqFree = decide (s.bus.sq.length < 8) := by
  simp [State.sqFree, sqHeld_of_idle hidle, Config.sqPlaces]

/-- An entry that ends with a follower waits for its SQ place where the SQ is full. -/
theorem settle_abandoned_waits (h : s.idle.Settled) (hport : s.portStays) (hreq : s.noRequest) (hwanted : s.home.wanted = [])
    (hmode : s.ctl.mode ≠ .quiescing) (hfull : 8 ≤ s.bus.sq.length) (s0 : State) (j : Judged) :
    (s.abandoned t e st rs).settle s0 j = s.abandoned t e st rs := by
  have hnot : (s.abandoned t e st rs).sqFree = false := by
    rw [sqFree_idle rfl]
    exact decide_eq_false (Nat.not_lt.mpr hfull)
  have hsettled : (s.abandoned t e st rs).Settled := ⟨h.conv.congr rfl rfl, .inr hnot, .inl (nextVictim_nil hwanted), .inl hmode⟩
  exact settle_calm hsettled (hport.congr rfl rfl) (hreq.congr rfl rfl) s0 j

/-- The place is given in the same event where the SQ has one, and the entry is freed. -/
theorem settle_abandoned_placed {f : Follower} (h : s.idle.Settled) (hport : s.portStays) (hreq : s.noRequest)
    (hwanted : s.home.wanted = []) (hmode : s.ctl.mode ≠ .quiescing) (hf : e.follower = some f) (hroom : s.bus.sq.length < 8)
    (s0 : State) (j : Judged) :
    (s.abandoned t e st rs).settle s0 j =
      { s.failed e st rs with
        engine := (s.freeEntry t).engine
        bus :=
          { (s.freeEntry t).bus with medium := .idle, sq := s.bus.sq ++ [newSqEntry (abandonedFor f e.line) false] } } := by
  have hask : s.bus.askers = [] := by
    refine h.places.resolve_right fun hnot => ?_
    rw [sqFree_idle rfl] at hnot
    exact of_decide_eq_false hnot hroom
  have hasks : (s.abandoned t e st rs).bus.askers = [.prt t] := by
    show s.bus.askers ++ [.prt t] = _
    rw [hask]
    rfl
  have hfree : (s.abandoned t e st rs).sqFree = true := by
    rw [sqFree_idle rfl]
    exact decide_eq_true hroom
  have hnone : (s.freeEntry t).bus.askers = [] := by
    show s.bus.askers.filter (· != .prt t) = []
    rw [hask]
    rfl
  let given : State := { s.abandoned t e st rs with bus.askers := [] }
  have hentry : given.entry t = some e.ended := (entry_setEntry (s := s) t).trans (if_pos rfl)
  have hengine : ((s.setEntry t e.ended).freeEntry t).engine = (s.freeEntry t).engine := congrArg (·.engine) freeEntry_setEntry
  let placed : State :=
    { s.failed e st rs with
      engine := (s.freeEntry t).engine
      bus :=
        { (s.freeEntry t).bus with medium := .idle, sq := s.bus.sq ++ [newSqEntry (abandonedFor f e.line) false] } }
  have hgiven : (s.abandoned t e st rs).giveOne = placed := by
    rw [giveOne_cons hasks hfree, State.giveTo]
    show given.placePrt t = _
    rw [placePrt_abandoned hentry rfl hf, placeAbandoned_finishing rfl]
    exact congr (congrArg (fun engine askers => ({ s.failed e st rs with
      engine := engine
      bus :=
        { (s.freeEntry t).bus with
          medium := .idle, sq := s.bus.sq ++ [newSqEntry (abandonedFor f e.line) false], askers := askers } } : State)) hengine)
      hnone.symm
  have hreq' : (s.abandoned t e st rs).noRequest := hreq.congr rfl rfl
  have hconv : (s.abandoned t e st rs).noConversion := h.conv.congr rfl rfl
  have hplaced : placed.Settled := ⟨hgiven ▸ giveOne_noConversion hconv, .inl hnone, .inl (nextVictim_nil hwanted), .inl hmode⟩
  rw [settle_noRequest hreq', ← followUp_giveOne hconv, hgiven]
  exact followUp_calm hplaced (hport.congr rfl rfl)

theorem applyOwn_prt_cancelled {c : AnswerCode} (he : s.entry t = some e) (hc : c.cancels = true) :
    s.applyOwn (.prt t) c = s.cancelEntry t e := by simp only [State.applyOwn, he, hc, if_true]

/-- R124: an own Return that is cancelled rejoins the tail of the send list. -/
theorem applyOwn_rq_cancelled {c : AnswerCode} {l : LineNo} {q : RqEntry} (hq : s.findRq l = some q) (hc : c.cancels = true) :
    s.applyOwn (.rq l) c = s.enqueue (.rq l) := by simp [State.applyOwn, hq, hc]

/-- R70: below the limit the entry rejoins the tail of the send list, with its count one higher. -/
theorem cancelEntry_retries (h : e.retry < 63) :
    s.cancelEntry t e = (s.setEntry t { e with retry := e.retry + 1 }).enqueue (.prt t) := by
  have hbelow : ¬ 64 ≤ e.retry + 1 := by omega
  simp only [State.cancelEntry, Config.retryLimit, hbelow, if_false]

/-- R70: at the limit it ends. -/
theorem cancelEntry_exhausts (h : 63 ≤ e.retry) (hpin : s.lpu.pinRecall = none) (hlog : s.lpu.log.length < 8) (hout : s.out = noOutput) :
    s.cancelEntry t e =
      (s.failed e .retryExhausted [s.endRecord e .retryExhausted]).abandonOrFree t { e with retry := e.retry + 1 } := by
  have hlimit : 64 ≤ e.retry + 1 := by omega
  have hend := endEntry_eq (t := t) (e := { e with retry := e.retry + 1 }) (st := .retryExhausted)
    (r := s.entryRecord { e with retry := e.retry + 1 } .retryExhausted) hpin hlog hout
  simp only [State.cancelEntry, Config.retryLimit, hlimit, if_true, State.exhaust]
  exact hend

theorem setEntry_idle_settled {e' : PrtEntry} (h : s.idle.Settled) (he : s.entry t = some e) (hkind : e'.kind = e.kind) :
    (s.setEntry t e').idle.Settled := by
  have htag : (s.setEntry t e').idle.freeTag = s.freeTag := freeTag_setEntry he
  have hkinds : (s.setEntry t e').idle.entryKinds = s.idle.entryKinds := entryKinds_setEntry he hkind
  exact ⟨h.conv, h.places, h.victim.imp_right fun hnone => htag.trans hnone,
    h.walk.imp_right fun hstays => walkStays_of_frame (s := s.idle) hstays rfl rfl rfl hkinds (fun _ hl => hl) (fun _ hl => hl)
      (fun hsq => hsq) fun hheld => hheld⟩

end

/-- Settles O41: a peer's window leaves the station as it was; an own entry is counted and queued again, or ends; an own Return is queued
again. -/
theorem cancelledWindowOutcomes : Obligations.CancelledWindowOutcomes := by
  unfold Obligations.CancelledWindowOutcomes
  refine ⟨fun s driven w n r hopen hown hmsg hr hc hheld hstill => ?peer,
    fun s driven w n r t e hopen hown hmsg hr he hretry hc hheld hstill => ?retried,
    fun s driven w n r t e hopen hown hmsg hr he hretry hc hheld hlog hwanted hstill hmode => ?ended,
    fun s driven w n r l q hopen hown hmsg hr hq hc hheld hstill => ?returned⟩
  case peer =>
    obtain ⟨hsettled, hport⟩ := settled_of_still hstill
    have hreq := noRequest_of_still hstill
    rw [exec_answerWindowClose hopen hmsg hr rfl, closeWindow_cancelled hown hmsg (cancels_iff.mpr hc) (noneHeld_of (s := s.begin) hheld)]
    exact congrArg Host.Outcome.next (settle_calm hsettled.begin hport hreq _ _)
  case retried =>
    obtain ⟨hsettled, hport⟩ := settled_of_still hstill
    have hreq := noRequest_of_still hstill
    have hkept : ((s.begin.setEntry t { e with retry := e.retry + 1 }).enqueue (.prt t)).NoneHeld :=
      (noneHeld_of (s := s.begin) hheld).setEntry (noneHeld_of hheld t e he)
    rw [exec_close_own hopen hown hmsg hr rfl (applyOwn_prt_cancelled (s := s.begin) he (cancels_iff.mpr hc)) (cancelEntry_retries hretry ▸ hkept),
      cancelEntry_retries hretry]
    have hset := setEntry_idle_settled (s := s) (e' := { e with retry := e.retry + 1 }) hsettled he rfl
    have hnext : (((s.begin.setEntry t { e with retry := e.retry + 1 }).enqueue (.prt t)).idle).Settled :=
      ⟨hset.conv, hset.places, hset.victim, hset.walk⟩
    exact congrArg Host.Outcome.next (settle_calm hnext hport hreq _ _)
  case ended =>
    obtain ⟨hsettled, hport⟩ := settled_of_still hstill
    have hreq := noRequest_of_still hstill
    obtain ⟨_, _, _, hpin⟩ := still_iff.mp hstill
    let x : PrtEntry := { e with retry := e.retry + 1 }
    have hcancel := (applyOwn_prt_cancelled (s := s.begin) he (cancels_iff.mpr hc)).trans
      (cancelEntry_exhausts (s := s.begin) hretry hpin hlog rfl)
    rw [failed_begin] at hcancel
    have hnone : (s.failed e .retryExhausted [s.endRecord e .retryExhausted]).NoneHeld := noneHeld_of (s := s) hheld
    refine ⟨fun hf => ?_, fun f hf => ?_⟩
    · rw [abandonOrFree_none (e := x) hf] at hcancel
      rw [exec_close_own hopen hown hmsg hr rfl hcancel (hnone.freeEntry t),
        settle_failed_freed hsettled (hport.congr rfl rfl) (hreq.congr rfl rfl) hwanted hmode]
      rfl
    · rw [abandonOrFree_some (e := x) hf] at hcancel
      rw [exec_close_own hopen hown hmsg hr rfl hcancel (hnone.setEntry rfl)]
      refine ⟨fun hroom => ?_, fun hfull => ?_⟩
      · exact congrArg Host.Outcome.next
          (settle_abandoned_placed (s := s) (e := x) hsettled (hport.congr rfl rfl) (hreq.congr rfl rfl) hwanted hmode hf hroom _ _)
      · exact congrArg Host.Outcome.next
          (settle_abandoned_waits (s := s) (e := x) hsettled (hport.congr rfl rfl) (hreq.congr rfl rfl) hwanted hmode hfull _ _)
  case returned =>
    obtain ⟨hsettled, hport⟩ := settled_of_still hstill
    have hreq := noRequest_of_still hstill
    have hnext : (s.begin.enqueue (.rq l)).idle.Settled := ⟨hsettled.conv, hsettled.places, hsettled.victim, hsettled.walk⟩
    rw [exec_close_own (x := s.begin.enqueue (.rq l)) hopen hown hmsg hr rfl (applyOwn_rq_cancelled (s := s.begin) hq (cancels_iff.mpr hc))
      (noneHeld_of (s := s.begin) hheld)]
    exact congrArg Host.Outcome.next (settle_calm hnext hport hreq _ _)

end Sys2Proof.Machine
end

section
/-!
PROOF. What a station that is not the home applies at the close of a peer's request (R31, R32, R34, R46, R54, R76 to R78, R83, R126).
-/

namespace Sys2Proof.Machine

/-! ### A new entry of the SQ -/

/-- A message that is placed in the SQ waits for no conversion. -/
theorem State.noConversion.snoc {s x : State} {m : DataMsg} {f : Bool} (h : s.noConversion) (hsq : x.bus.sq = s.bus.sq ++ [newSqEntry m f])
    (hret : x.ret = s.ret) : x.noConversion := by
  refine h.imp (fun hall => ?_) fun hfull => ?_
  · rw [hsq]
    intro q hq
    rcases List.mem_append.mp hq with hq | hq
    · exact hall q hq
    · rw [List.mem_singleton.mp hq]
      rfl
  · simpa [State.rqFree, hret] using hfull

/-- A place that has been taken is free for no asker. -/
theorem places_of_longer {s x : State} (h : s.bus.askers = [] ∨ s.sqFree = false) (hidle : x.bus.medium = .idle)
    (hask : x.bus.askers = s.bus.askers) (hsq : s.bus.sq.length + s.sqHeld ≤ x.bus.sq.length) : x.bus.askers = [] ∨ x.sqFree = false := by
  refine h.imp (fun h => hask.trans h) fun hfull => ?_
  have hlong : ¬ s.bus.sq.length + s.sqHeld < 8 := fun hroom => by simp [(sqFree_iff s).mpr hroom] at hfull
  rw [sqFree_idle hidle, decide_eq_false_iff_not]
  omega

/-! ### The changes of the blocks -/

/-- The way of a held line once a recorded change is applied to it (R31). -/
def State.wayChanged (s : State) (l : LineNo) (v : WayNo) (x : LineData) : CacheChange → State
  | .none => s
  | .toCopy => s.setWay l v (.holding l .copy x)
  | .toVacant => s.setWay l v .empty

section
variable {s : State} {rec : Recorded} {k : LineKind} {n : StationNo} {t u : ReqTag} {g : Gen} {l : LineNo} {c : AnswerCode}

theorem supplyMsg_eq (d : LineData) : supplyMsg k n t g l d =
    { dest := n, tag := t, gen := g, line := l, grant := if k = .fetch then .copy else if k = .claim then .sole else .none
      homeTake := k == .fetch, status := .good, data := some d } := by
  cases k <;> rfl

theorem closeCache_held {v : WayNo} {st : LineState} {x : LineData} (h : s.held l = some (v, st, x)) :
    s.closeCache rec k n t g l = (if rec.supply then s.addSq (supplyMsg k n t g l x) true else s).wayChanged l v x rec.cache := by
  simp only [State.closeCache, h]
  cases rec.cache <;> rfl

/-- R31, R34, R54: a held line's way changes as recorded, and a held place becomes an SQ entry with its bytes. -/
theorem closeCache_eq {v : WayNo} {st : LineState} {x : LineData} (h : s.held l = some (v, st, x)) :
    s.closeCache rec k n t g l =
      { s with
        cache := (s.wayChanged l v x rec.cache).cache
        bus.sq := s.bus.sq ++ if rec.supply then [newSqEntry (supplyMsg k n t g l x) true] else [] } := by
  rw [closeCache_held h]
  cases rec.supply <;> cases rec.cache <;> simp [State.wayChanged, State.addSq, State.setWay, State.setOf, newSqEntry]

theorem closeCache_nothing (hcache : rec.cache = .none) (hsupply : rec.supply = false) : s.closeCache rec k n t g l = s := by
  cases h : s.held l with
  | none => simp [State.closeCache, h]
  | some y =>
    obtain ⟨v, st, x⟩ := y
    simp [closeCache_held h, hcache, hsupply, State.wayChanged]

theorem closeTakeover_nothing (h : rec.takeover = false) : s.closeTakeover rec k n t g l = s := by simp [State.closeTakeover, h]

theorem closeEngine_nothing (h : rec.engine = .none) : s.closeEngine rec c k n t g = s := by simp [State.closeEngine, h]

theorem closeTakeover_taken {q : RqEntry} (h : rec.takeover = true) (hq : s.findRq l = some q) :
    s.closeTakeover rec k n t g l = (s.addSq (supplyMsg k n t g l q.data) true).removeRq l := by
  simp only [State.closeTakeover, h, if_true, hq]

theorem applyPeer_line (hhome : rec.home = false) :
    s.applyPeer n (.line k t g l) rec c = ((s.closeCache rec k n t g l).closeTakeover rec k n t g l).closeEngine rec c k n t g := by
  simp [State.applyPeer, hhome]

theorem changeEntry_used {e : PrtEntry} (f : PrtEntry → PrtEntry) (he : s.entry t = some e) : s.changeEntry t f = s.setEntry t (f e) := by
  simp only [State.changeEntry, he]

/-- R77: a Promote becomes a Claim, its way reserved for it. -/
theorem convertPromote_way {e : PrtEntry} {v : WayNo} (he : s.entry t = some e) (hline : e.line = l) (hway : e.way = some v) :
    s.convertPromote t = (s.setEntry t { e with kind := .claim }).setWay l v (.reserved l) := by
  simp only [State.convertPromote, he, hway, hline]

/-- R78, R83: a follower is recorded at a close of Follow alone. -/
theorem closeEngine_follow {e : PrtEntry} (hrec : rec.engine = .follow u) (he : s.entry u = some e) :
    s.closeEngine rec c k n t g =
      if c = .follow then
        s.setEntry u
          { e with
            follower := some
              { station := n, tag := t, gen := g
                kind := if k = .fetch then .fetch else if k = .recall then .recall else .claim } }
      else s := by
  have hkind : k.follower = if k = .fetch then .fetch else if k = .recall then .recall else .claim := by cases k <;> rfl
  simp only [State.closeEngine, hrec, changeEntry_used _ he, hkind]

/-- R124, R126: the waiting flushes of an RQ entry answered in list order. -/
theorem answerFlushes_eq (ts : List PTag) :
    s.answerFlushes ts =
      { s with
        lpu.tags := s.tagsWithoutAll ts
        out := { s.out with responses := s.out.responses ++ ts.map fun t => { tag := t, status := .ok, payload := .none } } } := by
  induction ts generalizing s with
  | nil => simp [State.answerFlushes, State.tagsWithoutAll]
  | cons u ts ih =>
    have step : s.answerFlushes (u :: ts) = (s.answer u .ok .none).answerFlushes ts := rfl
    rw [step, ih]
    simp [State.answer, State.reply, State.freeProcessorTag, State.tagsWithoutAll]

/-- R124, R126: the RQ entry of a line leaves, its flushes answered. -/
theorem removeRq_eq {q : RqEntry} (hq : s.findRq l = some q) (hout : s.out = noOutput) :
    s.removeRq l =
      { s with
        lpu.tags := s.tagsWithoutAll q.flushes
        ret.rq := s.ret.rq.filter fun e => e.line != l
        bus.sendList := s.bus.sendList.filter (· != .rq l)
        out := allOk q.flushes } := by
  have hall : ({ noOutput with
      responses := noOutput.responses ++ q.flushes.map fun t => { tag := t, status := .ok, payload := .none } } : Outputs) =
      allOk q.flushes := rfl
  simp only [State.removeRq, hq]
  rw [answerFlushes_eq]
  simp only [State.dequeue, hout, hall]
  rfl

end

/-! ### What follows a takeover -/

theorem begin_eq_withOut (s : State) : s.begin = s.withOut noOutput := rfl

theorem withOut_withOut (s : State) (o p : Outputs) : { s.withOut o with out := p } = s.withOut p := rfl

theorem followUp_begin (s : State) : s.followUp = { s.begin.followUp with out := s.out } := by
  have hself : s.withOut s.out = s := rfl
  have houts := followUp_withOut s s.out
  rw [hself] at houts
  rw [begin_eq_withOut, followUp_withOut, withOut_withOut]
  exact houts

/-- Where a conversion waits, what follows is what the row CONVERSION_TO_RETURN does, but for what the command has given out. -/
theorem settle_eq_conversion {s : State} (h : s.noRequest) (s0 : State) (j : Judged) :
    ∃ v, exec .conversionToReturn s = .next v ∧ s.settle s0 j = { v with out := s.out } := by
  have hreq : s.begin.convertOne.noRequest := h.congr (convertOne_lrq _) (convertOne_head _)
  refine ⟨s.begin.convertOne.settle s.begin .byChange, rfl, ?_⟩
  rw [settle_noRequest h, settle_noRequest hreq, followUp_convertOne]
  exact followUp_begin s

/-- Settles O25: by what the station recorded: a way's change with or without a supply, a takeover, a change of its PRT entry. -/
theorem peerRequestAppliedAtClose : Obligations.PeerRequestAppliedAtClose := by
  unfold Obligations.PeerRequestAppliedAtClose
  intro s driven w n k t g l hopen hown hmsg hvoid hagain hheld hstill hmode
  obtain ⟨hsettled, hport⟩ := settled_of_still hstill
  have hreq := noRequest_of_still hstill
  have hnone : s.begin.NoneHeld := noneHeld_of (s := s) hheld
  have hgood := cancels_eq_false hvoid hagain
  have hbegin : s.begin.idle.Settled := hsettled.begin
  have hmarked : ∀ {u e e'}, s.entry u = some e → e'.kind = e.kind → e'.expiryHeld = e.expiryHeld →
      s.begin.applyPeer n (.line k t g l) w.record (combine driven w.drives) = s.begin.setEntry u e' →
      exec (.answerWindowClose driven) s = .next { s with engine := (s.setEntry u e').engine, bus.medium := .idle, out := noOutput } :=
    fun he hkind hexp happly => by
      rw [exec_close_peer hopen hown hmsg rfl rfl hgood happly (hnone.setEntry (hexp.trans (hnone _ _ he))),
        settle_calm (setEntry_idle_settled (s := s.begin) hbegin he hkind) hport hreq]
      rfl
  refine ⟨fun v st x ch sup hl hrec => ?cache, fun q hq hrec taken htaken => ?takeover, fun u e he => ⟨fun hrec => ?downgrade,
    fun hrec => ?drop, fun v x hline hway hl hrec => ?convert, fun hrec => ?follow⟩⟩
  case cache =>
    let y : State :=
      { s.begin with
        cache := (s.begin.wayChanged l v x ch).cache
        bus.sq := s.bus.sq ++ if sup then [newSqEntry (supplyMsg k n t g l x) true] else [] }
    have happly : s.begin.applyPeer n (.line k t g l) w.record (combine driven w.drives) = y := by
      rw [hrec, applyPeer_line rfl, closeEngine_nothing rfl, closeTakeover_nothing rfl, closeCache_eq (s := s.begin) hl]
      rfl
    have hconv : y.idle.noConversion := by
      cases sup with
      | false => exact hsettled.conv.congr (List.append_nil _) rfl
      | true => exact hsettled.conv.snoc rfl rfl
    have hlen : s.bus.sq.length ≤ y.idle.bus.sq.length := by
      show s.bus.sq.length ≤ (s.bus.sq ++ _).length
      simp
    have hnext : y.idle.Settled := ⟨hconv, places_of_longer hsettled.places rfl rfl hlen, hsettled.victim, .inl hmode⟩
    rw [exec_close_peer hopen hown hmsg rfl rfl hgood happly hnone, settle_calm hnext hport hreq]
    simp only [y, supplyMsg_eq]
    cases ch <;> rfl
  case takeover =>
    have happly : s.begin.applyPeer n (.line k t g l) w.record (combine driven w.drives) = { taken with bus.medium := s.bus.medium } := by
      rw [hrec, applyPeer_line rfl, closeEngine_nothing rfl, closeCache_nothing rfl rfl, closeTakeover_taken (s := s.begin) rfl hq,
        removeRq_eq (s := s.begin.addSq (supplyMsg k n t g l q.data) true) hq rfl, supplyMsg_eq, htaken]
      rfl
    have hidle : ({ taken with bus.medium := s.bus.medium } : State).idle = taken := by
      rw [htaken]
      rfl
    have hexec : exec (.answerWindowClose driven) s = .next (taken.settle s.begin .all) := by
      rw [exec_close_peer hopen hown hmsg rfl rfl hgood happly (htaken ▸ hnone), hidle]
    have hreq' : taken.noRequest := htaken ▸ hreq
    refine ⟨fun hall => ?_, fun _ => ?_⟩
    · have hsq : taken.bus.sq = s.bus.sq ++ [newSqEntry (supplyMsg k n t g l q.data) true] := by rw [htaken, supplyMsg_eq]
      have hlen : s.bus.sq.length ≤ taken.bus.sq.length := by simp [hsq]
      have hconv : taken.noConversion := by
        left
        rw [hsq]
        intro y hy
        rcases List.mem_append.mp hy with hy | hy
        · exact hall y hy
        · rw [List.mem_singleton.mp hy]
          rfl
      have hplaces : taken.bus.askers = [] ∨ taken.sqFree = false :=
        places_of_longer hsettled.places (by rw [htaken]) (by rw [htaken]) hlen
      have hnext : taken.Settled := ⟨hconv, hplaces, by rw [htaken]; exact hsettled.victim, .inl (by rw [htaken]; exact hmode)⟩
      rw [hexec, settle_calm hnext (htaken ▸ hport) hreq']
    · obtain ⟨v, hv, hout⟩ := settle_eq_conversion hreq' s.begin .all
      exact ⟨v, hv, by rw [hexec, hout]⟩
  case downgrade =>
    have happly : s.begin.applyPeer n (.line k t g l) w.record (combine driven w.drives) = s.begin.setEntry u { e with downgrade := true } := by
      rw [hrec, applyPeer_line rfl, closeCache_nothing rfl rfl, closeTakeover_nothing rfl]
      exact changeEntry_used (s := s.begin) _ he
    exact hmarked he rfl rfl happly
  case drop =>
    have happly : s.begin.applyPeer n (.line k t g l) w.record (combine driven w.drives) =
        s.begin.setEntry u { e with dropAfterUse := true } := by
      rw [hrec, applyPeer_line rfl, closeCache_nothing rfl rfl, closeTakeover_nothing rfl]
      exact changeEntry_used (s := s.begin) _ he
    exact hmarked he rfl rfl happly
  case convert =>
    have happly : s.begin.applyPeer n (.line k t g l) w.record (combine driven w.drives) =
        ((s.begin.setWay l v .empty).setEntry u { e with kind := .claim }).setWay l v (.reserved l) := by
      rw [hrec, applyPeer_line rfl, closeCache_held (s := s.begin) hl, closeTakeover_nothing rfl]
      exact convertPromote_way (s := s.begin.setWay l v .empty) he hline hway
    have hcache : (((s.begin.setWay l v .empty).setEntry u { e with kind := .claim }).setWay l v (.reserved l)).cache =
        (s.setWay l v (.reserved l)).cache := congrArg (·.cache) (setWay_setWay s l v .empty (.reserved l))
    have hnext : (((s.begin.setWay l v .empty).setEntry u { e with kind := .claim }).setWay l v (.reserved l)).idle.Settled :=
      ⟨hsettled.conv, hsettled.places, hsettled.victim.imp_right fun htag => (freeTag_setEntry he).trans htag, .inl hmode⟩
    rw [exec_close_peer hopen hown hmsg rfl rfl hgood happly (hnone.setEntry (hnone u e he)), settle_calm hnext hport hreq, ← hcache]
    rfl
  case follow =>
    let e' : PrtEntry :=
      { e with
        follower := some
          { station := n, tag := t, gen := g, kind := if k = .fetch then .fetch else if k = .recall then .recall else .claim } }
    have happly : s.begin.applyPeer n (.line k t g l) w.record (combine driven w.drives) =
        if combine driven w.drives = .follow then s.begin.setEntry u e' else s.begin := by
      rw [hrec, applyPeer_line rfl, closeCache_nothing rfl rfl, closeTakeover_nothing rfl]
      exact closeEngine_follow (s := s.begin) rfl he
    by_cases hfollow : combine driven w.drives = .follow
    · rw [if_pos hfollow] at happly ⊢
      exact hmarked he rfl rfl happly
    · rw [if_neg hfollow] at happly ⊢
      rw [exec_close_peer hopen hown hmsg rfl rfl hgood happly hnone, settle_calm hbegin hport hreq]
      rfl

end Sys2Proof.Machine
end

section
/-!
PROOF. What the home that judged Clear does at the close of a peer's request (R46, R101, R102, R104, R108).
-/

namespace Sys2Proof.Machine

/-! ### The line's set (R96, R101, R108) -/

section
variable {s x : State} {l k : LineNo} {c : ExportClass}

theorem createOrSet_eq : s.createOrSet l c = s.setExportSet l (s.exportSetAs l c none) := by
  unfold State.createOrSet State.exportSetAs
  cases h : s.findExport l <;> simp [State.changeExport]

/-- No entry of the set is the line's. -/
theorem findExport_eq_none_iff : s.findExport l = none ↔ ∀ y ∈ s.exportSet l, y.line ≠ l := by
  simp [State.findExport]

/-- R101, R108: the entry is created or set, and its flag set, in one step. -/
theorem setAwaiting_createOrSet :
    (s.createOrSet l c).setAwaiting l = s.setExportSet l (s.exportSetAs l c (some s.ctl.start.dataTimeout)) := by
  have hset : ((s.exportSetAs l c none).map fun y => if y.line = l then { y with awaiting := some s.ctl.start.dataTimeout } else y) =
      s.exportSetAs l c (some s.ctl.start.dataTimeout) := by
    unfold State.exportSetAs
    split
    case isTrue h =>
      have hother : (s.exportSet l).map (fun y => if y.line = l then { y with awaiting := some s.ctl.start.dataTimeout } else y) =
          s.exportSet l :=
        List.map_congr_left (g := id) (fun y hy => if_neg (findExport_eq_none_iff.mp h y hy)) |>.trans (List.map_id _)
      rw [List.map_append, hother]
      simp
    case isFalse =>
      rw [List.map_map]
      refine List.map_congr_left fun y _ => ?_
      by_cases hy : y.line = l <;> simp [hy]
  rw [createOrSet_eq, State.setAwaiting, State.changeExport, exportSet_setExportSet, if_pos rfl]
  show State.setExportSet _ l _ = _
  rw [setExportSet_ctl, hset]
  unfold State.setExportSet
  dsimp only
  rw [put_put]

/-- The entry of another line is found where it was. -/
theorem find_exportSetAs {timeout : Option (BitVec 11)} (hk : k ≠ l) :
    (s.exportSetAs l c timeout).find? (fun y => y.line == k) = (s.exportSet l).find? fun y => y.line == k := by
  unfold State.exportSetAs
  split
  case isTrue => simp [List.find?_append, hk.symm]
  case isFalse => exact find_changed_other (f := fun y => { y with cls := c, awaiting := timeout.or y.awaiting }) (fun _ => rfl) hk _

theorem find_removed (hk : k ≠ l) (es : List ExportEntry) :
    (es.filter fun y => y.line != l).find? (fun y => y.line == k) = es.find? fun y => y.line == k := by
  rw [List.find?_filter]
  refine congrArg (fun p => es.find? p) (funext fun y => ?_)
  by_cases hy : y.line = k
  · simp [hy, hk]
  · simp [hy]

theorem findExport_setExportSet {es : List ExportEntry}
    (hes : es.find? (fun y => y.line == k) = (s.exportSet l).find? fun y => y.line == k) :
    (s.setExportSet l es).findExport k = s.findExport k := by
  unfold State.findExport
  rw [exportSet_setExportSet]
  split
  case isTrue hidx => rw [hes, exportSet_congr s hidx]
  case isFalse => rfl

/-- A victim recall can be made of no line but of those it could be made of, where the entries of the wanted lines are as they were. -/
theorem nextVictim_none_of_frame (h : s.nextVictim = none) (hwanted : ∀ k ∈ x.home.wanted, k ∈ s.home.wanted)
    (hfind : ∀ k ∈ x.home.wanted, x.findExport k = s.findExport k) : x.nextVictim = none := by
  rw [nextVictim_eq_none_iff] at h ⊢
  intro k hk y hy
  exact h k (hwanted k hk) y ((hfind k hk).symm.trans hy)

end

/-! ### The home at the close -/

/-- The home once a close has left a line's set as `es` and the wanted list as given, and work on the line has joined the tail of the HWQ. -/
def State.homeClosed (s : State) (l : LineNo) (es : List ExportEntry) (wanted : List LineNo) (work : List HwqWork) : State :=
  { s with
    home :=
      { s.home with
        exports := put s.home.exports (exportIndex l) es
        wanted := wanted
        hwq := s.home.hwq ++ work.map fun w => { addr := s.memAddr l 0, work := w } } }

section
variable {s : State} {l : LineNo} {es : List ExportEntry} {wanted : List LineNo} {work : List HwqWork}

theorem homeClosed_settled (h : s.idle.Settled) (hvictim : (s.homeClosed l es wanted work).nextVictim = none ∨ s.freeTag = none) :
    (s.homeClosed l es wanted work).idle.Settled :=
  ⟨h.conv, h.places, hvictim, h.walk⟩

/-- R104: an idle memory port begins the work that has joined. -/
theorem startPort_homeClosed (h : s.portStays) :
    (s.homeClosed l es wanted work).idle.startPort =
      { (s.homeClosed l es wanted work).idle with home.port := if s.home.port = .idle ∧ work ≠ [] then .busy else s.home.port } := by
  rw [startPort_of_joined (s := s) (x := (s.homeClosed l es wanted work).idle) h rfl rfl]
  simp only [ne_eq, List.map_eq_nil_iff]

theorem addLineWork_homeClosed {w : HwqWork} (hw : w.line = l) :
    s.addLineWork w = s.homeClosed l (s.exportSet l) s.home.wanted [w] := by
  unfold State.homeClosed
  rw [setExportSet_self, ← hw]
  rfl

theorem createOrSet_homeClosed {cls : ExportClass} :
    s.createOrSet l cls = s.homeClosed l (s.exportSetAs l cls none) s.home.wanted [] := by
  rw [createOrSet_eq]
  simp [State.homeClosed, State.setExportSet]

theorem createOrSet_addLineWork {cls : ExportClass} {w : HwqWork} (hw : w.line = l) :
    (s.createOrSet l cls).addLineWork w = s.homeClosed l (s.exportSetAs l cls none) s.home.wanted [w] := by
  rw [createOrSet_eq, ← hw]
  rfl

theorem setAwaiting_homeClosed {cls : ExportClass} :
    (s.createOrSet l cls).setAwaiting l = s.homeClosed l (s.exportSetAs l cls (some s.ctl.start.dataTimeout)) s.home.wanted [] := by
  rw [setAwaiting_createOrSet]
  simp [State.homeClosed, State.setExportSet]

/-! ### What a Return does to the line's entry (R102) -/

theorem returnSettles_stays (h : s.findExport l = none ∨ ∃ x, s.findExport l = some x ∧ x.state = .inFlight) : s.returnSettles l = s := by
  unfold State.returnSettles
  rcases h with h | ⟨x, h, hx⟩
  · simp [h]
  · simp [h, hx]

theorem returnSettles_sole {x : ExportEntry} (h : s.findExport l = some x) (hcls : x.cls = .soleOut) (hx : x.state ≠ .inFlight) :
    s.returnSettles l = s.removeExport l := by
  unfold State.returnSettles
  cases hstate : x.state <;> simp_all

theorem returnSettles_shared {x : ExportEntry} (h : s.findExport l = some x) (hcls : x.cls = .sharedOut) (hx : x.state ≠ .inFlight) :
    s.returnSettles l = s.clearAwaiting l := by
  unfold State.returnSettles
  cases hstate : x.state <;> simp_all

variable {w : Window} {n : StationNo} {r : Request} {c : AnswerCode} {driven : Table (BitVec 3) 4}

theorem applyPeer_home {rec : Recorded} (h : rec = { Recorded.nothing with home := true, homeHold := rec.homeHold }) :
    s.applyPeer n r rec c = s.homeChange n r c := by
  rw [h]
  cases r with
  | line k t g l =>
    simp only [State.applyPeer, if_true]
    rw [closeEngine_nothing rfl, closeTakeover_nothing rfl, closeCache_nothing rfl rfl]
  | giveBack l d => rfl
  | directRead t g l off len => rfl
  | directWrite t g l mask bytes => rfl
  | announce f cs => rfl
  | ready v => rfl

/-- The close of a window whose request the home judged Clear, by what the home's change comes to. -/
theorem exec_home_close (hopen : s.bus.medium = .answering w) (hown : w.own = none) (hmsg : w.msg = some (n, r)) (hr : r.enrolment = false)
    (hrec : w.record = { Recorded.nothing with home := true, homeHold := w.record.homeHold }) (hc : combine driven w.drives = c)
    (hgood : c.cancels = false) (hheld : s.noHeldExpiry = true) (hstill : s.idle.still = true)
    (hchange : s.begin.homeChange n r c = s.begin.homeClosed l es wanted work)
    (hvictim : (s.homeClosed l es wanted work).nextVictim = none ∨ s.freeTag = none) :
    exec (.answerWindowClose driven) s = .next { s.afterHomeClose l es work with home.wanted := wanted } := by
  obtain ⟨hsettled, hport⟩ := settled_of_still hstill
  have hreq : (s.begin.homeClosed l es wanted work).idle.noRequest := (noRequest_of_still hstill).congr rfl rfl
  have hnone : (s.begin.homeClosed l es wanted work).NoneHeld := noneHeld_of (s := s) hheld
  have hnext : (s.begin.homeClosed l es wanted work).idle.Settled :=
    homeClosed_settled (s := s.begin) hsettled.begin hvictim
  have hport' : s.begin.portStays := hport.congr rfl rfl
  rw [exec_close_peer hopen hown hmsg hr hc hgood ((applyPeer_home hrec).trans hchange) hnone, settle_noRequest hreq, followUp_settled hnext,
    startPort_homeClosed hport']
  rfl

end

/-- Settles O44: by the request, and for a Return by the line's entry. -/
theorem homeAppliesAtClose : Obligations.HomeAppliesAtClose := by
  unfold Obligations.HomeAppliesAtClose
  intro s driven w n r l c hopen hown hmsg hrec hc hvoid hagain hheld hstill
  have hgood : c.cancels = false := cancels_eq_false hvoid hagain
  obtain ⟨_, _, hvictim, _⟩ := (settled_of_still hstill).1
  have hclose : ∀ {es wanted work}, r.enrolment = false → s.begin.homeChange n r c = s.begin.homeClosed l es wanted work →
      ((s.homeClosed l es wanted work).nextVictim = none ∨ s.freeTag = none) →
      exec (.answerWindowClose driven) s = .next { s.afterHomeClose l es work with home.wanted := wanted } :=
    fun hr hchange hv => exec_home_close hopen hown hmsg hr hrec hc hgood hheld hstill hchange hv
  have hkept : ∀ {work}, (s.homeClosed l (s.exportSet l) s.home.wanted work).nextVictim = none ∨ s.freeTag = none := fun {work} =>
    hvictim.imp_left fun h => nextVictim_none_of_frame (s := s) h (fun _ hk => hk) fun k _ =>
      findExport_setExportSet (s := s) (l := l) (es := s.exportSet l) rfl
  refine ⟨fun d hr => ⟨fun hstays => ?stays, fun x hx hcls hstate => ?sole, fun x hx hcls hstate hw => ?shared⟩,
    fun t g hl => ⟨fun hr => ⟨?_, ?_, ?_⟩, fun hr => ⟨?_, ?_⟩, fun hr => ?_⟩, fun t g off len hr => ?read, fun t g mask bs hr => ?write⟩
  case stays =>
    subst hr
    refine hclose rfl ((returnSettles_stays (s := s.begin.addLineWork (.returnWrite l n d)) hstays).trans ?_) hkept
    exact addLineWork_homeClosed (s := s.begin) rfl
  case sole =>
    subst hr
    refine hclose rfl (returnSettles_sole (s := s.begin.addLineWork (.returnWrite l n d)) hx hcls hstate) ?_
    refine hvictim.imp_left fun h => nextVictim_none_of_frame (s := s) h (fun k hk => (List.mem_filter.mp hk).1) fun k hk => ?_
    have hk : k ≠ l := by simpa using (List.mem_filter.mp hk).2
    exact findExport_setExportSet (s := s) (find_removed hk _)
  case shared =>
    subst hr
    refine hclose rfl (returnSettles_shared (s := s.begin.addLineWork (.returnWrite l n d)) hx hcls hstate) ?_
    exact hw.imp_left fun h => nextVictim_nil h
  case read =>
    subst hr
    exact hclose rfl (addLineWork_homeClosed (s := s.begin) rfl) hkept
  case write =>
    subst hr
    exact hclose rfl (addLineWork_homeClosed (s := s.begin) rfl) hkept
  all_goals
    subst hr
    have hset : ∀ {cls timeout work}, (s.homeClosed l (s.exportSetAs l cls timeout) s.home.wanted work).nextVictim = none ∨ s.freeTag = none :=
      fun {cls timeout work} => hvictim.imp_left fun h => nextVictim_none_of_frame (s := s) h (fun _ hk => hk) fun k hk =>
        findExport_setExportSet (s := s) (l := l) (find_exportSetAs fun hkl => hl (hkl ▸ hk))
  · rintro rfl
    exact hclose rfl (createOrSet_addLineWork (s := s.begin) rfl) hset
  · rintro rfl
    exact hclose rfl (createOrSet_addLineWork (s := s.begin) rfl) hset
  · rintro (rfl | rfl) <;> exact hclose rfl (setAwaiting_homeClosed (s := s.begin)) hset
  · rintro (rfl | rfl) <;> exact hclose rfl (createOrSet_addLineWork (s := s.begin) rfl) hset
  · rintro (rfl | rfl) <;> exact hclose rfl (createOrSet_homeClosed (s := s.begin)) hset
  · exact hclose rfl (createOrSet_homeClosed (s := s.begin)) hset

end Sys2Proof.Machine
end

section
/-!
PROOF. What a station does with a sound data message (R49, R50, R61, R71 to R73, R86, R87, R89, R92 to R94, R109, R116).
-/

namespace Sys2Proof.Machine

/-! ### The two parts of a data message (R49, R50, R93) -/

section
variable {s u v : State} {bytes : List Byte} {n : StationNo} {m : DataMsg} {d h : Option AckCode}

/-- R48: the two parts in their order, and what follows in the same event. -/
theorem exec_memberData (hmember : s.ctl.mode.member = true) (hidle : s.bus.medium = .idle) (hparse : parseData bytes = some (n, m))
    (hdest : s.begin.destPart n m = (d, u)) (hhome : u.homePart n m = (h, v)) :
    exec (.dataMessageArrival bytes) s =
      .next ((v.openAck false m.homeTake d h).settle s.begin { remote := m.dest == s.number, home := false }) := by
  rw [exec_dataArrival_peer (member_ne_parked hmember) hidle, hparse, peerData_member (s := s.begin) hmember]
  simp only [State.memberData, hdest, hhome]
  rfl

theorem destPart_here (h : m.dest = s.number) : s.destPart n m = (some (s.destinationTakes n m).1, (s.destinationTakes n m).2) := by
  simp [State.destPart, h]

theorem destPart_elsewhere (h : m.dest ≠ s.number) : s.destPart n m = (none, s) := by simp [State.destPart, h]

/-- A message that carries no home-take for this station says nothing to the home but that an Abandoned one clears a flag. -/
theorem homePart_noTake (h : m.homeTake = false ∨ s.homesLine m.line = false) : s.homePart n m = (none, s.abandonedAtHome m) := by
  rcases h with h | h <;> simp [State.homePart, h]

theorem homePart_take (h : m.homeTake = true) (hl : s.homesLine m.line = true) :
    s.homePart n m = (some (s.homeTakes n m).1, (s.homeTakes n m).2) := by
  simp [State.homePart, h, hl]

theorem abandonedAtHome_other (h : ¬(m.status = .abandoned ∧ s.homesLine m.line = true)) : s.abandonedAtHome m = s := if_neg h

theorem abandonedAtHome_clears (h : m.status = .abandoned ∧ s.homesLine m.line = true) :
    s.abandonedAtHome m = s.clearAwaiting m.line := if_pos h

/-- R49, R92: no entry of this station expects the message. -/
def State.unexpected (s : State) (n : StationNo) (m : DataMsg) : Prop :=
  s.ctl.enrolled.has n = false ∨
    ∀ e, s.entry m.tag = some e → ¬((look s.engine.prt m.tag).gen = m.gen ∧ e.line = m.line ∧
      (e.phase = .awaitingData ∨ (e.phase = .finishing ∧ (e.owes = .handOff ∨ m.status = .abandoned))))

theorem destinationTakes_stray (h : s.unexpected n m) :
    s.destinationTakes n m = (.stale, s.addFault (strayRecord m.line n)) := by
  unfold State.destinationTakes
  dsimp only
  by_cases hn : s.ctl.enrolled.has n = false
  · rw [if_pos hn]
  · rw [if_neg hn]
    have hnot := h.resolve_left hn
    split
    · rfl
    case h_2 e he =>
      have hne := hnot e he
      split
      case isFalse => rfl
      case isTrue hmatch =>
        cases hphase : e.phase with
        | awaitingData => exact absurd ⟨hmatch.1, hmatch.2, .inl hphase⟩ hne
        | queued => rfl
        | finishing =>
          have hdup : e.duplicate m = false := by
            rw [duplicate_eq_false]
            exact not_or.mp fun hor => hne ⟨hmatch.1, hmatch.2, .inr ⟨hphase, hor⟩⟩
          simp [hdup]

/-- R49, R116: a message for an entry in AwaitingData is taken, or refused. -/
theorem destinationTakes_awaited {e : PrtEntry} (hn : s.ctl.enrolled.has n = true) (he : s.entry m.tag = some e)
    (hgen : (look s.engine.prt m.tag).gen = m.gen) (hline : e.line = m.line) (hphase : e.phase = .awaitingData) :
    s.destinationTakes n m = if s.refusesData e m then (.refused, s) else (.taken, s.takeMessage m.tag e m n) := by
  simp only [State.destinationTakes, hn, Bool.true_eq_false, if_false, he, hgen, hline, and_self, if_true, hphase]

end

/-! ### Stray data (R89, R92 to R94) -/

/-- Settles O48: the record is added, and an Abandoned message clears the flag of a line of this station. -/
theorem strayDataAnsweredStale : Obligations.StrayDataAnsweredStale := by
  unfold Obligations.StrayDataAnsweredStale
  intro s bytes n m exports hmember hidle hparse hdest hstray htake hexports hvictim hlog hstill
  obtain ⟨hsettled, hport⟩ := settled_of_still hstill
  have hreq := noRequest_of_still hstill
  let u : State := { s.begin with lpu.log := s.lpu.log ++ [strayRecord m.line n] }
  let v : State := { u with home.exports := exports }
  have hpart : s.begin.destPart n m = (some .stale, u) := by
    rw [destPart_here (s := s.begin) hdest, destinationTakes_stray (s := s.begin) hstray, addFault_room s.begin _ hlog]
    rfl
  have hhome : u.homePart n m = (none, v) ∧ (v.nextVictim = none ∨ v.freeTag = none) := by
    rw [homePart_noTake (s := u) htake]
    by_cases hab : m.status = .abandoned ∧ s.homesLine m.line = true
    · rw [abandonedAtHome_clears (s := u) hab]
      refine ⟨?_, ?_⟩
      · simp only [v, hexports, if_pos hab]
        rfl
      · rcases hvictim with hne | hne | hw | ht
        · exact absurd hab.1 hne
        · simp [hab.2] at hne
        · exact .inl (nextVictim_nil hw)
        · exact .inr ht
    · rw [abandonedAtHome_other (s := u) hab]
      have hsame : exports = s.home.exports := by rw [hexports, if_neg hab]
      subst hsame
      exact ⟨rfl, hsettled.victim⟩
  obtain ⟨hhome, hvictim'⟩ := hhome
  have hv : v.Settled := ⟨hsettled.conv, hsettled.places, hvictim', hsettled.walk⟩
  rw [exec_memberData hmember hidle hparse hpart hhome, settle_calm (hv.openAck hidle _ _ _ _) hport hreq]
  rfl

/-- R104: an idle memory port begins where work has joined the HWQ. -/
theorem startPort_of_more {s x : State} {a : HwqEntry} {as : List HwqEntry} (h : s.portStays) (hport : x.home.port = s.home.port)
    (hhwq : x.home.hwq = s.home.hwq ++ a :: as) :
    x.startPort = { x with home.port := if s.home.port = .idle then .busy else s.home.port } := by
  rw [startPort_of_joined h hport hhwq]
  simp

/-! ### Home-take data (R50, R93, R109) -/

section
variable {s : State} {n : StationNo} {m : DataMsg}

theorem homeTakes_absorbed {x : LineData} (hn : s.ctl.enrolled.has n = true) (hset : s.awaitingSet m.line = true) (hroom : s.hwqFree = true)
    (hx : m.data = some x) :
    s.homeTakes n m = (.taken, (s.addLineWork (.absorbWrite m.line x)).clearAwaiting m.line) := by
  simp [State.homeTakes, hn, hset, hroom, hx]

theorem homeTakes_refused (hn : s.ctl.enrolled.has n = true) (hset : s.awaitingSet m.line = true) (hfull : s.hwqFree = false) :
    s.homeTakes n m = (.refused, s) := by simp [State.homeTakes, hn, hset, hfull]

theorem homeTakes_stale (h : s.ctl.enrolled.has n = false ∨ s.awaitingSet m.line = false) : s.homeTakes n m = (.stale, s) := by
  rcases h with h | h <;> simp [State.homeTakes, h]

end

/-- Settles O49: by the flag, the room in the HWQ and the sender; then for an Abandoned message. -/
theorem homeTakeDataAbsorbed : Obligations.HomeTakeDataAbsorbed := by
  unfold Obligations.HomeTakeDataAbsorbed
  refine ⟨fun s bytes n m x hmember hidle hparse hdest htake hx hhomes hstill => ?take,
    fun s bytes n m hmember hidle hparse hdest hstatus htake hhomes hstill hvictim => ?abandoned⟩
  case take =>
    obtain ⟨hsettled, hport⟩ := settled_of_still hstill
    have hreq := noRequest_of_still hstill
    have hpart := destPart_elsewhere (s := s.begin) (n := n) hdest
    have hhome := homePart_take (s := s.begin) (n := n) htake hhomes
    refine ⟨fun hn hset hroom hwanted => ?_, fun hn hset hfull => ?_, fun hstale => ?_⟩
    · rw [homeTakes_absorbed (s := s.begin) hn hset hroom hx] at hhome
      let v : State := (s.begin.addLineWork (.absorbWrite m.line x)).clearAwaiting m.line
      have hv : v.Settled := ⟨hsettled.conv, hsettled.places, .inl (nextVictim_nil hwanted), hsettled.walk⟩
      have hreq' : (v.openAck false m.homeTake none (some .taken)).noRequest := hreq.congr rfl rfl
      rw [exec_memberData hmember hidle hparse hpart hhome, settle_noRequest hreq', followUp_settled (hv.openAck hidle _ _ _ _),
        startPort_of_more (s := s) (x := v.openAck false m.homeTake none (some .taken)) hport rfl rfl, htake]
      rfl
    · rw [homeTakes_refused (s := s.begin) hn hset hfull] at hhome
      rw [exec_memberData hmember hidle hparse hpart hhome, settle_calm (hsettled.begin.openAck hidle _ _ _ _) hport hreq, htake]
      rfl
    · rw [homeTakes_stale (s := s.begin) hstale] at hhome
      rw [exec_memberData hmember hidle hparse hpart hhome, settle_calm (hsettled.begin.openAck hidle _ _ _ _) hport hreq, htake]
      rfl
  case abandoned =>
    obtain ⟨hsettled, hport⟩ := settled_of_still hstill
    have hreq := noRequest_of_still hstill
    have hhome := homePart_noTake (s := s.begin) (n := n) (.inl htake)
    rw [abandonedAtHome_clears (s := s.begin) ⟨hstatus, hhomes⟩] at hhome
    have hv : (s.begin.clearAwaiting m.line).Settled :=
      ⟨hsettled.conv, hsettled.places, hvictim.imp_left fun hw => nextVictim_nil hw, hsettled.walk⟩
    rw [exec_memberData hmember hidle hparse (destPart_elsewhere (s := s.begin) hdest) hhome,
      settle_calm (hv.openAck hidle _ _ _ _) hport hreq, htake]
    rfl

end Sys2Proof.Machine
end

section
/-!
PROOF. Good data for an entry of this station (R18, R20, R21, R61, R71 to R73, R81, R86, R87, R116, R135).
-/

namespace Sys2Proof.Machine

/-! ### A way filled and its list served (R61, R71) -/

/-- The station once a way has been filled, and a waiting list served against it as `q` says, with the way then as given. -/
def State.filled (s : State) (l : LineNo) (v : WayNo) (way : Way) (q : Served) : State :=
  { s with
    lpu.tags := s.tagsWithoutAll (q.responses.map (·.tag))
    cache := { sets := ((s.touch l v).setWay l v way).cache.sets, pins := q.pins }
    out := { responses := q.responses, sent := none } }

section
variable {s : State} {l : LineNo} {v : WayNo} {q : Served} {t : ReqTag} {e : PrtEntry}

theorem filled_setWay (a b : Way) : (s.filled l v a q).setWay l v b = s.filled l v b q :=
  congrArg (fun c : State => ({ s with
    lpu.tags := s.tagsWithoutAll (q.responses.map fun r : Response => r.tag)
    cache := { sets := c.cache.sets, pins := q.pins }
    out := { responses := q.responses, sent := none } } : State)) (setWay_setWay (s.touch l v) l v a b)

theorem wayAt_filled (a : Way) : (s.filled l v a q).wayAt l v = a := wayAt_setWay (s.touch l v) l v a

theorem serve_filled {st : LineState} {x : LineData} {items : List Item} (hout : s.out = noOutput)
    (hq : q = servedBy s.ctl.start.pinLimit l s.cache.pins x items) :
    ((s.setWay l v (.holding l st x)).touch l v).serve l v items =
      s.filled l v (.holding l (if q.altered then .altered else st) q.line) q := by
  have hused : ((s.setWay l v (.holding l st x)).touch l v).touch l v = (s.setWay l v (.holding l st x)).touch l v := touch_touch _ l v
  have hway : ((s.setWay l v (.holding l st x)).touch l v).wayAt l v = .holding l st x := by rw [wayAt_touch, wayAt_setWay]
  have hset : ∀ a : Way, ((s.setWay l v (.holding l st x)).touch l v).setWay l v a = (s.touch l v).setWay l v a := fun a => by
    rw [touch_setWay, setWay_setWay]
  rw [serve_eq_servedBy _ l v st x items hused hway]
  show State.withServed _ l v st (servedBy s.ctl.start.pinLimit l s.cache.pins x items) = _
  rw [← hq]
  unfold State.withServed
  rw [hset, show ((s.setWay l v (.holding l st x)).touch l v).out = noOutput from hout]
  rfl

/-- A list of Reads and Writes alone touches no pin, and alters the line exactly where it holds a Write. -/
theorem servedBy_plain (limit : BitVec 8) (pins : List PinEntry) (x : LineData) {items : List Item}
    (h : ∀ i ∈ items, i.op = .read ∨ i.op = .write) :
    (servedBy limit l pins x items).pins = pins ∧
      (servedBy limit l pins x items).altered = items.any fun i => i.op == .write || i.op == .pinnedWrite := by
  induction items using List.reverseRecOn with
  | nil => exact ⟨rfl, rfl⟩
  | append_singleton is i ih =>
    obtain ⟨hpins, haltered⟩ := ih fun j hj => h j (List.mem_append_left _ hj)
    rw [servedBy_snoc, List.any_append]
    rcases h i (by simp) with hop | hop
    · simp [Served.next, hop, hpins, haltered]
    · simp [Served.next, hop, hpins]

theorem afterServing_freed {fromHome : Bool} (h : e.follower = none) :
    s.afterServing t e v fromHome = (if e.dropAfterUse then s.setWay e.line v .empty else s).freeEntry t := by
  simp only [State.afterServing, h]

/-- R72, R86: with a follower the entry has its hand-off to place. -/
def PrtEntry.handingOff (e : PrtEntry) (fromHome wrote : Bool) : PrtEntry :=
  { e with phase := .finishing, timer := none, waiting := [], owes := .handOff, filledByHome := fromHome, wrote := wrote }

theorem afterServing_asks {fromHome : Bool} {f : Follower} (h : e.follower = some f) (hdrop : e.dropAfterUse = false) :
    s.afterServing t e v fromHome =
      (s.setEntry t (e.handingOff fromHome (e.waiting.any fun i => i.op == .write || i.op == .pinnedWrite))).ask (.prt t) := by
  simp [State.afterServing, h, hdrop, PrtEntry.handingOff]

theorem placePrt_handOff {f : Follower} (he : s.entry t = some e) (howes : e.owes = .handOff) (hf : e.follower = some f)
    (hway : e.way = some v) : s.placePrt t = s.handOff t e f v := by
  simp only [State.placePrt, he, howes, hf, hway]

theorem handOff_eq {f : Follower} {d : LineData} (hd : (s.wayAt e.line v).data = d) :
    s.handOff t e f v =
      ((s.addSq
        { dest := f.station, tag := f.tag, gen := f.gen, line := e.line
          grant := if f.kind = .fetch then .copy else if f.kind = .claim then .sole else .none
          homeTake := f.kind == .fetch, status := .good, data := some d }
        (!(e.filledByHome && !e.wrote))).setWay e.line v (if f.kind = .fetch then .holding e.line .copy d else .empty)).freeEntry t := by
  have hgrant : f.kind.grant = if f.kind = .fetch then .copy else if f.kind = .claim then .sole else .none := by cases f.kind <;> rfl
  subst hd
  rw [← hgrant]
  rfl

/-! ### A recall that completes (R115, R116) -/

theorem addItemWorks_eq (items : List Item) :
    items.foldl (fun s i => s.addItemWork l i) s =
      { s with
        home.hwq := s.home.hwq ++ items.map fun i => { addr := s.memAddr l i.offset, work := i.hwqWork l } } := by
  induction items generalizing s with
  | nil => simp
  | cons i is ih =>
    rw [List.foldl_cons, ih]
    simp only [State.addItemWork, State.addHwq, List.append_assoc, List.map_cons, List.singleton_append]
    rfl

theorem completeRecall_eq (hpin : s.lpu.pinRecall = none) :
    s.completeRecall t e =
      { (s.removeExport e.line).freeEntry t with
        home.hwq := s.home.hwq ++ e.waiting.map fun i => { addr := s.memAddr e.line i.offset, work := i.hwqWork e.line } } := by
  unfold State.completeRecall
  dsimp only
  rw [addItemWorks_eq]
  simp only [removeExport_lpu, hpin, reduceCtorEq, if_false]
  rfl

/-! ### The message by the entry's kind (R71, R73, R116) -/

variable {m : DataMsg} {n : StationNo} {x : LineData}

theorem takeMessage_fills {st : LineState} (hstatus : m.status = .good) (hx : m.data = some x) (hkind : e.kind = .fetch ∨ e.kind = .claim)
    (hst : e.fillState m.grant = some st) (hway : e.way = some v) :
    s.takeMessage t e m n = s.fillLine t e v st x (s.homeOf e.line == some n) := by
  rcases hkind with hkind | hkind <;> simp [State.takeMessage, hstatus, hx, hkind, State.takeLine, hst, hway]

theorem takeMessage_direct {i : Item} (hstatus : m.status = .good) (hx : m.data = some x) (hkind : e.kind = .directRead)
    (hwait : e.waiting = [i]) :
    s.takeMessage t e m n = (s.answer i.tag .ok (.bytes (x.bytes i.offset.toNat i.len))).freeEntry t := by
  simp [State.takeMessage, hstatus, hx, hkind, State.takeDirect, hwait]

theorem takeMessage_recall (hstatus : m.status = .good) (hx : m.data = some x) (hkind : e.kind = .recall) :
    s.takeMessage t e m n = (s.addLineWork (.recallWrite e.line x)).completeRecall t e := by
  simp [State.takeMessage, hstatus, hx, hkind, State.takeRecall]

theorem refusesData_other (h : e.kind ≠ .recall) : s.refusesData e m = false := by simp [State.refusesData, h]

theorem refusesData_recall (h : e.kind = .recall) (hstatus : m.status = .good) : s.refusesData e m = !s.hwqFree := by
  simp [State.refusesData, h, hstatus]

end

/-! ### What follows a list that has been served (R72, R86, R87) -/

section
variable {s : State} {l : LineNo} {v : WayNo} {q : Served} {t : ReqTag} {e : PrtEntry} {m : DataMsg} {n : StationNo}

/-- The station in the acknowledgement window of a message that it has taken (R49). -/
def State.takenAck (s : State) (m : DataMsg) : State := s.openAck false m.homeTake (some .taken) none

theorem sqFree_takenAck (hidle : s.bus.medium = .idle) : (s.takenAck m).sqFree = s.sqFree := by
  simp [State.sqFree, State.sqHeld, hidle, State.takenAck, State.openAck]

theorem sqFree_congr {y : State} (hbus : y.bus = s.bus) : y.sqFree = s.sqFree := by
  have hheld : y.sqHeld = s.sqHeld := by
    unfold State.sqHeld
    rw [hbus]
  simp only [State.sqFree, hheld, hbus]

theorem freeEntry_askers (h : s.bus.askers = []) : (s.freeEntry t).bus.askers = [] := by
  show s.bus.askers.filter _ = []
  rw [h]
  rfl

/-- An entry that is freed once its list is served: nothing follows. -/
theorem settle_served_freed {y : State} (h : s.Settled) (hidle : s.bus.medium = .idle) (hport : s.portStays) (hreq : s.noRequest)
    (hwanted : s.home.wanted = []) (hmode : s.ctl.mode ≠ .quiescing) (hbus : y.bus = s.bus) (hret : y.ret = s.ret)
    (hhome : y.home = s.home) (hctl : y.ctl = s.ctl) (hlrq : y.lpu.lrq = s.lpu.lrq) (hhead : y.lpu.head = s.lpu.head) (s0 : State) (j : Judged) :
    ((y.freeEntry t).takenAck m).settle s0 j = (y.freeEntry t).takenAck m := by
  have hplaces : ((y.freeEntry t).takenAck m).bus.askers = [] ∨ ((y.freeEntry t).takenAck m).sqFree = false := by
    refine h.places.imp (fun hask => freeEntry_askers (hbus ▸ hask)) fun hfull => ?_
    rw [sqFree_takenAck (s := y.freeEntry t) (by rw [freeEntry_bus_medium, hbus, hidle])]
    exact (sqFree_congr hbus).trans hfull
  have hsettled : ((y.freeEntry t).takenAck m).Settled :=
    ⟨h.conv.congr (congrArg (·.sq) hbus) hret, hplaces, .inl (nextVictim_nil ((congrArg (·.wanted) hhome).trans hwanted)),
      .inl (show y.ctl.mode ≠ _ from hctl ▸ hmode)⟩
  exact settle_calm hsettled (hport.congr (congrArg (·.port) hhome) (congrArg (·.hwq) hhome)) (hreq.congr hlrq hhead) s0 j

/-- The station with a served entry that has asked for a place for its hand-off. -/
def State.handing (s : State) (t : ReqTag) (e : PrtEntry) (m : DataMsg) (v : WayNo) (way : Way) (q : Served) (fromHome wrote : Bool) :
    State :=
  (((s.filled e.line v way q).setEntry t (e.handingOff fromHome wrote)).ask (.prt t)).takenAck m

variable {way : Way} {fromHome wrote : Bool}

/-- R87: the hand-off waits for its place where the SQ is full. -/
theorem settle_handing_waits (h : s.Settled) (hidle : s.bus.medium = .idle) (hport : s.portStays) (hreq : s.noRequest)
    (hwanted : s.home.wanted = []) (hmode : s.ctl.mode ≠ .quiescing) (hfull : s.sqFree = false) (s0 : State) (j : Judged) :
    (s.handing t e m v way q fromHome wrote).settle s0 j = s.handing t e m v way q fromHome wrote := by
  have hplaces : (s.handing t e m v way q fromHome wrote).sqFree = false :=
    (sqFree_takenAck (s := ((s.filled e.line v way q).setEntry t (e.handingOff fromHome wrote)).ask (.prt t)) hidle).trans hfull
  have hsettled : (s.handing t e m v way q fromHome wrote).Settled :=
    ⟨h.conv.congr rfl rfl, .inr hplaces, .inl (nextVictim_nil hwanted), .inl hmode⟩
  exact settle_calm hsettled (hport.congr rfl rfl) (hreq.congr rfl rfl) s0 j

/-- R86: it is placed in the same event where the SQ has a place, and the entry is freed. -/
theorem settle_handing_placed {f : Follower} {st : LineState} (h : s.Settled) (hidle : s.bus.medium = .idle) (hport : s.portStays)
    (hreq : s.noRequest) (hwanted : s.home.wanted = []) (hmode : s.ctl.mode ≠ .quiescing) (hfree : s.sqFree = true)
    (hf : e.follower = some f) (hway : e.way = some v) (s0 : State) (j : Judged) :
    (s.handing t e m v (.holding e.line st q.line) q fromHome wrote).settle s0 j =
      { s.filled e.line v (if f.kind = .fetch then .holding e.line .copy q.line else .empty) q with
        engine := (s.freeEntry t).engine
        bus :=
          { (s.freeEntry t).bus with
            medium := ackTaken m
            sq := s.bus.sq ++
              [newSqEntry
                { dest := f.station, tag := f.tag, gen := f.gen, line := e.line
                  grant := if f.kind = .fetch then .copy else if f.kind = .claim then .sole else .none
                  homeTake := f.kind == .fetch, status := .good, data := some q.line }
                (!(fromHome && !wrote))] } } := by
  let x : State := s.handing t e m v (.holding e.line st q.line) q fromHome wrote
  let way' : Way := if f.kind = .fetch then .holding e.line .copy q.line else .empty
  have hask : s.bus.askers = [] := h.places.resolve_right (by simp [hfree])
  have hasks : x.bus.askers = [.prt t] := by
    show s.bus.askers ++ [.prt t] = _
    rw [hask]
    rfl
  have hroom : x.sqFree = true :=
    (sqFree_takenAck (s := ((s.filled e.line v (.holding e.line st q.line) q).setEntry t (e.handingOff fromHome wrote)).ask (.prt t))
      hidle).trans hfree
  have hnone : (s.freeEntry t).bus.askers = [] := freeEntry_askers hask
  let given : State := { x with bus.askers := [] }
  have hentry : given.entry t = some (e.handingOff fromHome wrote) := (entry_setEntry (s := s) t).trans (if_pos rfl)
  have hline : (given.wayAt e.line v).data = q.line := congrArg Way.data (wayAt_filled (s := s) (q := q) (.holding e.line st q.line))
  have hengine : ((s.setEntry t (e.handingOff fromHome wrote)).freeEntry t).engine = (s.freeEntry t).engine :=
    congrArg (·.engine) freeEntry_setEntry
  have hcache : ((s.filled e.line v (.holding e.line st q.line) q).setWay e.line v way').cache = (s.filled e.line v way' q).cache :=
    congrArg (·.cache) (filled_setWay _ _)
  let placed : State :=
    { s.filled e.line v way' q with
      engine := (s.freeEntry t).engine
      bus :=
        { (s.freeEntry t).bus with
          medium := ackTaken m
          sq := s.bus.sq ++
            [newSqEntry
              { dest := f.station, tag := f.tag, gen := f.gen, line := e.line
                grant := if f.kind = .fetch then .copy else if f.kind = .claim then .sole else .none
                homeTake := f.kind == .fetch, status := .good, data := some q.line }
              (!(fromHome && !wrote))] } }
  have hgiven : x.giveOne = placed := by
    rw [giveOne_cons hasks hroom, State.giveTo]
    show given.placePrt t = _
    rw [placePrt_handOff hentry rfl hf hway, handOff_eq (e := e.handingOff fromHome wrote) hline]
    exact congr (congr (congrArg (fun cache engine askers => ({ placed with
      cache := cache, engine := engine, bus := { placed.bus with askers := askers } } : State)) hcache) hengine) hnone.symm
  have hconv : x.noConversion := h.conv.congr rfl rfl
  have hreq' : x.noRequest := hreq.congr rfl rfl
  have hplaced : placed.Settled := ⟨hgiven ▸ giveOne_noConversion hconv, .inl hnone, .inl (nextVictim_nil hwanted), .inl hmode⟩
  show x.settle s0 j = placed
  rw [settle_noRequest hreq', ← followUp_giveOne hconv, hgiven]
  exact followUp_calm hplaced (hport.congr rfl rfl)

end

/-- Settles O47: by the entry's kind; a filled way's list is served as `servedBy` says, and the entry is freed or hands its line on. -/
theorem goodDataServesEntry : Obligations.GoodDataServesEntry := by
  unfold Obligations.GoodDataServesEntry
  refine ⟨fun s bytes n m e x hmember hmode hidle hparse hn hdest htake he hgen hline hphase hstatus hx hwanted hstill => ?data,
    fun e => ?fillState⟩
  case fillState =>
    refine ⟨?_, ?_, ?_, ?_, ?_, ?_, ?_⟩
    · intro hkind hexp hdown
      simp [PrtEntry.fillState, hkind, hexp, hdown]
    · intro hkind hexp hdown
      simp [PrtEntry.fillState, hkind, hexp, hdown]
    · intro hkind hexp
      simp [PrtEntry.fillState, hkind, hexp]
    · intro hkind
      simp [PrtEntry.fillState, hkind]
    · intro hkind
      simp [PrtEntry.fillState, hkind]
    · rintro (hkind | hkind) <;> simp [PrtEntry.fillState, hkind]
    · intro hkind
      simp [PrtEntry.fillState, hkind]
  case data =>
    obtain ⟨hsettled, hport⟩ := settled_of_still hstill
    have hreq := noRequest_of_still hstill
    obtain ⟨_, _, _, hpin⟩ := still_iff.mp hstill
    have htaken : ∀ {u : State}, s.begin.refusesData e m = false → s.begin.takeMessage m.tag e m n = u →
        u.homesLine m.line = s.homesLine m.line →
        exec (.dataMessageArrival bytes) s = .next ((u.takenAck m).settle s.begin { remote := m.dest == s.number, home := false }) := by
      intro u hroom hu hl
      subst hu
      refine exec_memberData (u := s.begin.takeMessage m.tag e m n) hmember hidle hparse (d := some .taken) (h := none) ?_ ?_
      · rw [destPart_here (s := s.begin) hdest, destinationTakes_awaited (s := s.begin) hn he hgen hline hphase, if_neg (by simp [hroom])]
      · rw [homePart_noTake (htake.imp_right fun hh => hl.trans hh), abandonedAtHome_other (by simp [hstatus])]
    refine ⟨fun v st q hkind hst hway hq => ?fill, fun i hkind hwait => ?direct, fun hkind hroom => ?recalled, fun hkind hfull => ?refused⟩
    case fill =>
      have hne : e.kind ≠ .recall := by rcases hkind with hkind | hkind <;> simp [hkind]
      let full : Way := .holding e.line (if q.altered then .altered else st) q.line
      have hfilled : s.begin.takeMessage m.tag e m n =
          (s.begin.filled e.line v full q).afterServing m.tag e v (s.homeOf e.line == some n) := by
        rw [takeMessage_fills hstatus hx hkind hst hway, State.fillLine, serve_filled (s := s.begin) rfl hq]
        rfl
      refine ⟨fun hf => ?_, fun f hf hdrop hplain => ?_⟩
      · let left : Way := if e.dropAfterUse then .empty else full
        have hleft : (if e.dropAfterUse then (s.begin.filled e.line v full q).setWay e.line v .empty else s.begin.filled e.line v full q) =
            s.begin.filled e.line v left q := by
          cases hdrop : e.dropAfterUse with
          | true => simp only [left, hdrop, if_true, filled_setWay]
          | false => simp [left, hdrop]
        have hfreed := hfilled.trans ((afterServing_freed hf).trans (congrArg (·.freeEntry m.tag) hleft))
        rw [htaken (refusesData_other hne) hfreed rfl,
          settle_served_freed (s := s) (y := s.begin.filled e.line v left q) hsettled hidle hport hreq hwanted hmode rfl rfl rfl rfl rfl rfl]
        rfl
      · obtain ⟨hpins, haltered⟩ := servedBy_plain (l := e.line) s.ctl.start.pinLimit s.cache.pins x hplain
        rw [← hq] at hpins haltered
        rw [afterServing_asks hf hdrop, ← haltered] at hfilled
        rw [htaken (refusesData_other hne) hfilled rfl]
        have hreq' : s.begin.noRequest := ⟨hreq.1, hreq.2⟩
        have hport' : s.begin.portStays := hport.congr rfl rfl
        refine ⟨fun hfree => congrArg Host.Outcome.next ?_, fun hfull => congrArg Host.Outcome.next ?_⟩
        · refine (settle_handing_placed (s := s.begin) (e := e) hsettled.begin hidle hport' hreq' hwanted hmode hfree hf hway _ _).trans ?_
          rw [Bool.not_and, Bool.not_not]
          unfold State.filled
          rw [hpins]
          rfl
        · refine (settle_handing_waits (s := s.begin) (e := e) hsettled.begin hidle hport' hreq' hwanted hmode hfull _ _).trans ?_
          unfold State.handing State.filled
          rw [hpins]
          rfl
    case direct =>
      have hne : e.kind ≠ .recall := by simp [hkind]
      rw [htaken (refusesData_other hne) (takeMessage_direct hstatus hx hkind hwait) rfl,
        settle_served_freed (s := s) (y := s.begin.answer i.tag .ok (.bytes (x.bytes i.offset.toNat i.len))) hsettled hidle hport hreq hwanted hmode rfl rfl rfl rfl rfl rfl]
      rfl
    case recalled =>
      let u : State :=
        { s.begin with
          engine := (s.freeEntry m.tag).engine
          home :=
            { s.home with
              exports := (s.removeExport e.line).home.exports
              hwq := s.home.hwq ++ { addr := s.memAddr e.line 0, work := .recallWrite e.line x } ::
                e.waiting.map fun i => { addr := s.memAddr e.line i.offset, work := i.hwqWork e.line } }
          bus := (s.freeEntry m.tag).bus }
      have hu : s.begin.takeMessage m.tag e m n = u := by
        have hnone : s.home.wanted.filter (· != e.line) = s.home.wanted := by rw [hwanted]; rfl
        rw [takeMessage_recall hstatus hx hkind, completeRecall_eq (s := s.begin.addLineWork (.recallWrite e.line x)) hpin]
        have hhome := congr (congrArg (fun hwq wanted => ({ u with home := { u.home with hwq := hwq, wanted := wanted } } : State))
          (List.append_assoc s.home.hwq [{ addr := s.memAddr e.line 0, work := .recallWrite e.line x }]
            (e.waiting.map fun i => { addr := s.memAddr e.line i.offset, work := i.hwqWork e.line }))) hnone
        exact hhome
      have hplaces : (u.takenAck m).bus.askers = [] ∨ (u.takenAck m).sqFree = false :=
        hsettled.places.imp freeEntry_askers fun hfull => (sqFree_takenAck (s := u) hidle).trans hfull
      have hnext : (u.takenAck m).Settled := ⟨hsettled.conv.congr rfl rfl, hplaces, .inl (nextVictim_nil hwanted), .inl hmode⟩
      have hreq' : (u.takenAck m).noRequest := hreq.congr rfl rfl
      rw [htaken ((refusesData_recall (s := s.begin) hkind hstatus).trans (by simp [show s.begin.hwqFree = true from hroom])) hu rfl,
        settle_noRequest hreq', followUp_settled hnext, startPort_of_more (s := s) (x := u.takenAck m) hport rfl rfl]
      rfl
    case refused =>
      have hrefuse : s.begin.refusesData e m = true :=
        (refusesData_recall (s := s.begin) hkind hstatus).trans (by simp [show s.begin.hwqFree = false from hfull])
      have hpart : s.begin.destPart n m = (some .refused, s.begin) := by
        rw [destPart_here (s := s.begin) hdest, destinationTakes_awaited (s := s.begin) hn he hgen hline hphase, if_pos hrefuse]
      have hhome : s.begin.homePart n m = (none, s.begin) := by
        rw [homePart_noTake (s := s.begin) htake, abandonedAtHome_other (by simp [hstatus])]
      rw [exec_memberData hmember hidle hparse hpart hhome, settle_calm (hsettled.begin.openAck hidle _ _ _ _) hport hreq]
      rfl

end Sys2Proof.Machine
end

section
/-!
PROOF. The rows of the bus's internal steps: a free SQ place given (R51, R65, R86, R87, R90, R91, R105), a conversion (R55) and a victim
recall (R117).
-/

namespace Sys2Proof.Machine

/-! ### A free SQ place (R51) -/

section
variable {s y : State} {t : ReqTag} {e : PrtEntry} {f : Follower}

/-- R91: an entry that is Queued again sends its follower the message and rejoins the send list. -/
theorem placeAbandoned_queued (h : e.phase = .queued) :
    s.placeAbandoned t e f =
      ((s.addSq (abandonedMsg e.line f) false).setEntry t { e with follower := none, owes := .nothing }).enqueue (.prt t) := by
  simp [State.placeAbandoned, h]

/-- R105: the HWQ head that keeps a result places its message and leaves. -/
theorem placeHome_result {r : Option LineData} {a : HwqEntry} {more : List HwqEntry} {m : DataMsg} (hport : s.home.port = .holding r)
    (hhwq : s.home.hwq = a :: more) (hm : a.work.dataMsg r = some m) : s.placeHome = (s.addSq m false).popHwq := by
  simp only [State.placeHome, hport, hhwq, hm]

/-- Where the place given was the last one, or no asker is left, no other follows. -/
theorem places_given {rest : List Asker} (h : rest = [] ∨ s.bus.sq.length + s.sqHeld = 7) (hask : rest = [] → y.bus.askers = [])
    (hmedium : y.bus.medium = s.bus.medium) (hsq : y.bus.sq.length = s.bus.sq.length + 1) : y.bus.askers = [] ∨ y.sqFree = false := by
  refine h.imp hask fun hlast => ?_
  rw [← Bool.not_eq_true, sqFree_iff, hsq, sqHeld_congr hmedium]
  omega

end

/-- Settles O56: by the asker, and for a PRT entry by what it owes. -/
theorem sqPlaceGivenToOldestAsker : Obligations.SqPlaceGivenToOldestAsker := by
  unfold Obligations.SqPlaceGivenToOldestAsker
  intro s first rest hask hfree hlast hempty hwanted hport hmode hall
  have hreq := noRequest_of_portEmpty hempty
  have hconv : s.begin.noConversion := .inl hall
  let given : State := { s.begin with bus.askers := rest }
  have hgive : s.begin.giveOne = given.giveTo first := giveOne_cons hask hfree
  have hnone : ∀ t, rest = [] → rest.filter (· != Asker.prt t) = [] := fun t hrest => by rw [hrest]; rfl
  have hexec : ∀ {y : State}, given.giveTo first = y → y.lpu = s.lpu → y.home.wanted = [] →
      y.ctl.mode = s.ctl.mode → y.portStays → (rest = [] → y.bus.askers = []) → y.bus.medium = s.bus.medium →
      y.bus.sq.length = s.bus.sq.length + 1 → exec .sqPlaceGiven s = .next y := by
    intro y hy hlpu hw hctl hp ha hmedium hlen
    have hy' : s.begin.giveOne = y := hgive.trans hy
    have hsettled : y.Settled :=
      ⟨hy' ▸ giveOne_noConversion hconv, places_given hlast ha hmedium hlen, .inl (nextVictim_nil hw), .inl (hctl ▸ hmode)⟩
    have hreq' : y.noRequest := hreq.congr (congrArg (·.lrq) hlpu) (congrArg (·.head) hlpu)
    show Host.Outcome.next (s.begin.giveOne.settle s.begin .byChange) = _
    rw [hy', settle_calm hsettled hp hreq']
  have hport' : s.portStays := hport
  refine ⟨fun t e f hfirst he howes hf => ⟨fun hphase => ?finishing, fun hphase => ?queued⟩,
    fun t e f v st x hfirst he howes hf hway hline => ?handOff, fun a k more n t g l gr hfirst hhwq hk => ?home⟩
  case finishing =>
    subst hfirst
    exact hexec ((placePrt_abandoned (s := given) he howes hf).trans (placeAbandoned_finishing hphase)) rfl hwanted rfl
      (hport'.congr rfl rfl) (hnone t) rfl List.length_append
  case queued =>
    subst hfirst
    exact hexec ((placePrt_abandoned (s := given) he howes hf).trans (placeAbandoned_queued hphase)) rfl hwanted rfl
      (hport'.congr rfl rfl) id rfl List.length_append
  case handOff =>
    subst hfirst
    have hflag : (!(e.filledByHome && !e.wrote)) = (!e.filledByHome || e.wrote) := by rw [Bool.not_and, Bool.not_not]
    have hplace := (placePrt_handOff (s := given) he howes hf hway).trans (handOff_eq (d := x) (congrArg Way.data hline))
    rw [hflag] at hplace
    exact hexec hplace rfl hwanted rfl (hport'.congr rfl rfl) (hnone t) rfl List.length_append
  case home =>
    subst hfirst
    have hplaced : ∀ {r m}, s.home.port = .holding r → k.dataMsg r = some m →
        given.giveTo .home = ({ given.addSq m false with home := { s.home with hwq := more, port := portOver more } } : State) :=
      fun {r m} hr hm => by
        rw [State.giveTo, placeHome_result (s := given) hr hhwq hm, popHwq_eq]
        exact congrArg (fun hwq => ({ given.addSq m false with
          home := { s.home with hwq := List.tail hwq, port := portOver (List.tail hwq) } } : State)) hhwq
    have hover : ∀ m, ({ given.addSq m false with home := { s.home with hwq := more, port := portOver more } } : State).portStays :=
      fun m => by cases more <;> simp [State.portStays]
    refine ⟨fun x hr => ?_, fun hr => ?_⟩
    · have hm : k.dataMsg (some x) = some
          { dest := n, tag := t, gen := g, line := l, grant := gr, homeTake := false, status := .good, data := some x } := by
        rcases hk with rfl | ⟨rfl, rfl⟩ <;> rfl
      exact hexec (hplaced hr hm) rfl hwanted rfl (hover _) id rfl List.length_append
    · have hm : k.dataMsg none = some
          { dest := n, tag := t, gen := g, line := l, grant := .none, homeTake := false, status := .memoryError, data := none } := by
        rcases hk with rfl | ⟨rfl, rfl⟩ <;> rfl
      exact hexec (hplaced hr hm) rfl hwanted rfl (hover _) id rfl List.length_append

/-! ### A conversion (R55) -/

section
variable {s : State} {l : LineNo}

/-- Dropping a Copy changes the cache alone, and by the cache alone. -/
theorem emptyCopy_eq {x : State} (h : x.cache = s.cache) : x.emptyCopy l = { x with cache := (s.emptyCopy l).cache } := by
  have hheld : x.held l = s.held l := by simp only [State.held, State.findWay, State.wayAt, State.setOf, h]
  unfold State.emptyCopy
  rw [hheld]
  split
  case h_1 => simp [State.setWay, State.setOf, h]
  all_goals rw [← h]

/-- The station once an SQ entry has become a Return. -/
def State.asReturn (s : State) (e : SqEntry) (x : LineData) (sq : List SqEntry) : State :=
  { s with
    ret.rq := s.ret.rq ++ [{ line := e.msg.line, data := x, flushes := [] }]
    cache := (s.emptyCopy e.msg.line).cache
    bus := { s.bus with sq := sq, sendList := s.bus.sendList.filter (· != .rq e.msg.line) ++ [.rq e.msg.line] }
    lpu.log := s.lpu.log ++
      [{ kind := if (if e.msg.homeTake then e.homeState else e.destState) = .stale then .staleData else .resendExhausted
         line := some e.msg.line
         peer := if e.msg.homeTake then s.homeOf e.msg.line else some e.msg.dest }] }

/-- R55: the conversion that has waited longest, wherever it stands in the SQ. -/
theorem convertOne_eq {before after : List SqEntry} {e : SqEntry} {x : LineData} (hsq : s.bus.sq = before ++ e :: after)
    (hbefore : ∀ q ∈ before, q.converting = false) (he : e.converting = true) (hfree : s.rqFree = true) (hx : e.msg.data = some x)
    (hlog : s.lpu.log.length < 8) : s.convertOne = s.asReturn e x (before ++ after) := by
  have hskip : before.find? (·.converting) = none := List.find?_eq_none.mpr fun q hq => by simp [hbefore q hq]
  have hfind : s.bus.sq.find? (·.converting) = some e := by rw [hsq, List.find?_append, hskip]; simp [he]
  have herase : s.bus.sq.eraseP (·.converting) = before ++ after := by
    rw [hsq, List.eraseP_append_right _ fun q hq => by simp [hbefore q hq], List.eraseP_cons_of_pos he]
  simp only [State.convertOne, hfind, hfree, if_true, State.convert, hx, Option.getD_some]
  let copied : State := { s.addRq e.msg.line x [] with cache := (s.emptyCopy e.msg.line).cache }
  have hcopied : (s.addRq e.msg.line x []).emptyCopy e.msg.line = copied := emptyCopy_eq rfl
  rw [hcopied]
  refine (addFault_room { copied with bus.sq := copied.bus.sq.eraseP (·.converting) } _ hlog).trans ?_
  exact congrArg (fun sq => s.asReturn e x sq) herase

end

/-! ### A victim recall (R117) -/

section
variable {s : State} {l : LineNo} {t : ReqTag}

/-- The lines whose flag is set are passed over. -/
theorem nextVictim_eq_some {before after : List LineNo} {x : ExportEntry} (hwanted : s.home.wanted = before ++ l :: after)
    (hbefore : (before.all fun k => (s.findExport k).all fun y => y.awaiting.isSome) = true) (hfind : s.findExport l = some x)
    (hx : x.awaiting = none) : s.nextVictim = some l := by
  unfold State.nextVictim
  rw [hwanted, List.find?_append, Option.or_eq_some_iff]
  refine .inr ⟨List.find?_eq_none.mpr fun k hk => ?_, by simp [hfind, hx]⟩
  have hset := List.all_eq_true.mp hbefore k hk
  cases hk : s.findExport k with
  | none => simp
  | some y =>
    rw [hk, Option.all_some] at hset
    cases ha : y.awaiting <;> simp_all

theorem not_mem_of_flags {before : List LineNo} {x : ExportEntry}
    (hbefore : (before.all fun k => (s.findExport k).all fun y => y.awaiting.isSome) = true) (hfind : s.findExport l = some x)
    (hx : x.awaiting = none) : l ∉ before := by
  intro hl
  have hset := List.all_eq_true.mp hbefore l hl
  simp [hfind, hx] at hset

theorem freeTag_none {e : PrtEntry} (h : ∀ u, u ≠ t → s.entry u ≠ none) : (s.setEntry t e).freeTag = none := by
  refine List.find?_eq_none.mpr fun u _ => ?_
  rw [entry_setEntry]
  split
  · simp
  case isFalse hu =>
    obtain ⟨x, hx⟩ := Option.ne_none_iff_exists'.mp (h u hu)
    simp [hx]

end

/-- Settles O58: the conversion taken and the recall made, and that nothing follows either. -/
theorem conversionAndVictimRecall : Obligations.ConversionAndVictimRecall := by
  unfold Obligations.ConversionAndVictimRecall
  refine ⟨fun s before after e x hsq hbefore he hx hfree hlast hask hempty hwanted hport hmode hlog => ?conversion,
    fun s t l before after x htag hwanted hbefore hfind hx hlast hempty hport hask hall hmode => ?victim⟩
  case conversion =>
    have hreq := noRequest_of_portEmpty hempty
    let y : State := s.begin.asReturn e x (before ++ after)
    have hconv : y.noConversion := by
      rcases hlast with hlen | hafter
      · right
        show decide ((s.ret.rq ++ _).length < 4) = false
        simp [hlen]
      · left
        intro q hq
        exact (List.mem_append.mp hq).elim (hbefore q) (hafter q)
    have hnext : y.Settled := ⟨hconv, .inl hask, .inl (nextVictim_nil hwanted), .inl hmode⟩
    have hreq' : y.noRequest := hreq.congr rfl rfl
    show Host.Outcome.next (s.begin.convertOne.settle s.begin .byChange) = _
    rw [convertOne_eq (s := s.begin) hsq hbefore he hfree hx hlog, settle_calm hnext hport hreq']
    have hcache : (s.begin.emptyCopy e.msg.line).cache = (s.emptyCopy e.msg.line).cache :=
      congrArg (·.cache) (emptyCopy_eq (s := s) (x := s.begin) rfl)
    exact congrArg (fun cache => Host.Outcome.next ({ y with cache := cache } : State)) hcache
  case victim =>
    have hreq := noRequest_of_portEmpty hempty
    have hnext : s.begin.nextVictim = some l := nextVictim_eq_some (s := s.begin) hwanted hbefore hfind hx
    let y : State := (s.begin.makeEntry t (.fresh .recall l none [] .victim)).recallStarts l
    have hleft : y.home.wanted = before ++ after.filter (· != l) := by
      have hkeep : before.filter (· != l) = before := by
        refine List.filter_eq_self.mpr fun k hk => ?_
        have hne : k ≠ l := fun h => not_mem_of_flags hbefore hfind hx (h ▸ hk)
        simp [hne]
      show s.home.wanted.filter (· != l) = _
      rw [hwanted, List.filter_append, hkeep]
      simp
    have hvictim : y.nextVictim = none ∨ y.freeTag = none := by
      rcases hlast with hused | hafter
      · exact .inr (freeTag_none (s := s) hused)
      · left
        rw [nextVictim_eq_none_iff, hleft]
        intro k hk z hz
        have hother : k ≠ l → y.findExport k = s.findExport k := findExport_changeExport_ne (s := s) fun _ => rfl
        have hset : k ≠ l ∧ ((s.findExport k).all fun y => y.awaiting.isSome) = true := by
          rcases List.mem_append.mp hk with hk | hk
          · exact ⟨fun h => not_mem_of_flags hbefore hfind hx (h ▸ hk), List.all_eq_true.mp hbefore k hk⟩
          · obtain ⟨hk, hne⟩ := List.mem_filter.mp hk
            have hne : k ≠ l := by simpa using hne
            have hflag := List.all_eq_true.mp hafter k hk
            exact ⟨hne, by simpa [hne] using hflag⟩
        obtain ⟨hne, hflag⟩ := hset
        rw [← hother hne, hz, Option.all_some] at hflag
        exact Option.isSome_iff_ne_none.mp hflag
    have hsettled : y.Settled := ⟨.inl hall, .inl hask, hvictim, .inl hmode⟩
    have hreq' : y.noRequest := hreq.congr rfl rfl
    show Host.Outcome.next (s.begin.victimOne.settle s.begin .byChange) = _
    rw [victimOne_made hnext htag, settle_calm hsettled hport hreq']
    exact congrArg (fun wanted => Host.Outcome.next ({ y with home := { y.home with wanted := wanted } } : State)) hleft

end Sys2Proof.Machine
end

section
/-!
PROOF. The close of an acknowledgement window (R51, R53, R55, R56, R169).
-/

namespace Sys2Proof.Machine

/-! ### What a party's position reads (R53, R169) -/

theorem ackReads_none (v : BitVec 3) : ackReads v none = AckCode.ofValue v := by
  by_cases h : v = 0
  · rw [h]
    rfl
  · have hpos : ¬ v.toNat ≤ 0 := fun hle => h (BitVec.eq_of_toNat_eq (Nat.le_zero.mp hle))
    exact congrArg AckCode.ofValue (if_neg hpos)

/-- R53: an owed party that was read has taken the message, found it stale, or is still owed. -/
theorem after_ackReads (x : Delivery) (read : Bool) (v : BitVec 3) :
    x.after read (ackReads v none) =
      if x = .owed ∧ read = true then (if v = 4 then .taken else if v = 2 then .stale else .owed) else x := by
  rw [ackReads_none]
  cases x with
  | owed =>
    cases read with
    | false => rfl
    | true =>
      by_cases h4 : v = 4
      · simp [Delivery.after, AckCode.ofValue, h4]
      · by_cases h2 : v = 2
        · simp [Delivery.after, AckCode.ofValue, h2]
        · simp only [Delivery.after, AckCode.ofValue, h4, h2, if_true, if_false, and_self]
          split
          case h_1 heq => exact absurd heq (by split_ifs <;> simp)
          case h_2 heq => exact absurd heq (by split_ifs <;> simp)
          all_goals rfl
  | taken => simp [Delivery.after]
  | stale => simp [Delivery.after]
  | failed => simp [Delivery.after]

theorem fail_eq (x : Delivery) : x.fail = if x = .owed then .failed else x := by cases x <;> rfl

/-! ### The sender's part of the close (R53, R55, R56) -/

section
variable {s : State} {a : AckWindow} {dest home : BitVec 3} {e : SqEntry} {rest : List SqEntry}

theorem exec_ackClose (h : s.bus.medium = .acking a) :
    exec (.acknowledgementWindowClose dest home) s = .next (s.begin.closeAck a dest home) := by
  show execAcknowledgementWindowClose dest home s = _
  simp only [execAcknowledgementWindowClose, h]

theorem closeAck_other (h : a.own = false) :
    s.closeAck a dest home = s.idle.settle s { remote := false, home := false } := by
  simp [State.closeAck, State.ackRead, h, State.senderAck]

/-- The close at the sender, by what the head of its sending order has then read. -/
theorem closeAck_own {y : State} {b : Bool} (h : a.own = true) (hsq : s.bus.sq = e :: rest) (he : e.converting = false)
    (hy : s.senderAck (some (e.read a.homeTake (ackReads dest a.dest) (ackReads home a.home))) = (y, b)) :
    s.closeAck a dest home = y.idle.settle s { remote := b, home := false } := by
  simp only [State.closeAck, State.ackRead, h, if_true, sqHead_cons hsq he, Option.map_some, hy]

theorem dropSqHead_cons (hsq : s.bus.sq = e :: rest) (he : e.converting = false) : s.dropSqHead = { s with bus.sq := rest } := by
  simp [State.dropSqHead, hsq, he]

/-- R56, R89, R165: one record for each party that is failed. -/
theorem failedRecords_eq (hlog : s.lpu.log.length + 2 ≤ 8) :
    s.failedRecords e =
      { s with
        lpu.log := s.lpu.log ++
          (if e.destState = .failed then [{ kind := .resendExhausted, line := some e.msg.line, peer := some e.msg.dest }] else []) ++
          (if e.msg.homeTake = true ∧ e.homeState = .failed then
            [{ kind := .resendExhausted, line := some e.msg.line, peer := s.homeOf e.msg.line }] else []) } := by
  let first : FaultRecord := { kind := .resendExhausted, line := some e.msg.line, peer := some e.msg.dest }
  have hroom : s.lpu.log.length < 8 := by omega
  have hadded : s.addFault first = { s with lpu.log := s.lpu.log ++ [first] } := addFault_room s first hroom
  have hroom' : (s.lpu.log ++ [first]).length < 8 := by
    rw [List.length_append, List.length_singleton]
    omega
  unfold State.failedRecords
  dsimp only
  by_cases hd : e.destState = .failed <;> by_cases hh : e.msg.homeTake = true ∧ e.homeState = .failed
  · rw [if_pos hd, if_pos hd, if_pos hh, if_pos hh, hadded]
    exact addFault_room { s with lpu.log := s.lpu.log ++ [first] } _ hroom'
  · rw [if_pos hd, if_pos hd, if_neg hh, if_neg hh, hadded, List.append_nil]
  · rw [if_neg hd, if_neg hd, if_pos hh, if_pos hh, List.append_nil, addFault_room s _ hroom]
  · rw [if_neg hd, if_neg hd, if_neg hh, if_neg hh, List.append_nil, List.append_nil]

theorem failedRecords_noHome (h : e.msg.homeTake = false) :
    s.failedRecords e =
      if e.destState = .failed then s.addFault { kind := .resendExhausted, line := some e.msg.line, peer := some e.msg.dest } else s := by
  simp [State.failedRecords, h]

theorem endDelivery_plain (h : e.onlyFresh = false) : s.endDelivery e = s.dropSqHead.failedRecords e := by
  simp [State.endDelivery, h]

theorem endDelivery_taken (h : e.onlyFresh = true) (hfresh : e.freshState = .taken) : s.endDelivery e = s.dropSqHead := by
  simp [State.endDelivery, h, hfresh]

end

/-! ### The place that an entry leaves (R51) -/

/-- What follows is what the row SQ_PLACE_GIVEN does, where no conversion waits that could be carried out. -/
theorem settle_eq_sqPlaceGiven {s : State} (hreq : s.noRequest) (hconv : s.noConversion) (hout : s.out = noOutput)
    (s0 : State) (j : Judged) : Host.Outcome.next (s.settle s0 j) = exec .sqPlaceGiven s := by
  have hbegin : s.begin = s := by
    unfold State.begin
    rw [show ({ responses := [], sent := none } : Outputs) = s.out from hout.symm]
  have hreq' : s.giveOne.noRequest := hreq.congr (by rw [giveOne_lpu]) (by rw [giveOne_lpu])
  show _ = Host.Outcome.next (s.begin.giveOne.settle s.begin .byChange)
  rw [hbegin, settle_noRequest hreq, settle_noRequest hreq', followUp_giveOne hconv]

/-! ### The head of the sending order with what was read (R53) -/

section
variable {s : State} {e r : SqEntry} {rest : List SqEntry} {d h : Delivery}

theorem after_unread (x : Delivery) (c : Option AckCode) : x.after false c = x := by cases x <;> rfl

theorem anyOwed_iff : e.anyOwed = true ↔ e.destState = .owed ∨ (e.msg.homeTake = true ∧ e.homeState = .owed) := by
  simp [SqEntry.anyOwed]

theorem ends_eq_false (howed : e.anyOwed = true) (htries : e.tries < 4) : e.ends = false := by
  rw [← Bool.not_eq_true, ends_iff, howed]
  simp [htries]

theorem failOwed_eq :
    ({ e with destState := d, homeState := h } : SqEntry).failOwed =
      { e with
        destState := if d = .owed then .failed else d
        homeState := if h = .owed ∧ e.msg.homeTake = true then .failed else h } := by
  cases htake : e.msg.homeTake <;> simp [SqEntry.failOwed, htake, fail_eq]

theorem freshState_eq : e.freshState = if e.msg.homeTake = true then e.homeState else e.destState := rfl

/-- Where the head of the sending order alone changes, in what it has delivered and in whether it waits for its conversion, nothing
becomes possible but its conversion. -/
theorem headReplaced_settled (hs : s.idle.Settled) (hsq : s.bus.sq = e :: rest) (honly : r.onlyFresh = e.onlyFresh) (hmsg : r.msg = e.msg)
    (hconv : (r.converting = e.converting) ∨ s.rqFree = false) : ({ s with bus.sq := r :: rest } : State).idle.Settled where
  conv := by
    rcases hconv with hsame | hfull
    · refine hs.conv.imp (fun hall => ?_) fun hfull => hfull
      have hall : ∀ q ∈ e :: rest, q.converting = false := hsq ▸ hall
      intro q hq
      rcases List.mem_cons.mp hq with rfl | hq
      · exact hsame.trans (hall e (by simp))
      · exact hall q (List.mem_cons_of_mem _ hq)
    · exact .inr hfull
  places := hs.places.imp_right fun hfull => by
    rw [sqFree_idle rfl] at hfull ⊢
    rw [← hfull]
    show decide ((r :: rest).length < 8) = decide (s.bus.sq.length < 8)
    rw [hsq]
    rfl
  victim := hs.victim
  walk := hs.walk.imp_right fun hstays => by
    refine walkStays_of_frame (s := s.idle) hstays rfl rfl rfl rfl (fun _ hl => hl) (fun l hl => ?_) (fun hempty => ?_) fun hheld => hheld
    · have hold : ((e :: rest).any fun q => q.onlyFresh && q.msg.line == l) = true := hsq ▸ hl
      show ((r :: rest).any fun q => q.onlyFresh && q.msg.line == l) = true
      rw [List.any_cons] at hold ⊢
      rw [honly, hmsg]
      exact hold
    · exact absurd hempty (by simp [State.idle])

end

/-! ### The close, by what the head of the sending order has then read -/

section
variable {s y : State} {a : AckWindow} {dest home : BitVec 3} {e r : SqEntry} {rest : List SqEntry} {d h : Delivery}

/-- The destination's and the home's position, of a window that this station does not itself answer. -/
theorem read_eq (hdest : a.dest = none) (hhome : a.home = none)
    (hd : d = (if e.destState = .owed then (if dest = 4 then .taken else if dest = 2 then .stale else .owed) else e.destState))
    (hh : h = (if e.homeState = .owed ∧ a.homeTake = true then (if home = 4 then .taken else if home = 2 then .stale else .owed)
      else e.homeState)) :
    e.read a.homeTake (ackReads dest a.dest) (ackReads home a.home) = { e with destState := d, homeState := h } := by
  rw [hdest, hhome, SqEntry.read, after_ackReads, after_ackReads, hd, hh]
  simp only [and_true]

/-- The destination's position alone. -/
theorem read_owed (hdest : a.dest = none) (howed : e.destState = .owed) (c : Option AckCode) :
    e.read a.homeTake (ackReads dest a.dest) c =
      { e with
        destState := if dest = 4 then .taken else if dest = 2 then .stale else .owed
        homeState := e.homeState.after a.homeTake c } := by
  rw [hdest, SqEntry.read, after_ackReads, if_pos ⟨howed, rfl⟩]

theorem exec_ackClose_stays (hack : s.bus.medium = .acking a) (hown : a.own = true) (hsq : s.bus.sq = e :: rest) (he : e.converting = false)
    (hr : e.read a.homeTake (ackReads dest a.dest) (ackReads home a.home) = r) (hends : r.ends = false) :
    exec (.acknowledgementWindowClose dest home) s =
      .next (({ s.begin with bus.sq := r :: rest } : State).idle.settle s.begin { remote := false, home := false }) := by
  have hread : s.begin.senderAck (some (e.read a.homeTake (ackReads dest a.dest) (ackReads home a.home))) =
      (({ s.begin with bus.sq := r :: rest } : State), false) := by
    rw [hr, senderAck_stays s.begin r hends, changeSqHead_cons (s := s.begin) hsq he]
  rw [exec_ackClose hack, closeAck_own (s := s.begin) hown hsq he hread]

theorem exec_ackClose_ends (hack : s.bus.medium = .acking a) (hown : a.own = true) (hsq : s.bus.sq = e :: rest) (he : e.converting = false)
    (hr : e.read a.homeTake (ackReads dest a.dest) (ackReads home a.home) = r) (hends : r.ends = true)
    (hy : s.begin.endDelivery r.failOwed = y) :
    exec (.acknowledgementWindowClose dest home) s = .next (y.idle.settle s.begin { remote := true, home := false }) := by
  have hread : s.begin.senderAck (some (e.read a.homeTake (ackReads dest a.dest) (ackReads home a.home))) = (y, true) := by
    rw [hr, senderAck_ends s.begin r hends, hy]
  rw [exec_ackClose hack, closeAck_own (s := s.begin) hown hsq he hread]

/-- A message that its destination alone was to take leaves with no record where the destination took it. -/
theorem endDelivery_destTaken (htake : e.msg.homeTake = false) (hd : e.destState = .taken) : s.endDelivery e = s.dropSqHead := by
  cases hfresh : e.onlyFresh with
  | false => rw [endDelivery_plain hfresh, failedRecords_noHome htake, if_neg (by simp [hd])]
  | true =>
    refine endDelivery_taken hfresh ?_
    rw [freshState_eq, htake, if_neg Bool.false_ne_true, hd]

/-- R56: a message that its destination alone was to take leaves with one record where the destination did not take it. -/
theorem endDelivery_destFailed (honly : e.onlyFresh = false) (htake : e.msg.homeTake = false) (hd : e.destState = .failed)
    (hlog : s.lpu.log.length < 8) (hsq : s.bus.sq = r :: rest) (hr : r.converting = false) :
    s.endDelivery e =
      { s with
        bus.sq := rest
        lpu.log := s.lpu.log ++ [{ kind := .resendExhausted, line := some e.msg.line, peer := some e.msg.dest }] } := by
  rw [endDelivery_plain honly, failedRecords_noHome htake, if_pos hd, dropSqHead_cons hsq hr]
  exact addFault_room ({ s with bus.sq := rest } : State) _ hlog

/-- R55: an only-fresh message that the party with the fresh data did not take waits for its conversion. -/
theorem endDelivery_waits (honly : e.onlyFresh = true) (hfresh : e.freshState ≠ .taken) (hsq : s.bus.sq = r :: rest)
    (hr : r.converting = false) : s.endDelivery e = { s with bus.sq := { e with converting := true } :: rest } := by
  rw [State.endDelivery, if_pos honly, if_neg hfresh, changeSqHead_cons hsq hr]

/-- Where nothing follows the close, and where a freed place goes to an asker. -/
theorem close_given {left : State} {c : Instr} {s0 : State} {j : Judged} (hexec : exec c s = .next (left.settle s0 j))
    (hout : left.out = noOutput) (hreq : left.noRequest) :
    (left.Settled → left.portStays → exec c s = .next left) ∧ (left.noConversion → exec c s = exec .sqPlaceGiven left) :=
  ⟨fun hsettled hport => by rw [hexec, settle_calm hsettled hport hreq],
   fun hconv => hexec.trans (settle_eq_sqPlaceGiven hreq hconv hout s0 j)⟩

end

/-- Settles O50: by whose the message was; at the sender by what the head of its sending order has read, whether its delivery ends, and
what became of the party with the fresh data. -/
theorem acknowledgementOutcomes : Obligations.AcknowledgementOutcomes := by
  unfold Obligations.AcknowledgementOutcomes
  refine ⟨fun s a dest home hack => ⟨fun hown hstill => ?other, fun e rest hown hnone hsq he htake howed =>
      ⟨fun h4 hstill => ?taken, fun h4 h2 htries hread hstill => ?again, fun h4 h2 htries honly hlog hstill => ?failed⟩⟩,
    fun s a dest home e rest d h hack hown hdest hhome hsq he hd hh =>
      ⟨fun howed htries hstill => ?stays, fun d' h' hd' hh' hends => ?ends⟩⟩
  case other =>
    obtain ⟨hsettled, hport⟩ := settled_of_still hstill
    have hreq := noRequest_of_still hstill
    rw [exec_ackClose hack, closeAck_other hown]
    exact congrArg Host.Outcome.next (settle_calm hsettled.begin hport hreq _ _)
  case taken =>
    obtain ⟨hsettled, hport⟩ := settled_of_still hstill
    have hreq := noRequest_of_still hstill
    have hread := read_owed (dest := dest) hnone howed (ackReads home a.home)
    rw [if_pos h4] at hread
    have hends :
        ({ e with destState := .taken, homeState := e.homeState.after a.homeTake (ackReads home a.home) } : SqEntry).ends = true := by
      simp [ends_iff, SqEntry.anyOwed, htake]
    have hend := endDelivery_destTaken (s := s.begin) (e := SqEntry.failOwed
      { e with destState := .taken, homeState := e.homeState.after a.homeTake (ackReads home a.home) }) htake rfl
    rw [dropSqHead_cons (s := s.begin) hsq he] at hend
    rw [exec_ackClose_ends hack hown hsq he hread hends hend]
    exact congrArg Host.Outcome.next (settle_calm hsettled.begin hport hreq _ _)
  case again =>
    obtain ⟨hsettled, hport⟩ := settled_of_still hstill
    have hreq := noRequest_of_still hstill
    have hsame : e.read a.homeTake (ackReads dest a.dest) (ackReads home a.home) = e := by
      rw [read_owed hnone howed, if_neg h4, if_neg h2, hread, after_unread, ← howed]
    have hends : e.ends = false := ends_eq_false (anyOwed_iff.mpr (.inl howed)) htries
    rw [exec_ackClose_stays hack hown hsq he hsame hends, ← hsq]
    exact congrArg Host.Outcome.next (settle_calm hsettled.begin hport hreq _ _)
  case failed =>
    obtain ⟨hsettled, hport⟩ := settled_of_still hstill
    have hreq := noRequest_of_still hstill
    have hread := read_owed (dest := dest) hnone howed (ackReads home a.home)
    rw [if_neg h4, if_neg h2] at hread
    have hends : ({ e with destState := .owed, homeState := e.homeState.after a.homeTake (ackReads home a.home) } : SqEntry).ends = true :=
      (ends_iff _).mpr (.inr htries.ge)
    have hend := endDelivery_destFailed (s := s.begin) (e := SqEntry.failOwed
      { e with destState := .owed, homeState := e.homeState.after a.homeTake (ackReads home a.home) }) honly htake rfl hlog hsq he
    let left : State :=
      { s.begin with
        bus := { s.bus with medium := .idle, sq := rest }
        lpu.log := s.lpu.log ++ [{ kind := .resendExhausted, line := some e.msg.line, peer := some e.msg.dest }] }
    have hnext : left.Settled := ⟨hsettled.conv, hsettled.places, hsettled.victim, hsettled.walk⟩
    have hquiet : left.settle s.begin { remote := true, home := false } = left :=
      settle_calm hnext (hport.congr rfl rfl) (hreq.congr rfl rfl) _ _
    rw [exec_ackClose_ends hack hown hsq he hread hends hend]
    exact congrArg Host.Outcome.next hquiet
  case stays =>
    obtain ⟨hsettled, hport⟩ := settled_of_still hstill
    have hreq := noRequest_of_still hstill
    have hends : ({ e with destState := d, homeState := h } : SqEntry).ends = false := ends_eq_false (anyOwed_iff.mpr howed) htries
    have hnext := headReplaced_settled (s := s.begin) (r := { e with destState := d, homeState := h }) hsettled.begin hsq rfl rfl (.inl rfl)
    rw [exec_ackClose_stays hack hown hsq he (read_eq hdest hhome hd hh) hends]
    rw [settle_calm hnext (hport.congr rfl rfl) (hreq.congr rfl rfl)]
    rfl
  case ends =>
    let ended : SqEntry := { e with destState := d', homeState := h' }
    have hfail : ({ e with destState := d, homeState := h } : SqEntry).failOwed = ended := by rw [failOwed_eq, ← hd', ← hh']
    have hends : ({ e with destState := d, homeState := h } : SqEntry).ends = true := by
      refine (ends_iff _).mpr (hends.imp_left fun hnot => ?_)
      exact Bool.eq_false_iff.mpr fun howed => hnot (anyOwed_iff.mp howed)
    have hexec : ∀ {y : State}, s.begin.endDelivery ended = y → exec (.acknowledgementWindowClose dest home) s =
        .next (y.idle.settle s.begin { remote := true, home := false }) :=
      fun hy => exec_ackClose_ends hack hown hsq he (read_eq hdest hhome hd hh) hends (hfail ▸ hy)
    have hdrop : s.begin.dropSqHead = { s.begin with bus.sq := rest } := dropSqHead_cons (s := s.begin) hsq he
    refine ⟨fun left honly hlog hleft => ?plain, fun left honly hfresh hleft => ?fresh, fun honly hfresh hfull hstill => ?waits,
      fun x honly hfresh hfree hx hall hempty hwanted hport hmode hlog left hleft => ?becomes⟩
    case plain =>
      have hend : s.begin.endDelivery ended = { left with bus.medium := s.bus.medium } := by
        rw [endDelivery_plain (e := ended) honly, hdrop, failedRecords_eq (s := { s.begin with bus.sq := rest }) hlog, hleft]
        rfl
      have hclose : exec (.acknowledgementWindowClose dest home) s = .next (left.settle s.begin { remote := true, home := false }) := by
        rw [hexec hend, hleft]
        rfl
      refine ⟨fun hstill => ?_, fun _ hall hempty _ _ _ => ?_⟩
      · obtain ⟨hsettled, hport⟩ := settled_of_still hstill
        have hnext : left.Settled := hleft ▸ ⟨hsettled.conv, hsettled.places, hsettled.victim, hsettled.walk⟩
        exact (close_given hclose (by rw [hleft]) (hleft ▸ noRequest_of_still hstill)).1 hnext (hleft ▸ hport)
      · exact (close_given hclose (by rw [hleft]) (hleft ▸ noRequest_of_portEmpty hempty)).2 (hleft ▸ .inl hall)
    case fresh =>
      have hend : s.begin.endDelivery ended = { s.begin with bus.sq := rest } := by
        rw [endDelivery_taken (e := ended) honly (freshState_eq.trans hfresh), hdrop]
      have hclose : exec (.acknowledgementWindowClose dest home) s = .next (left.settle s.begin { remote := true, home := false }) := by
        rw [hexec hend, hleft]
        rfl
      refine ⟨fun hstill => ?_, fun _ hall hempty _ _ _ => ?_⟩
      · obtain ⟨hsettled, hport⟩ := settled_of_still hstill
        have hnext : left.Settled := hleft ▸ hsettled.begin
        exact (close_given hclose (by rw [hleft]) (hleft ▸ noRequest_of_still hstill)).1 hnext (hleft ▸ hport)
      · exact (close_given hclose (by rw [hleft]) (hleft ▸ noRequest_of_portEmpty hempty)).2 (hleft ▸ .inl hall)
    case waits =>
      obtain ⟨hsettled, hport⟩ := settled_of_still hstill
      have hreq := noRequest_of_still hstill
      let kept : SqEntry := { ended with converting := true }
      have hend : s.begin.endDelivery ended = { s.begin with bus.sq := kept :: rest } :=
        endDelivery_waits (s := s.begin) honly (fun htaken => hfresh (freshState_eq.symm.trans htaken)) hsq he
      have hnext := headReplaced_settled (s := s.begin) (r := kept) hsettled.begin hsq rfl rfl (.inr hfull)
      rw [hexec hend, settle_calm hnext (hport.congr rfl rfl) (hreq.congr rfl rfl)]
      rfl
    case becomes =>
      let kept : SqEntry := { ended with converting := true }
      let waiting : State := ({ s.begin with bus.sq := kept :: rest } : State).idle
      have hreq : waiting.noRequest := noRequest_of_portEmpty hempty
      have hend : s.begin.endDelivery ended = { s.begin with bus.sq := kept :: rest } :=
        endDelivery_waits (s := s.begin) honly (fun htaken => hfresh (freshState_eq.symm.trans htaken)) hsq he
      have hreturn : waiting.convertOne = left := by
        have hcache : (waiting.emptyCopy e.msg.line).cache = (s.emptyCopy e.msg.line).cache :=
          congrArg (·.cache) (emptyCopy_eq (s := s) (x := waiting) rfl)
        rw [convertOne_eq (s := waiting) (before := []) rfl (by simp) rfl hfree hx hlog, hleft, ← hcache]
        rfl
      have hreq' : left.noRequest := hleft ▸ hreq
      have hclose : exec (.acknowledgementWindowClose dest home) s = .next (left.settle s.begin { remote := true, home := false }) := by
        rw [hexec hend, settle_noRequest hreq', ← hreturn, followUp_convertOne]
        exact congrArg Host.Outcome.next (settle_noRequest hreq _ _)
      have hconv : left.noConversion := hleft ▸ .inl hall
      refine ⟨fun hask => ?_, fun _ => ?_⟩
      · have hnext : left.Settled := by
          refine ⟨hconv, .inl ?_, .inl (nextVictim_nil ?_), .inl ?_⟩
          · rw [hleft]
            exact hask
          · rw [hleft]
            exact hwanted
          · rw [hleft]
            exact hmode
        have hport' : left.portStays := hleft ▸ hport
        exact (close_given hclose (by rw [hleft]) hreq').1 hnext hport'
      · exact (close_given hclose (by rw [hleft]) hreq').2 hconv

end Sys2Proof.Machine
end

section
/-!
PROOF. What meets a PRT entry of the line: a local Read or Write at the LRQ head (R28, R61, R64, R114), and a peer's request (R75).
-/

namespace Sys2Proof.Machine

/-! ### A request that attaches to the entry of its line, or waits (R64, R114) -/

section
variable {s : State} {d : Decoded} {l : LineNo} {t : ReqTag} {e : PrtEntry}

/-- The entry that is found for a line is the line's. -/
theorem line_of_findEntry (h : s.findEntry l = some t) (he : s.entry t = some e) : e.line = l := by
  have hmatch := List.find?_some h
  rw [he] at hmatch
  exact beq_iff_eq.mp hmatch

/-- R64, for a Read or a Write: the entry is not Finishing, its list has room, and its kind takes the operation. -/
theorem attaches_iff (hop : d.plain) (hline : e.line = d.line) :
    s.attaches e d.item.op = true ↔ e.phase ≠ .finishing ∧ e.waiting.length < 4 ∧
      ((d.item.op = .read ∧ (e.kind = .fetch ∨ e.kind = .claim ∨ e.kind = .promote)) ∨
        (d.item.op = .write ∧ (e.kind = .claim ∨ e.kind = .promote) ∧ s.underAnswer d.line = false)) := by
  have hreads : ∀ k : PrtKind, k.suits .read = true ↔ k = .fetch ∨ k = .claim ∨ k = .promote := by rintro ⟨⟩ <;> simp [PrtKind.suits]
  have hwrites : ∀ k : PrtKind, k.suits .write = true ↔ k = .claim ∨ k = .promote := by rintro ⟨⟩ <;> simp [PrtKind.suits]
  have hroom : decide (e.waiting.length < Config.waitingPlaces) = true ↔ e.waiting.length < 4 := decide_eq_true_iff
  rcases hop with hop | hop
  · simp [State.attaches, hop, hline, hreads, hroom, and_assoc]
  · simp [State.attaches, hop, hline, hwrites, hroom, and_assoc]

/-- On the remote cached path the line's entry decides alone. -/
theorem judgeHead_cached_entry (hp : d.path = .cached) (hop : d.plain) (hrq : s.findRq d.line = none) (ht : s.findEntry d.line = some t)
    (he : s.entry t = some e) : s.judgeHead d = if s.attaches e d.item.op then .attach t else .waits := by
  rw [judgeHead_cached hp hop hrq]
  simp only [State.judgeCached, ht, he]

/-- On the remote direct path a request waits for the entry of its line (R62). -/
theorem judgeHead_direct_entry (hp : d.path = .direct) (ht : s.findEntry d.line = some t) : s.judgeHead d = .waits := by
  simp [State.judgeHead, hp, State.judgeDirect, ht]

/-- R114: a Read or Write of a home line whose recall is in flight. -/
theorem judgeHead_recalled {x : ExportEntry} (hp : d.path = .home) (hop : d.plain) (hunder : s.underAnswer d.line = false)
    (hx : s.findExport d.line = some x) (hflag : x.awaiting = none) (hstate : x.state = .inFlight) (ht : s.findEntry d.line = some t)
    (he : s.entry t = some e) :
    s.judgeHead d =
      if e.phase ≠ .finishing ∧ e.waiting.length < 4 ∧ s.hwqFree = true then .attachRecall t else .waits := by
  rcases hop with hop | hop <;>
    simp only [State.judgeHead, hp, State.judgeHome, hop, State.judgeHomePlain, hunder, hx, hflag, hstate, State.judgeAttachRecall, ht,
      he] <;> rfl

/-- The entry with an item at the tail of its list (R61). -/
def PrtEntry.joined (e : PrtEntry) (i : Item) : PrtEntry := { e with waiting := e.waiting ++ [i] }

theorem actHead_attach (hop : d.plain) (he : s.entry t = some e) : s.actHead d (.attach t) = s.setEntry t (e.joined d.item) := by
  simp only [State.actHead, State.attachItem, he, pendPin_plain hop]
  rfl

theorem actHead_attachRecall (he : s.entry t = some e) : s.actHead d (.attachRecall t) = s.setEntry t (e.joined d.item) := by
  simp only [State.actHead, State.attachItem, he]
  rfl

/-- An entry that keeps its kind leaves nothing to happen that there was not. -/
theorem calm_setEntry {e' : PrtEntry} (h : s.calm = true) (he : s.entry t = some e) (hkind : e'.kind = e.kind) :
    (s.setEntry t e').calm = true := by
  obtain ⟨hsettled, hport⟩ := calm_iff.mp h
  refine calm_iff.mpr ⟨⟨hsettled.conv, hsettled.places, hsettled.victim.imp_right fun hnone => (freeTag_setEntry he).trans hnone,
    hsettled.walk.imp_right fun hstays => ?_⟩, hport⟩
  exact walkStays_of_frame (s := s) hstays rfl rfl rfl (entryKinds_setEntry he hkind) (fun _ hl => hl) (fun _ hl => hl) (fun hsq => hsq)
    fun hheld => hheld

variable {r : LocalReq} {tag : PTag} {code : BitVec 3} {addr : LocalAddr} {len : BitVec 6} {data : List Byte} {a : HeadAction}

/-- A request that attaches in the event of its acceptance joins the list, and nothing else changes. -/
theorem exec_attaches (hpass : s.passesOn tag code addr len data d = true) (he : s.entry t = some e) (hj : s.judgeHead d = a)
    (hleaves : a.leaves = true) (hneeds : a.needsEntry = false)
    (hact : ∀ x : State, x.entry t = some e → x.actHead d a = x.setEntry t (e.joined d.item)) :
    exec (.localRequestAcceptance tag code addr len data) s = .next
      { s with
        lpu.tags := s.tagsWith tag
        engine := (s.setEntry t (e.joined d.item)).engine
        out := noOutput } := by
  obtain ⟨hcalm, _, _, _⟩ := passesOn_facts hpass
  refine exec_headLeaves hpass hj hleaves (by simp [hneeds]) rfl (fun r => ?_) (calm_setEntry (e' := e.joined d.item) hcalm he rfl)
  rw [hact (s.headWaiting tag r d) he]
  rfl

end

/-- Settles O29: by the path, what the judgement of the head comes to. -/
theorem requestsThatAttach : Obligations.RequestsThatAttach := by
  unfold Obligations.RequestsThatAttach
  intro s tag code addr len data r d t e attaches hpass hacc hop ht he
  have hline : e.line = d.line := line_of_findEntry ht he
  refine ⟨fun hp => exec_headStays hpass hacc (.inl (judgeHead_direct_entry hp ht)), ?_⟩
  rintro (⟨hp, hrq, hattaches⟩ | ⟨hp, hunder, ⟨x, hx, hflag, hstate⟩, _, hattaches⟩)
  · have hj := judgeHead_cached_entry hp hop hrq ht he
    rw [← attaches_iff hop hline] at hattaches
    refine ⟨fun h => ?_, fun h => ?_⟩
    · rw [if_pos (hattaches.mp h)] at hj
      exact exec_attaches hpass he hj rfl rfl fun _ hx => actHead_attach hop hx
    · rw [if_neg fun hyes => h (hattaches.mpr hyes)] at hj
      exact exec_headStays hpass hacc (.inl hj)
  · have hj := judgeHead_recalled hp hop hunder hx hflag hstate ht he
    refine ⟨fun h => ?_, fun h => ?_⟩
    · rw [if_pos (hattaches.mp h)] at hj
      exact exec_attaches hpass he hj rfl rfl fun _ hx => actHead_attachRecall hx
    · rw [if_neg fun hyes => h (hattaches.mpr hyes)] at hj
      exact exec_headStays hpass hacc (.inl hj)

/-! ### The Request Engine's judgement (R75) -/

theorem pinLed_eq_false_iff {e : PrtEntry} : e.pinLed = false ↔ ∀ i ∈ e.waiting, i.op ≠ .pinnedRead := by simp [PrtEntry.pinLed]

/-- Settles O38: by the entry's phase, then by its kind. -/
theorem requestEngineSnoopTable : Obligations.RequestEngineSnoopTable := by
  unfold Obligations.RequestEngineSnoopTable
  intro e t k
  refine ⟨fun hphase => ?_, fun hkind hphase => ?_, fun hkind hphase => ?_, fun hkind hphase => ?_, fun hkind hphase => ?claim,
    fun hkind hphase => ?_, fun x hx hkind hphase => ?other⟩
  case claim =>
    simp only [PrtEntry.judge, hphase, hkind, ← pinLed_eq_false_iff]
    cases e.follower <;> cases e.pinLed <;> rfl
  case other =>
    subst hkind
    have hkinds : e.kind = .directRead ∨ e.kind = .directWrite ∨ e.kind = .recall := by simpa using hx
    cases hp : e.phase with
    | finishing => exact absurd hp hphase
    | queued => rcases hkinds with hk | hk | hk <;> simp [PrtEntry.judge, hp, hk]
    | awaitingData => rcases hkinds with hk | hk | hk <;> simp [PrtEntry.judge, hp, hk]
  · simp [PrtEntry.judge, hphase]
  · simp [PrtEntry.judge, hphase, hkind]
  · cases k <;> simp [PrtEntry.judge, hphase, hkind]
  · cases hf : e.follower <;> simp [PrtEntry.judge, hphase, hkind, hf]
  · cases k <;> simp [PrtEntry.judge, hphase, hkind]

end Sys2Proof.Machine
end

section
/-!
PROOF. The end of a PRT entry by its data timer, at once or at the close of a window (R80), with the message that a follower is then owed
(R90), and the walk that runs when an entry is freed (R129).
-/

namespace Sys2Proof.Machine

/-! ### A station at which an entry's end brings about nothing more -/

/-- What `State.Quiet` reads. -/
def State.agenda (s : State) : List SqEntry × List Asker × Medium × ReturnUnit × List LineNo × List LocalReq × Option Decoded :=
  (s.bus.sq, s.bus.askers, s.bus.medium, s.ret, s.home.wanted, s.lpu.lrq, s.lpu.head)

/-- No conversion and no asker waits that could be given its place, no line is wanted, and no request waits in the LRQ: a PRT entry that
comes free is taken by no party (R51, R55, R63). -/
structure State.Quiet (s : State) : Prop where
  conv    : s.noConversion
  places  : s.bus.askers = [] ∨ s.sqFree = false
  wanted  : s.home.wanted = []
  request : s.noRequest

section
variable {s x : State} {t : ReqTag}

theorem quiet_of_still (h : s.still = true) (hwanted : s.home.wanted = []) : s.Quiet :=
  have hsettled := (settled_of_still h).1
  ⟨hsettled.conv, hsettled.places, hwanted, noRequest_of_still h⟩

theorem State.Quiet.congr (h : s.Quiet) (hx : x.agenda = s.agenda) : x.Quiet := by
  simp only [State.agenda, Prod.mk.injEq] at hx
  obtain ⟨hsq, hask, hmedium, hret, hwanted, hlrq, hhead⟩ := hx
  have hfree : x.sqFree = s.sqFree := by simp only [State.sqFree, sqHeld_congr hmedium, hsq]
  exact ⟨h.conv.congr hsq hret, by rw [hask, hfree]; exact h.places, hwanted.trans h.wanted, h.request.congr hlrq hhead⟩

theorem State.Quiet.settled (h : s.Quiet) (hmode : s.ctl.mode ≠ .quiescing) : s.Settled :=
  ⟨h.conv, h.places, .inl (nextVictim_nil h.wanted), .inl hmode⟩

/-- Where no quiesce walk can run either, the memory port begins at most. -/
theorem settle_quiet (h : s.Quiet) (hmode : s.ctl.mode ≠ .quiescing) (s0 : State) (j : Judged) : s.settle s0 j = s.startPort := by
  rw [settle_noRequest h.request, followUp_settled (h.settled hmode)]

theorem settle_quiet_stays (h : s.Quiet) (hmode : s.ctl.mode ≠ .quiescing) (hport : s.portStays) (s0 : State) (j : Judged) :
    s.settle s0 j = s :=
  settle_calm (h.settled hmode) hport h.request s0 j

theorem State.Quiet.freeEntry (h : s.Quiet) (t : ReqTag) : (s.freeEntry t).Quiet where
  conv := h.conv.congr rfl rfl
  places := h.places.imp freeEntry_askers fun hfull => hfull
  wanted := h.wanted
  request := h.request.congr rfl rfl

/-- An asker that finds the SQ full waits. -/
theorem State.Quiet.ask (h : s.Quiet) (hfull : s.sqFree = false) (a : Asker) : (s.ask a).Quiet where
  conv := h.conv.congr rfl rfl
  places := .inr hfull
  wanted := h.wanted
  request := h.request.congr rfl rfl

/-- A new entry of the SQ leaves no asker waiting. -/
theorem State.Quiet.addSq (h : s.Quiet) (hfree : s.sqFree = true) (m : DataMsg) (f : Bool) : (s.addSq m f).Quiet where
  conv := h.conv.snoc rfl rfl
  places := .inl (h.places.resolve_right (by simp [hfree]))
  wanted := h.wanted
  request := h.request.congr rfl rfl

/-- An asker that finds a place free is given it in the same event (R51). -/
theorem settle_asked {a : Asker} (h : s.Quiet) (hfree : s.sqFree = true) (hgive : s.giveTo a = x) (hx : x.Quiet)
    (hmode : x.ctl.mode ≠ .quiescing) (hport : x.portStays) (s0 : State) (j : Judged) : (s.ask a).settle s0 j = x := by
  have hnone : s.bus.askers = [] := h.places.resolve_right (by simp [hfree])
  have hasks : (s.ask a).bus.askers = [a] := by
    show s.bus.askers ++ [a] = [a]
    rw [hnone]
    rfl
  have hself : ({ s.ask a with bus.askers := [] } : State) = s := by
    rw [← hnone]
    rfl
  have hgiven : (s.ask a).giveOne = x := by rw [giveOne_cons hasks hfree, hself, hgive]
  have hreq : (s.ask a).noRequest := h.request.congr rfl rfl
  have hconv : (s.ask a).noConversion := h.conv.congr rfl rfl
  rw [settle_noRequest hreq, ← followUp_giveOne hconv, hgiven, followUp_settled (hx.settled hmode), startPort_stays hport]

end

/-! ### An entry that has ended: it is freed, or waits for its follower's message (R65, R90) -/

section
variable {s x : State} {t : ReqTag} {e : PrtEntry} {f : Follower}

/-- The end of an entry touches the PRT, the send list and the askers alone. -/
theorem abandonOrFree_idle : (s.abandonOrFree t e).idle = s.idle.abandonOrFree t e := by
  unfold State.abandonOrFree
  split <;> rfl

theorem settle_ended_alone (h : s.Quiet) (hmode : s.ctl.mode ≠ .quiescing) (hport : s.portStays) (hf : e.follower = none)
    (s0 : State) (j : Judged) : (s.abandonOrFree t e).settle s0 j = s.freeEntry t := by
  rw [abandonOrFree_none hf]
  exact settle_quiet_stays (h.freeEntry t) hmode (hport.congr rfl rfl) s0 j

/-- R65: the entry is Finishing until its message has a place. -/
theorem settle_ended_waits (h : s.Quiet) (hmode : s.ctl.mode ≠ .quiescing) (hport : s.portStays) (hf : e.follower = some f)
    (hfull : s.sqFree = false) (s0 : State) (j : Judged) : (s.abandonOrFree t e).settle s0 j = (s.setEntry t e.ended).ask (.prt t) := by
  rw [abandonOrFree_some hf]
  have hset : (s.setEntry t e.ended).Quiet := h.congr rfl
  exact settle_quiet_stays (hset.ask hfull _) hmode (hport.congr rfl rfl) s0 j

/-- R90: the message is placed in the same event where the SQ has a place, and the entry is freed. -/
theorem settle_ended_placed (h : s.Quiet) (hmode : s.ctl.mode ≠ .quiescing) (hport : s.portStays) (hf : e.follower = some f)
    (hfree : s.sqFree = true) (s0 : State) (j : Judged) :
    (s.abandonOrFree t e).settle s0 j = (s.addSq (abandonedMsg e.line f) false).freeEntry t := by
  have hset : (s.setEntry t e.ended).Quiet := h.congr rfl
  have hentry : (s.setEntry t e.ended).entry t = some e.ended := (entry_setEntry t).trans (if_pos rfl)
  have hgive : (s.setEntry t e.ended).giveTo (.prt t) = (s.addSq (abandonedMsg e.line f) false).freeEntry t := by
    rw [State.giveTo, placePrt_abandoned hentry rfl hf, placeAbandoned_finishing rfl]
    exact freeEntry_setEntry (s := s.addSq (abandonedMsg e.line f) false)
  rw [abandonOrFree_some hf]
  exact settle_asked hset hfree hgive ((h.addSq hfree _ _).freeEntry t) hmode (hport.congr rfl rfl) s0 j

end

/-! ### The expiry of an entry's data timer (R80) -/

section
variable {s x : State} {t : ReqTag} {e : PrtEntry} {st : Status}

/-- R80: the entry's list fails, its end is recorded, and it is freed or owes its follower a message. -/
theorem timeOut_eq (hpin : s.lpu.pinRecall = none) (hlog : s.lpu.log.length < 8) (hout : s.out = noOutput) :
    s.timeOut t e = (s.failed e .dataTimeout [s.endRecord e .dataTimeout]).abandonOrFree t e := endEntry_eq hpin hlog hout

theorem expireData_held (he : s.entry t = some e) (hphase : e.phase = .awaitingData) (htimer : e.timer.isSome = true)
    (hunder : s.underAnswer e.line = true) : s.expireData t = s.setEntry t { e with timer := none, expiryHeld := true } := by
  simp only [State.expireData, he, hphase, htimer, hunder, and_self, if_true]

theorem expireData_taken (he : s.entry t = some e) (hphase : e.phase = .awaitingData) (htimer : e.timer.isSome = true)
    (hunder : s.underAnswer e.line = false) : s.expireData t = s.timeOut t e := by
  simp only [State.expireData, he, hphase, htimer, hunder, and_self, if_true, Bool.false_eq_true, if_false]

theorem exec_dataTimer_taken (hstill : s.still = true) (hlog : s.lpu.log.length < 8) (he : s.entry t = some e)
    (hphase : e.phase = .awaitingData) (htimer : e.timer.isSome = true) (hunder : s.underAnswer e.line = false) :
    exec (.dataTimerExpiry t) s = .next
      (((s.failed e .dataTimeout [s.endRecord e .dataTimeout]).abandonOrFree t e).settle s.begin .byChange) := by
  obtain ⟨_, _, _, hpin⟩ := still_iff.mp hstill
  have hend := timeOut_eq (s := s.begin) (t := t) (e := e) hpin hlog rfl
  rw [failed_begin] at hend
  show Host.Outcome.next ((s.begin.expireData t).settle s.begin .byChange) = _
  rw [expireData_taken (s := s.begin) he hphase htimer hunder, hend]
  rfl

/-- Every entry but one that holds its expiry back has none held back. -/
def State.OthersNotHeld (s : State) (t : ReqTag) : Prop := ∀ u, u ≠ t → ∀ e, s.entry u = some e → e.expiryHeld = false

theorem State.OthersNotHeld.setEntry (h : s.OthersNotHeld t) : (s.setEntry t e).OthersNotHeld t := fun u hu x hx => by
  rw [entry_setEntry, if_neg hu] at hx
  exact h u hu x hx

/-- The end of the entry leaves no expiry held back. -/
theorem State.OthersNotHeld.ended (h : s.OthersNotHeld t) : (s.abandonOrFree t e).NoneHeld := by
  intro u x hx
  by_cases hu : u = t
  · subst hu
    cases hf : e.follower with
    | none =>
      rw [abandonOrFree_none hf, State.entry, prt_freeEntry, if_pos rfl] at hx
      cases hx
    | some f =>
      rw [abandonOrFree_some hf] at hx
      obtain rfl := Option.some.inj (((entry_setEntry (s := s) u).trans (if_pos rfl)).symm.trans hx)
      rfl
  · refine h u hu x ?_
    cases hf : e.follower with
    | none => rwa [abandonOrFree_none hf, State.entry, prt_freeEntry, if_neg hu] at hx
    | some f =>
      rw [abandonOrFree_some hf] at hx
      exact ((entry_setEntry (s := s) (t := t) (e := e.ended) u).trans (if_neg hu)).symm.trans hx

theorem foldl_takeHeldExpiry_none (h : s.NoneHeld) (ts : List ReqTag) : ts.foldl State.takeHeldExpiry s = s := by
  induction ts with
  | nil => rfl
  | cons u ts ih => rw [List.foldl_cons, takeHeldExpiry_none h, ih]

theorem mem_allTags : ∀ t : ReqTag, t ∈ allTags := by decide

/-- R80: the close takes the expiry of the one entry that holds it back. -/
theorem takeHeldExpiries_one (he : s.entry t = some e) (hheld : e.expiryHeld = true) (hothers : s.OthersNotHeld t)
    (hnone : (s.timeOut t e).NoneHeld) : s.takeHeldExpiries = s.timeOut t e := by
  suffices hfold : ∀ ts : List ReqTag, t ∈ ts → ts.foldl State.takeHeldExpiry s = s.timeOut t e from hfold allTags (mem_allTags t)
  intro ts hmem
  induction ts with
  | nil => cases hmem
  | cons u ts ih =>
    rw [List.foldl_cons]
    by_cases hu : u = t
    · subst hu
      have htaken : s.takeHeldExpiry u = s.timeOut u e := by simp only [State.takeHeldExpiry, he, hheld, if_true]
      rw [htaken, foldl_takeHeldExpiry_none hnone]
    · have hsame : s.takeHeldExpiry u = s := by
        unfold State.takeHeldExpiry
        split
        case h_1 x hx => simp [hothers u hu x hx]
        case h_2 => rfl
      rw [hsame]
      exact ih ((List.mem_cons.mp hmem).resolve_left (Ne.symm hu))

end

/-! ### An expiry taken at the close of a peer's window (R80) -/

section
variable {s x : State} {t : ReqTag} {e : PrtEntry} {w : Window} {n : StationNo} {r : Request} {driven : Table (BitVec 3) 4}

/-- The close of a peer's window that takes an expiry, by what is recorded at it. -/
theorem exec_close_expiry (hopen : s.bus.medium = .answering w) (hown : w.own = none) (hmsg : w.msg = some (n, r))
    (hr : r.enrolment = false)
    (happly : (if (combine driven w.drives).cancels then s.begin else s.begin.applyPeer n r w.record (combine driven w.drives)) = x)
    (he : x.entry t = some e) (hheld : e.expiryHeld = true) (hothers : x.OthersNotHeld t) (hpin : x.lpu.pinRecall = none)
    (hlog : x.lpu.log.length < 8) (hout : x.out = noOutput) :
    exec (.answerWindowClose driven) s = .next
      (((x.failed e .dataTimeout [x.endRecord e .dataTimeout]).idle.abandonOrFree t e).settle s.begin .all) := by
  have hend := timeOut_eq (t := t) (e := e) hpin hlog hout
  have hfailed : (x.failed e .dataTimeout [x.endRecord e .dataTimeout]).OthersNotHeld t := hothers
  have hclose : s.begin.closeWindow w (combine driven w.drives) = x.takeHeldExpiries.idle := by
    simp only [State.closeWindow, hown, hmsg, happly]
  rw [exec_answerWindowClose hopen hmsg hr rfl, hclose, takeHeldExpiries_one he hheld hothers (hend ▸ hfailed.ended), hend]
  exact congrArg (fun y => Host.Outcome.next (State.settle y s.begin .all)) abandonOrFree_idle

theorem applyPeer_nothing {k : LineKind} {u : ReqTag} {g : Gen} {l : LineNo} {c : AnswerCode} (h : w.record = Recorded.nothing) :
    s.applyPeer n (.line k u g l) w.record c = s := by
  rw [h, applyPeer_line rfl, closeEngine_nothing rfl, closeTakeover_nothing rfl, closeCache_nothing rfl rfl]

/-- R83: at a close of Follow the entry has its follower, and nothing else is applied. -/
theorem applyPeer_follows {k : LineKind} {u : ReqTag} {g : Gen} {l : LineNo} {f : Follower}
    (hrec : w.record = { Recorded.nothing with engine := .follow t }) (he : s.entry t = some e)
    (hf : f = { station := n, tag := u, gen := g, kind := if k = .fetch then .fetch else if k = .recall then .recall else .claim }) :
    s.applyPeer n (.line k u g l) w.record .follow = s.setEntry t { e with follower := some f } := by
  rw [hrec, applyPeer_line rfl, closeCache_nothing rfl rfl, closeTakeover_nothing rfl, closeEngine_follow rfl he, if_pos rfl, hf]

theorem setEntry_setEntry {e' : PrtEntry} : (s.setEntry t e).setEntry t e' = s.setEntry t e' := by
  unfold State.setEntry
  dsimp only
  rw [look_put_self, put_put]

/-- What an entry held is given back whatever has been written of it. -/
theorem failed_setEntry {e' : PrtEntry} {st : Status} {rs : List FaultRecord} :
    (s.setEntry t e').failed e st rs = (s.failed e st rs).setEntry t e' := by
  unfold State.failed State.afterFailing
  cases e.way with
  | none => rfl
  | some v =>
    dsimp only
    split <;> rfl

end

/-! ### The walk that runs when an entry is freed (R129, R130) -/

section
variable {s : State}

/-- What the walk leaves as it was. -/
def State.besideWalk (s : State) : LocalPort × HomeUnit × List SqEntry × List Asker × Medium × Controller :=
  (s.lpu, s.home, s.bus.sq, s.bus.askers, s.bus.medium, s.ctl)

/-- The walk waits at the way, or goes on from a station with no fewer RQ entries. -/
theorem walkFrom_succ (n p : Nat) :
    s.walkFrom (n + 1) p = s.setWalk (.atWay p) ∨
      ∃ x : State, x.besideWalk = s.besideWalk ∧ s.ret.rq.length ≤ x.ret.rq.length ∧ s.walkFrom (n + 1) p = x.walkFrom n (p + 1) := by
  cases hway : s.walkAt p with
  | empty => exact .inr ⟨s, rfl, le_rfl, by simp only [State.walkFrom, hway]⟩
  | reserved l => exact .inl (by simp only [State.walkFrom, hway])
  | holding l st d =>
    by_cases hwaits : (s.underAnswer l || s.inTransit l) = true
    · exact .inl (by simp only [State.walkFrom, hway, hwaits, if_true])
    · cases st with
      | copy => exact .inr ⟨s.walkEmpty p, rfl, le_rfl, by simp only [State.walkFrom, hway, hwaits, Bool.false_eq_true, if_false]⟩
      | sole => exact .inr ⟨s.walkEmpty p, rfl, le_rfl, by simp only [State.walkFrom, hway, hwaits, Bool.false_eq_true, if_false]⟩
      | altered =>
        by_cases hfree : s.rqFree = true
        · refine .inr ⟨(s.walkEmpty p).addRq l d [], rfl, by simp [State.addRq], ?_⟩
          simp only [State.walkFrom, hway, hwaits, Bool.false_eq_true, if_false, hfree, if_true]
        · exact .inl (by simp only [State.walkFrom, hway, hwaits, hfree, Bool.false_eq_true, if_false])

theorem walkFrom_keeps (n p : Nat) :
    (s.walkFrom n p).besideWalk = s.besideWalk ∧ s.ret.rq.length ≤ (s.walkFrom n p).ret.rq.length := by
  induction n generalizing s p with
  | zero => exact ⟨rfl, le_rfl⟩
  | succ n ih =>
    rcases walkFrom_succ (s := s) n p with hstop | ⟨x, hx, hrq, hgoes⟩
    · rw [hstop]
      exact ⟨rfl, le_rfl⟩
    · obtain ⟨hbeside, hrq'⟩ := ih (s := x) (p + 1)
      rw [hgoes]
      exact ⟨hbeside.trans hx, hrq.trans hrq'⟩

/-- Where the walk stood before does not matter to it. -/
theorem walkFrom_setWalk (w : Walk) (n p : Nat) : (s.setWalk w).walkFrom n p = s.walkFrom n p := by
  induction n generalizing s p with
  | zero => rfl
  | succ n ih =>
    have hat : (s.setWalk w).walkAt p = s.walkAt p := rfl
    have hunder : ∀ l, (s.setWalk w).underAnswer l = s.underAnswer l := fun _ => rfl
    have htransit : ∀ l, (s.setWalk w).inTransit l = s.inTransit l := fun _ => rfl
    have hfree : (s.setWalk w).rqFree = s.rqFree := rfl
    have hempty : (s.setWalk w).walkEmpty p = (s.walkEmpty p).setWalk w := rfl
    have hrq : ∀ l d, ((s.walkEmpty p).setWalk w).addRq l d [] = ((s.walkEmpty p).addRq l d []).setWalk w := fun _ _ => rfl
    unfold State.walkFrom
    simp only [hat, hunder, htransit, hfree, hempty, hrq, ih]
    (repeat' split) <;> rfl

/-- A walk that has run stays where it is. -/
theorem runWalk_walkFrom (hmode : s.ctl.mode = .quiescing) {n p : Nat} (h : n + p = 2048) :
    (s.walkFrom n p).runWalk = s.walkFrom n p := by
  induction n generalizing s p with
  | zero => simp [State.walkFrom, State.runWalk, hmode]
  | succ n ih =>
    rcases walkFrom_succ (s := s) n p with hstop | ⟨x, hx, _, hgoes⟩
    · have hleft : 2048 - p = n + 1 := by omega
      have hagain : (s.setWalk (.atWay p)).runWalk = (s.setWalk (.atWay p)).walkFrom (2048 - p) p := by
        simp [State.runWalk, hmode]
      rw [hstop, hagain, hleft, walkFrom_setWalk, hstop]
    · have hctl : x.ctl = s.ctl := congrArg (fun y => y.2.2.2.2.2) hx
      rw [hgoes]
      exact ih (hctl ▸ hmode) (by omega)

theorem runWalk_keeps : s.runWalk.besideWalk = s.besideWalk ∧ s.ret.rq.length ≤ s.runWalk.ret.rq.length := by
  unfold State.runWalk
  split
  · split
    · split
      · exact walkFrom_keeps _ _
      · exact ⟨rfl, le_rfl⟩
    · exact walkFrom_keeps _ _
    · exact ⟨rfl, le_rfl⟩
  · exact ⟨rfl, le_rfl⟩

theorem runWalk_runWalk : s.runWalk.runWalk = s.runWalk := by
  by_cases hmode : s.ctl.mode = .quiescing
  · cases hwalk : s.ret.walk with
    | notBegun =>
      by_cases hmay : s.walkMayBegin = true
      · have hruns : s.runWalk = s.walkFrom 2048 0 := by simp only [State.runWalk, hmode, hwalk, hmay, if_true]
        rw [hruns]
        exact runWalk_walkFrom hmode rfl
      · have hstays : s.runWalk = s := by simp only [State.runWalk, hwalk, hmay, Bool.false_eq_true, if_false, ite_self]
        rw [hstays, hstays]
    | atWay p =>
      have hruns : s.runWalk = s.walkFrom (2048 - p) p := by simp only [State.runWalk, hmode, hwalk, if_true]
      rw [hruns]
      by_cases hp : p ≤ 2048
      · exact runWalk_walkFrom hmode (by omega)
      · have hover : 2048 - p = 0 := by omega
        rw [hover]
        simp [State.walkFrom, State.runWalk, hmode]
    | done =>
      have hstays : s.runWalk = s := by simp only [State.runWalk, hwalk, ite_self]
      rw [hstays, hstays]
  · have hstays : s.runWalk = s := if_neg hmode
    rw [hstays, hstays]

theorem State.Quiet.runWalk (h : s.Quiet) : s.runWalk.Quiet := by
  obtain ⟨hbeside, hrq⟩ := runWalk_keeps (s := s)
  simp only [State.besideWalk, Prod.mk.injEq] at hbeside
  obtain ⟨hlpu, hhome, hsq, hask, hmedium, _⟩ := hbeside
  have hfree : s.runWalk.sqFree = s.sqFree := by simp only [State.sqFree, sqHeld_congr hmedium, hsq]
  refine ⟨h.conv.imp (fun hall => by rw [hsq]; exact hall) fun hfull => ?_, by rw [hask, hfree]; exact h.places,
    by rw [hhome]; exact h.wanted, h.request.congr (by rw [hlpu]) (by rw [hlpu])⟩
  simp only [State.rqFree, decide_eq_false_iff_not] at hfull ⊢
  omega

/-- In Quiescing the walk runs, and the station may become Quiesced (R129 to R131). -/
theorem followUp_quiet (h : s.Quiet) (hport : s.portStays) : s.followUp = s.runWalk.enterQuiesced := by
  have hplaces : (s.bus.askers.isEmpty || !s.sqFree) = true := by simpa using h.places
  have hhome : s.runWalk.home = s.home := congrArg (fun y => y.2.1) runWalk_keeps.1
  have hport' : s.runWalk.portStays := hport.congr (by rw [hhome]) (by rw [hhome])
  unfold State.followUp
  dsimp only
  rw [convertAll_of_noConversion h.conv, givePlaces_calm s hplaces, startPort_stays hport,
    victims_of_settled (.inl (nextVictim_nil h.wanted)), startPort_stays hport']

/-- What follows is what the row QUIESCE_WALK does, but for what the command has given out. -/
theorem settle_eq_quiesceWalk (h : s.Quiet) (hport : s.portStays) (s0 : State) (j : Judged) :
    ∃ v, exec .quiesceWalk s = .next v ∧ s.settle s0 j = { v with out := s.out } := by
  have hbegin : s.begin.Quiet := h.congr rfl
  have hport' : s.begin.portStays := hport.congr rfl rfl
  have hhome : s.begin.runWalk.home = s.begin.home := congrArg (fun y => y.2.1) runWalk_keeps.1
  have hwalked : s.begin.runWalk.portStays := hport'.congr (by rw [hhome]) (by rw [hhome])
  have hagain : s.begin.runWalk.followUp = s.begin.followUp := by
    rw [followUp_quiet hbegin.runWalk hwalked, runWalk_runWalk, followUp_quiet hbegin hport']
  refine ⟨s.begin.runWalk.settle s.begin .byChange, rfl, ?_⟩
  rw [settle_noRequest h.request, settle_noRequest hbegin.runWalk.request, hagain]
  exact followUp_begin s

end

/-- Settles O54: the expiry is held or taken; taken at once, or at the close of the window, the entry's list fails and the entry ends by
whether it has a follower; in Quiescing the walk follows. -/
theorem dataTimerExpiryOutcomes : Obligations.DataTimerExpiryOutcomes := by
  unfold Obligations.DataTimerExpiryOutcomes
  refine ⟨fun s t e he hlog hwanted hmode => ⟨fun hstill hphase htimer => ⟨fun hunder => ?held, fun hunder => ?taken⟩,
    fun driven w n k u g l hopen hown hmsg hheld hf hothers hstill => ⟨fun hcase => ?alone, fun f hfollower hc hrec => ?followed⟩⟩,
    fun s t e freed he hlog hwanted hstill hphase htimer hunder hf hmode hfreed => ?quiescing⟩
  case held =>
    obtain ⟨_, hport⟩ := settled_of_still hstill
    have hquiet : (s.begin.setEntry t { e with timer := none, expiryHeld := true }).Quiet := (quiet_of_still hstill hwanted).congr rfl
    show Host.Outcome.next ((s.begin.expireData t).settle s.begin .byChange) = _
    rw [expireData_held (s := s.begin) he hphase htimer hunder, settle_quiet_stays hquiet hmode (hport.congr rfl rfl)]
    rfl
  case taken =>
    obtain ⟨_, hport⟩ := settled_of_still hstill
    let failed : State := s.failed e .dataTimeout [s.endRecord e .dataTimeout]
    have hquiet : failed.Quiet := (quiet_of_still hstill hwanted).congr rfl
    have hport' : failed.portStays := hport.congr rfl rfl
    rw [exec_dataTimer_taken hstill hlog he hphase htimer hunder]
    refine ⟨fun hf => ?_, fun f hf => ⟨fun hfree => ?_, fun hfull => ?_⟩⟩
    · exact congrArg Host.Outcome.next (settle_ended_alone hquiet hmode hport' hf _ _)
    · exact congrArg Host.Outcome.next (settle_ended_placed hquiet hmode hport' hf hfree _ _)
    · exact congrArg Host.Outcome.next (settle_ended_waits hquiet hmode hport' hf hfull _ _)
  case alone =>
    obtain ⟨_, hport⟩ := settled_of_still hstill
    obtain ⟨_, _, _, hpin⟩ := still_iff.mp hstill
    let failed : State := (s.failed e .dataTimeout [s.endRecord e .dataTimeout]).idle
    have hquiet : failed.Quiet := (quiet_of_still hstill hwanted).congr rfl
    have happly : (if (combine driven w.drives).cancels then s.begin
        else s.begin.applyPeer n (.line k u g l) w.record (combine driven w.drives)) = s.begin := by
      by_cases hc : (combine driven w.drives).cancels = true
      · rw [if_pos hc]
      · have hrec : w.record = Recorded.nothing := by
          rw [cancels_iff, not_or] at hc
          exact (hcase.resolve_left hc.1).resolve_left hc.2
        rw [if_neg hc, applyPeer_nothing hrec]
    rw [exec_close_expiry hopen hown hmsg rfl happly he hheld hothers hpin hlog rfl, failed_begin]
    exact congrArg Host.Outcome.next (settle_ended_alone hquiet hmode (hport.congr rfl rfl) hf _ _)
  case followed =>
    obtain ⟨_, hport⟩ := settled_of_still hstill
    obtain ⟨_, _, _, hpin⟩ := still_iff.mp hstill
    let e' : PrtEntry := { e with follower := some f }
    let failed : State := (s.failed e' .dataTimeout [s.endRecord e' .dataTimeout]).idle
    have hquiet : failed.Quiet := (quiet_of_still hstill hwanted).congr rfl
    have hport' : failed.portStays := hport.congr rfl rfl
    have happly : (if (combine driven w.drives).cancels then s.begin
        else s.begin.applyPeer n (.line k u g l) w.record (combine driven w.drives)) = s.begin.setEntry t e' := by
      rw [hc]
      exact applyPeer_follows hrec he hfollower
    have hentry : (s.begin.setEntry t e').entry t = some e' := (entry_setEntry t).trans (if_pos rfl)
    have hend : ((s.begin.setEntry t e').failed e' .dataTimeout [(s.begin.setEntry t e').endRecord e' .dataTimeout]).idle.abandonOrFree t e' =
        failed.abandonOrFree t e' := by
      rw [failed_setEntry, failed_begin, abandonOrFree_some (f := f) rfl, abandonOrFree_some (f := f) rfl]
      exact congrArg (fun y : State => y.ask (.prt t)) (setEntry_setEntry (s := failed))
    rw [exec_close_expiry hopen hown hmsg rfl happly hentry hheld (State.OthersNotHeld.setEntry hothers) hpin hlog rfl, hend]
    refine ⟨fun hroom => ?_, fun hfull => ?_⟩
    · have hfree : failed.sqFree = true := by
        rw [sqFree_idle rfl]
        exact decide_eq_true hroom
      exact congrArg Host.Outcome.next (settle_ended_placed hquiet hmode hport' rfl hfree _ _)
    · have hnot : failed.sqFree = false := by
        rw [sqFree_idle rfl]
        exact decide_eq_false (Nat.not_lt.mpr hfull)
      exact congrArg Host.Outcome.next (settle_ended_waits hquiet hmode hport' rfl hnot _ _)
  case quiescing =>
    obtain ⟨_, hport⟩ := settled_of_still hstill
    have hquiet : freed.Quiet := hfreed ▸ ((quiet_of_still hstill hwanted).freeEntry t).congr rfl
    obtain ⟨v, hv, hout⟩ := settle_eq_quiesceWalk hquiet (hfreed ▸ hport.congr rfl rfl) s.begin .byChange
    refine ⟨v, hv, ?_⟩
    rw [exec_dataTimer_taken hstill hlog he hphase htimer hunder, abandonOrFree_none hf, ← hout, hfreed]
    rfl

end Sys2Proof.Machine
end

section
/-!
PROOF. Data that serves no entry of this station: data that ends its entry (R73), an Abandoned message (R70, R91 to R93), and a duplicate
(R49, R72, R92); with the message that a follower is then owed (R90).
-/

namespace Sys2Proof.Machine

section
variable {s u x : State} {t : ReqTag} {e : PrtEntry} {f : Follower} {m : DataMsg} {n : StationNo} {bytes : List Byte} {st : Status}

/-! ### What a message does to its entry (R49, R73, R91, R92) -/

/-- R73: an entry that ends without a record. -/
theorem endEntry_unrecorded (hpin : s.lpu.pinRecall = none) (hout : s.out = noOutput) :
    s.endEntry t e st = (s.failed e st []).abandonOrFree t e := by
  have hanswered : s.answerAll e.waiting st = { s.afterFailing e st [] with cache := s.cache } := by
    rw [answerAll_eq]
    simp only [hout, allAnswered_items, State.afterFailing, List.append_nil]
  have hdropped : ({ s.afterFailing e st [] with cache := s.cache } : State).dropPendingPin e =
      { s.afterFailing e st [] with cache.sets := s.cache.sets } := dropPendingPin_eq
  have hemptied : ({ s.afterFailing e st [] with cache.sets := s.cache.sets } : State).emptyReserved e = s.afterFailing e st [] :=
    emptyReserved_eq (s := s) (st := st) (rs := []) (x := { s.afterFailing e st [] with cache.sets := s.cache.sets }) rfl
  have hrecall : (s.afterFailing e st []).recallFails t e st = s.failed e st [] := recallFails_eq hpin
  unfold State.endEntry
  dsimp only
  rw [hanswered, hdropped, hemptied, hrecall]

/-- R73: MemoryError data, and Good data with a grant that fills no way, end the entry. -/
theorem takeMessage_fails (hkind : e.kind ≠ .recall)
    (h : m.status = .memoryError ∨ (m.status = .good ∧ (e.kind = .fetch ∨ e.kind = .claim) ∧ e.fillState m.grant = none)) :
    s.takeMessage t e m n = s.endEntry t e .dataError := by
  rcases h with hstatus | ⟨hstatus, hfill, hgrant⟩
  · simp [State.takeMessage, hstatus, hkind]
  · rcases hfill with hk | hk <;> simp [State.takeMessage, hstatus, hk, State.takeLine, hgrant]

/-- R91: the entry once it has returned to Queued, its retry count one higher. -/
def PrtEntry.requeued (e : PrtEntry) : PrtEntry := { e with phase := .queued, retry := e.retry + 1, timer := none, expected := none }

theorem takeMessage_requeues (hstatus : m.status = .abandoned) (hretry : e.retry < 63) (hf : e.follower = none) :
    s.takeMessage t e m n = (s.setEntry t e.requeued).enqueue (.prt t) := by
  have hbelow : ¬ 64 ≤ e.retry + 1 := by omega
  simp only [State.takeMessage, hstatus, State.takeAbandoned, Config.retryLimit, hbelow, if_false, hf, PrtEntry.requeued]

/-- R91: a follower of the entry's own is sent a message first. -/
theorem takeMessage_requeues_owing (hstatus : m.status = .abandoned) (hretry : e.retry < 63) (hf : e.follower = some f) :
    s.takeMessage t e m n = (s.setEntry t { e.requeued with owes := .abandoned }).ask (.prt t) := by
  have hbelow : ¬ 64 ≤ e.retry + 1 := by omega
  simp only [State.takeMessage, hstatus, State.takeAbandoned, Config.retryLimit, hbelow, if_false, hf, PrtEntry.requeued]

/-- R70: at the limit the entry ends. -/
theorem takeMessage_exhausts (hstatus : m.status = .abandoned) (hretry : 63 ≤ e.retry) (hpin : s.lpu.pinRecall = none)
    (hlog : s.lpu.log.length < 8) (hout : s.out = noOutput) :
    s.takeMessage t e m n =
      (s.failed e .retryExhausted [s.endRecord e .retryExhausted]).abandonOrFree t { e with retry := e.retry + 1 } := by
  have hlimit : 64 ≤ e.retry + 1 := by omega
  have hend := endEntry_eq (t := t) (e := { e with retry := e.retry + 1 }) (st := .retryExhausted)
    (r := s.entryRecord { e with retry := e.retry + 1 } .retryExhausted) hpin hlog hout
  simp only [State.takeMessage, hstatus, State.takeAbandoned, Config.retryLimit, hlimit, if_true, State.exhaust]
  exact hend

/-- R49, R72, R92: a duplicate is Taken and changes nothing. -/
theorem destinationTakes_duplicate (hn : s.ctl.enrolled.has n = true) (he : s.entry m.tag = some e)
    (hgen : (look s.engine.prt m.tag).gen = m.gen) (hline : e.line = m.line) (hphase : e.phase = .finishing)
    (hdup : e.owes = .handOff ∨ m.status = .abandoned) : s.destinationTakes n m = (.taken, s) := by
  have hdup' : e.duplicate m = true := by simpa [PrtEntry.duplicate] using hdup
  simp only [State.destinationTakes, hn, Bool.true_eq_false, if_false, he, hgen, hline, and_self, if_true, hphase, hdup']

/-! ### The home's part and the acknowledgement window (R48, R93) -/

/-- The Export Table once the home's part of the message is done: an Abandoned message clears the flag of a line of this station. -/
def State.exportsTold (s : State) (m : DataMsg) : Table (List ExportEntry) 7 :=
  if m.status = .abandoned ∧ s.homesLine m.line = true then
    put s.home.exports (exportIndex m.line)
      ((s.exportSet m.line).map fun x => if x.line = m.line then { x with awaiting := none } else x)
  else s.home.exports

/-- The station in the acknowledgement window of a message that it has taken, with the home's part done. -/
def State.told (s : State) (m : DataMsg) : State := { s with home.exports := s.exportsTold m, bus.medium := ackTaken m }

theorem abandonedAtHome_takenAck : (s.abandonedAtHome m).takenAck m = s.told m := by
  unfold State.abandonedAtHome State.told State.exportsTold
  split <;> rfl

/-- R48, R49: a message that is taken, by what its entry's part leaves. -/
theorem exec_told (hmember : s.ctl.mode.member = true) (hidle : s.bus.medium = .idle) (hparse : parseData bytes = some (n, m))
    (hdest : m.dest = s.number) (htake : m.homeTake = false ∨ s.homesLine m.line = false)
    (hu : s.begin.destinationTakes n m = (.taken, u)) (hl : u.homesLine m.line = s.homesLine m.line) :
    exec (.dataMessageArrival bytes) s = .next ((u.told m).settle s.begin { remote := m.dest == s.number, home := false }) := by
  have hpart : s.begin.destPart n m = (some .taken, u) := by rw [destPart_here (s := s.begin) hdest, hu]
  have hhome : u.homePart n m = (none, u.abandonedAtHome m) := homePart_noTake (htake.imp_right fun hh => hl.trans hh)
  rw [exec_memberData hmember hidle hparse hpart hhome]
  exact congrArg (fun y => Host.Outcome.next (State.settle y s.begin _)) abandonedAtHome_takenAck

theorem abandonOrFree_homesLine (l : LineNo) : (s.abandonOrFree t e).homesLine l = s.homesLine l := by
  unfold State.abandonOrFree
  split <;> rfl

/-- The end of an entry and what the home is told do not touch each other. -/
theorem abandonOrFree_told : (s.abandonOrFree t e).told m = (s.told m).abandonOrFree t e := by
  unfold State.abandonOrFree
  split <;> rfl

theorem State.Quiet.told (h : s.Quiet) (hidle : s.bus.medium = .idle) (m : DataMsg) : (s.told m).Quiet where
  conv := h.conv.congr rfl rfl
  places := h.places.imp_right fun hfull => (sqFree_takenAck (m := m) hidle).trans hfull
  wanted := h.wanted
  request := h.request.congr rfl rfl

/-- A command at which an entry ends and the home is told, by what is then left: the entry is freed, or owes its follower a message. -/
theorem exec_told_ends {i : Instr} {s0 : State} {j : Judged} (hexec : exec i x = .next (((s.abandonOrFree t e).told m).settle s0 j))
    (hleft : s.told m = u) (h : s.Quiet) (hidle : s.bus.medium = .idle) (hmode : s.ctl.mode ≠ .quiescing) (hport : s.portStays) :
    (e.follower = none → exec i x = .next (u.freeEntry t)) ∧
      ∀ f, e.follower = some f →
        (s.sqFree = true → exec i x = .next ((u.addSq (abandonedMsg e.line f) false).freeEntry t)) ∧
        (s.sqFree = false → exec i x = .next ((u.setEntry t e.ended).ask (.prt t))) := by
  subst hleft
  have hquiet := h.told hidle m
  have hport' : (s.told m).portStays := hport.congr rfl rfl
  have hplaces : (s.told m).sqFree = s.sqFree := sqFree_takenAck hidle
  rw [hexec, abandonOrFree_told]
  refine ⟨fun hf => ?_, fun f hf => ⟨fun hfree => ?_, fun hfull => ?_⟩⟩
  · rw [settle_ended_alone hquiet hmode hport' hf]
  · rw [settle_ended_placed hquiet hmode hport' hf (hplaces.trans hfree)]
  · rw [settle_ended_waits hquiet hmode hport' hf (hplaces.trans hfull)]

/-- R91: the follower's message is placed in the same event, and the entry rejoins the send list. -/
theorem settle_requeued_placed (h : s.Quiet) (hmode : s.ctl.mode ≠ .quiescing) (hport : s.portStays) (hfree : s.sqFree = true)
    (hf : e.follower = some f) (s0 : State) (j : Judged) :
    ((s.setEntry t { e.requeued with owes := .abandoned }).ask (.prt t)).settle s0 j =
      ((s.addSq (abandonedMsg e.line f) false).setEntry t { e.requeued with follower := none, owes := .nothing }).enqueue (.prt t) := by
  have hset : (s.setEntry t { e.requeued with owes := .abandoned }).Quiet := h.congr rfl
  have hentry : (s.setEntry t { e.requeued with owes := .abandoned }).entry t = some { e.requeued with owes := .abandoned } :=
    (entry_setEntry t).trans (if_pos rfl)
  have hgive : (s.setEntry t { e.requeued with owes := .abandoned }).giveTo (.prt t) =
      ((s.addSq (abandonedMsg e.line f) false).setEntry t { e.requeued with follower := none, owes := .nothing }).enqueue (.prt t) := by
    rw [State.giveTo, placePrt_abandoned hentry rfl hf, placeAbandoned_queued rfl]
    exact congrArg (fun y : State => y.enqueue (.prt t)) (setEntry_setEntry (s := s.addSq (abandonedMsg e.line f) false))
  have hplaced : (((s.addSq (abandonedMsg e.line f) false).setEntry t { e.requeued with follower := none, owes := .nothing }).enqueue
      (.prt t)).Quiet := (h.addSq hfree _ _).congr rfl
  exact settle_asked hset hfree hgive hplaced hmode (hport.congr rfl rfl) s0 j

end

/-- Settles O57: by the entry's phase and the message; for an entry that ends, and one that is queued again, by whether it has a follower
and the SQ a place. -/
theorem failedDataAndDuplicates : Obligations.FailedDataAndDuplicates := by
  unfold Obligations.FailedDataAndDuplicates
  intro s bytes n m e hmember hmode hidle hparse hn hdest htake he hgen hline hwanted hstill
  obtain ⟨_, hport⟩ := settled_of_still hstill
  obtain ⟨_, _, _, hpin⟩ := still_iff.mp hstill
  have hquiet := quiet_of_still hstill hwanted
  have hawaited : ∀ {u}, e.phase = .awaitingData → (e.kind ≠ .recall ∨ m.status ≠ .good) → s.begin.takeMessage m.tag e m n = u →
      s.begin.destinationTakes n m = (.taken, u) := fun hphase hnot hu => by
    have hroom : s.begin.refusesData e m = false := by rcases hnot with h | h <;> simp [State.refusesData, h]
    rw [destinationTakes_awaited (s := s.begin) hn he hgen hline hphase, hroom, hu]
    rfl
  have htold : ∀ {u}, s.begin.destinationTakes n m = (.taken, u) → u.homesLine m.line = s.homesLine m.line →
      exec (.dataMessageArrival bytes) s = .next ((u.told m).settle s.begin { remote := m.dest == s.number, home := false }) :=
    fun hu hl => exec_told hmember hidle hparse hdest htake hu hl
  refine ⟨fun hphase hkind hstatus => ?failed, fun exports hexports => ⟨fun hphase hstatus hretry e' he' => ?requeued,
    fun hphase hstatus hretry hlog ended final hended hfinal => ?exhausted, fun hphase hdup => ?duplicate⟩⟩
  case failed =>
    have hfails := (takeMessage_fails (s := s.begin) (t := m.tag) (n := n) hkind hstatus).trans (endEntry_unrecorded hpin rfl)
    rw [failed_begin] at hfails
    have hleft : (s.failed e .dataError []).told m = { s.afterFailing e .dataError [] with bus.medium := ackTaken m } := by
      have hstatus' : m.status ≠ .abandoned := by rcases hstatus with h | ⟨h, _⟩ <;> simp [h]
      have htables : (s.failed e .dataError []).exportsTold m = s.home.exports := by
        unfold State.exportsTold
        rw [if_neg fun h => hstatus' h.1]
        exact if_neg hkind
      unfold State.told
      rw [htables]
      rfl
    have hexec := htold (hawaited hphase (.inl hkind) hfails) (abandonOrFree_homesLine _)
    exact exec_told_ends hexec hleft (hquiet.congr rfl) hidle hmode (hport.congr rfl rfl)
  case requeued =>
    have hnot : m.status ≠ .good := by simp [hstatus]
    subst he' hexports
    refine ⟨fun hf => ?_, fun f hf => ?_⟩
    · have htaken := takeMessage_requeues (s := s.begin) (t := m.tag) (e := e) (m := m) (n := n) hstatus hretry hf
      have hnext : (((s.begin.setEntry m.tag e.requeued).enqueue (.prt m.tag)).told m).Quiet := (hquiet.told hidle m).congr rfl
      rw [htold (hawaited hphase (.inr hnot) htaken) rfl, settle_quiet_stays hnext hmode (hport.congr rfl rfl)]
      rfl
    · have htaken := takeMessage_requeues_owing (s := s.begin) (t := m.tag) (e := e) (m := m) (n := n) hstatus hretry hf
      have htold' := htold (hawaited hphase (.inr hnot) htaken) rfl
      have hnext : (s.begin.told m).Quiet := (hquiet.told hidle m).congr rfl
      have hplaces : (s.begin.told m).sqFree = s.sqFree := sqFree_takenAck (s := s) hidle
      have hport' : (s.begin.told m).portStays := hport.congr rfl rfl
      refine ⟨fun hfree => htold'.trans (congrArg Host.Outcome.next ?_), fun hfull => htold'.trans (congrArg Host.Outcome.next ?_)⟩
      · exact settle_requeued_placed hnext hmode hport' (hplaces.trans hfree) hf _ _
      · have hset : ((s.begin.told m).setEntry m.tag { e.requeued with owes := .abandoned }).Quiet := hnext.congr rfl
        exact settle_quiet_stays (hset.ask (hplaces.trans hfull) (.prt m.tag)) hmode (hport'.congr rfl rfl) _ _
  case exhausted =>
    let record : FaultRecord := s.endRecord e .retryExhausted
    have hends := takeMessage_exhausts (s := s.begin) (t := m.tag) (e := e) (m := m) (n := n) hstatus hretry hpin hlog rfl
    rw [failed_begin] at hends
    have hleft : (s.failed e .retryExhausted [record]).told m = { final with bus.medium := ackTaken m } := by
      have htables : (s.failed e .retryExhausted [record]).exportsTold m =
          if s.homesLine m.line = true then (ended.clearAwaiting m.line).home.exports else ended.home.exports := by
        unfold State.exportsTold
        simp only [hstatus, true_and, hended]
        rfl
      unfold State.told
      rw [htables, hfinal]
      rfl
    have hexec := htold (hawaited hphase (.inr (by simp [hstatus])) hends) (abandonOrFree_homesLine _)
    subst hended hfinal
    exact exec_told_ends hexec hleft (hquiet.congr rfl) hidle hmode (hport.congr rfl rfl)
  case duplicate =>
    subst hexports
    have hnext : (s.begin.told m).Quiet := (hquiet.told hidle m).congr rfl
    rw [htold (destinationTakes_duplicate (s := s.begin) hn he hgen hline hphase hdup) rfl,
      settle_quiet_stays hnext hmode (hport.congr rfl rfl)]
    rfl

end Sys2Proof.Machine
end

section
/-!
PROOF. The close, not cancelled, of the window of this station's own request: an entry that then waits for data (R67 to R69, R79), and
what completes at the close (R55, R61, R68, R69, R115, R121, R124, R135).
-/

namespace Sys2Proof.Machine

section
variable {s x : State} {t : ReqTag} {e : PrtEntry} {v : WayNo} {c : AnswerCode}

/-! ### The result of an own window (R67 to R69, R115, R124) -/

theorem applyOwn_prt_result (he : s.entry t = some e) (hc : c.cancels = false) : s.applyOwn (.prt t) c = s.ownResult t e c := by
  simp only [State.applyOwn, he, hc, Bool.false_eq_true, if_false]

theorem applyOwn_rq_result {l : LineNo} (hc : c.cancels = false) : s.applyOwn (.rq l) c = s.removeRq l := by simp [State.applyOwn, hc]

/-- R67, R79: the entry once it waits for data. -/
def PrtEntry.awaiting (e : PrtEntry) (g : Grant) (timeout : BitVec 11) : PrtEntry :=
  { e with phase := .awaitingData, expected := some g, timer := some timeout }

/-- R67, R69: the grant that an entry expects, by its kind and the answer. -/
def PrtEntry.expects (e : PrtEntry) (c : AnswerCode) : Grant :=
  if e.kind = .fetch then (if c = .clear then .sole else .copy) else if e.kind = .claim then .sole else .none

/-- R67, R69: the answers that call for data, by the entry's kind. -/
theorem ownResult_awaits
    (h : e.kind = .fetch ∨ e.kind = .claim ∨ e.kind = .directRead ∨ (e.kind = .recall ∧ (c = .supply ∨ c = .follow))) :
    s.ownResult t e c = s.setEntry t (e.awaiting (e.expects c) s.ctl.start.dataTimeout) := by
  unfold State.ownResult PrtEntry.expects
  rcases h with hk | hk | hk | ⟨hk, hc | hc⟩ <;> rw [hk]
  · rfl
  · rfl
  · rfl
  · rw [hc]
    rfl
  · rw [hc]
    rfl

/-- R68: a Promote that must have data becomes a Claim, its way emptied and reserved. -/
theorem ownResult_claims (hk : e.kind = .promote) (hv : e.way = some v) (hc : c = .supply ∨ c = .follow) :
    s.ownResult t e c =
      (s.setWay e.line v (.reserved e.line)).setEntry t ({ e with kind := .claim }.awaiting .sole s.ctl.start.dataTimeout) := by
  have hnot : ¬(c = .clear ∨ c = .shared) := by rcases hc with hc | hc <;> simp [hc]
  simp only [State.ownResult, hk, hv, hnot, if_false, State.promoteToClaim, State.awaitData, PrtEntry.awaiting]
  rfl

/-- R68: a Promote that completes has its list served against its way, which is the most recently used. -/
theorem ownResult_promoted {q : Served} {y : LineData} (hk : e.kind = .promote) (hv : e.way = some v)
    (hway : s.wayAt e.line v = .holding e.line .copy y) (hc : c = .clear ∨ c = .shared) (hout : s.out = noOutput)
    (hq : q = servedBy s.ctl.start.pinLimit e.line s.cache.pins y e.waiting) :
    s.ownResult t e c =
      (s.filled e.line v (.holding e.line (if q.altered then .altered else .sole) q.line) q).freeEntry t := by
  have hdata : (s.wayAt e.line v).data = y := by rw [hway]; rfl
  simp only [State.ownResult, hk, hv, if_pos hc, State.completePromote, hdata, serve_filled hout hq]

theorem ownResult_directWrite {i : Item} (hk : e.kind = .directWrite) (hwait : e.waiting = [i]) :
    s.ownResult t e c = (s.answer i.tag .ok .none).freeEntry t := by
  simp only [State.ownResult, hk, hwait]
  rfl

theorem ownResult_recalled (hk : e.kind = .recall) (hc : c = .clear ∨ c = .shared) : s.ownResult t e c = s.completeRecall t e := by
  simp only [State.ownResult, hk, if_pos hc]

/-- R124: the station once the window of a Return has closed: the line has left the RQ, and its flushes are answered. -/
def State.returned (s : State) (l : LineNo) (q : RqEntry) : State :=
  { s with
    lpu.tags := s.tagsWithoutAll q.flushes
    ret.rq := s.ret.rq.filter fun e => e.line != l
    bus := { s.bus with medium := .idle, sendList := s.bus.sendList.filter (· != .rq l) }
    out := allOk q.flushes }

/-! ### What follows -/

variable {w : Window} {n : StationNo} {r : Request} {driven : Table (BitVec 3) 4}

/-- The close of an own window that leaves nothing to happen. -/
theorem exec_close_own_quiet {i : SendItem} (hopen : s.bus.medium = .answering w) (hown : w.own = some i) (hmsg : w.msg = some (n, r))
    (hr : r.enrolment = false) (hx : s.begin.applyOwn i (combine driven w.drives) = x) (hheld : x.NoneHeld) (hquiet : x.idle.Quiet)
    (hmode : x.ctl.mode ≠ .quiescing) (hport : x.portStays) : exec (.answerWindowClose driven) s = .next x.idle := by
  rw [exec_close_own hopen hown hmsg hr rfl hx hheld, settle_quiet_stays hquiet hmode (hport.congr rfl rfl)]

end

/-- Settles O42: the entry is written in its place; a Promote's way is reserved too. -/
theorem ownRequestAwaitsData : Obligations.OwnRequestAwaitsData := by
  unfold Obligations.OwnRequestAwaitsData
  refine ⟨fun s driven w n r t e hopen hown hmsg hr he hcase hvoid hagain hheld hstill => ?awaits,
    fun s driven w n r t e v hopen hown hmsg hr he hkind hway hc hheld hstill hmode => ?claims⟩
  case awaits =>
    obtain ⟨hsettled, hport⟩ := settled_of_still hstill
    have hreq := noRequest_of_still hstill
    let e' : PrtEntry := e.awaiting (e.expects (combine driven w.drives)) s.ctl.start.dataTimeout
    have hresult : s.begin.applyOwn (.prt t) (combine driven w.drives) = s.begin.setEntry t e' :=
      (applyOwn_prt_result (s := s.begin) he (cancels_eq_false hvoid hagain)).trans (ownResult_awaits hcase)
    have hnone : (s.begin.setEntry t e').NoneHeld := (noneHeld_of (s := s.begin) hheld).setEntry (noneHeld_of hheld t e he)
    rw [exec_close_own hopen hown hmsg hr rfl hresult hnone,
      settle_calm (setEntry_idle_settled (s := s.begin) (e' := e') hsettled.begin he rfl) hport hreq]
    rfl
  case claims =>
    obtain ⟨hsettled, hport⟩ := settled_of_still hstill
    have hreq := noRequest_of_still hstill
    let e' : PrtEntry := { e with kind := .claim }.awaiting .sole s.ctl.start.dataTimeout
    let y : State := (s.begin.setWay e.line v (.reserved e.line)).setEntry t e'
    have hgood : (combine driven w.drives).cancels = false := by rcases hc with hc | hc <;> simp [hc, AnswerCode.cancels]
    have hresult : s.begin.applyOwn (.prt t) (combine driven w.drives) = y :=
      (applyOwn_prt_result (s := s.begin) he hgood).trans (ownResult_claims hkind hway hc)
    have hnone : y.NoneHeld :=
      State.NoneHeld.setEntry (s := s.begin.setWay e.line v (.reserved e.line)) (noneHeld_of (s := s) hheld) (noneHeld_of hheld t e he)
    have hnext : y.idle.Settled :=
      ⟨hsettled.conv, hsettled.places, hsettled.victim.imp_right fun htag => (freeTag_setEntry he).trans htag, .inl hmode⟩
    rw [exec_close_own hopen hown hmsg hr rfl hresult hnone, settle_calm hnext hport hreq]
    rfl

/-- Settles O43: by what the window was for; a Return's place in the RQ goes to the conversion that has waited longest. -/
theorem ownRequestCompletesAtClose : Obligations.OwnRequestCompletesAtClose := by
  unfold Obligations.OwnRequestCompletesAtClose
  intro s driven w n r hopen hmsg hr hvoid hagain hheld hwanted hstill hmode
  obtain ⟨hsettled, hport⟩ := settled_of_still hstill
  obtain ⟨_, _, _, hpin⟩ := still_iff.mp hstill
  have hquiet := quiet_of_still hstill hwanted
  have hgood := cancels_eq_false hvoid hagain
  have hnone : s.begin.NoneHeld := noneHeld_of (s := s) hheld
  refine ⟨fun t e v x q hown he hkind hway hat hq hc => ?promoted, fun t e i hown he hkind hwait => ?written,
    fun t e hown he hkind hc => ?recalled, fun l q hown hq returned hreturned => ?returned⟩
  case promoted =>
    let full : Way := .holding e.line (if q.altered then .altered else .sole) q.line
    have hresult := (applyOwn_prt_result (s := s.begin) he hgood).trans (ownResult_promoted (s := s.begin) hkind hway hat hc rfl hq)
    have hserved : (s.begin.filled e.line v full q).idle.Quiet := hquiet.congr rfl
    have hsets : (s.touch e.line v).setWay e.line v full = (s.setWay e.line v full).touch e.line v := (touch_setWay s e.line v full).symm
    rw [exec_close_own_quiet hopen hown hmsg hr hresult (State.NoneHeld.freeEntry hnone t) (hserved.freeEntry t) hmode (hport.congr rfl rfl),
      ← hsets]
    rfl
  case written =>
    have hresult := (applyOwn_prt_result (s := s.begin) he hgood).trans (ownResult_directWrite hkind hwait)
    have hanswered : (s.begin.answer i.tag .ok .none).idle.Quiet := hquiet.congr rfl
    rw [exec_close_own_quiet hopen hown hmsg hr hresult (State.NoneHeld.freeEntry hnone t) (hanswered.freeEntry t) hmode
      (hport.congr rfl rfl)]
    rfl
  case recalled =>
    let works : List HwqEntry := e.waiting.map fun i => { addr := s.memAddr e.line i.offset, work := i.hwqWork e.line }
    let y : State :=
      { s.begin.freeEntry t with
        home := { s.home with exports := (s.removeExport e.line).home.exports, hwq := s.home.hwq ++ works } }
    have hresult : s.begin.applyOwn (.prt t) (combine driven w.drives) = y := by
      have hwanted' : s.home.wanted.filter (· != e.line) = s.home.wanted := by rw [hwanted]; rfl
      rw [applyOwn_prt_result (s := s.begin) he hgood, ownResult_recalled hkind hc, completeRecall_eq (s := s.begin) hpin]
      exact congrArg (fun wanted => ({ y with home.wanted := wanted } : State)) hwanted'
    have hnext : y.idle.Quiet := (hquiet.freeEntry t).congr rfl
    have hworks : works ≠ [] ↔ e.waiting ≠ [] := not_congr List.map_eq_nil_iff
    rw [exec_close_own hopen hown hmsg hr rfl hresult (State.NoneHeld.freeEntry hnone t), settle_quiet hnext hmode,
      startPort_of_joined (s := s) (x := y.idle) (added := works) hport rfl rfl]
    simp only [hworks]
    rfl
  case returned =>
    obtain rfl : returned = s.returned l q := hreturned
    let left : State := { s.returned l q with bus.medium := s.bus.medium }
    have hresult : s.begin.applyOwn (.rq l) (combine driven w.drives) = left := by
      rw [applyOwn_rq_result hgood, removeRq_eq (s := s.begin) hq rfl]
      rfl
    have hleft : left.NoneHeld := noneHeld_of (s := s) hheld
    have hidle : left.idle = s.returned l q := rfl
    have hexec : exec (.answerWindowClose driven) s = .next ((s.returned l q).settle s.begin .all) := by
      rw [exec_close_own hopen hown hmsg hr rfl hresult hleft, hidle]
    have hreq : (s.returned l q).noRequest := hquiet.request.congr rfl rfl
    refine ⟨fun hall => ?_, fun _ => ?_, fun before after e x hsq hbefore he hx hlen hask hlog => ?_⟩
    · have hnext : (s.returned l q).Quiet := ⟨.inl hall, hquiet.places, hwanted, hreq⟩
      rw [hexec, settle_quiet_stays hnext hmode (hport.congr rfl rfl)]
    · obtain ⟨y, hy, hout⟩ := settle_eq_conversion hreq s.begin .all
      exact ⟨y, hy, by rw [hexec, hout]⟩
    · let converted : State := (s.returned l q).asReturn e x (before ++ after)
      have hfree : (s.returned l q).rqFree = true := decide_eq_true (hlen.trans_lt (by decide))
      have hfull : converted.rqFree = false := by
        have hfour : converted.ret.rq.length = 3 + 1 := List.length_append.trans (congrArg (· + 1) hlen)
        simp [State.rqFree, Config.rqPlaces, hfour]
      have hnext : converted.Quiet := ⟨.inr hfull, .inl hask, hwanted, hreq.congr rfl rfl⟩
      have hcache : ((s.returned l q).emptyCopy e.msg.line).cache = (s.emptyCopy e.msg.line).cache :=
        congrArg (·.cache) (emptyCopy_eq (s := s) (x := s.returned l q) rfl)
      rw [hexec, settle_noRequest hreq, ← followUp_convertOne, convertOne_eq (s := s.returned l q) hsq hbefore he hfree hx hlog,
        followUp_calm (hnext.settled hmode) (hport.congr rfl rfl)]
      exact congrArg (fun cache => Host.Outcome.next ({ converted with cache := cache } : State)) hcache

end Sys2Proof.Machine
end

section
/-!
PROOF. O24: Quiesce and Resume (R128, R132), the check of the station state at decode and at acceptance (R7, R12), and the waiting head
checked again when Quiesce is taken (R12).
-/

namespace Sys2Proof.Machine

/-! ### The check of the station state (R12) -/

section
variable {s : State} {op : LocalOp} {home : StationNo} {l : LineNo}

/-- What a Quiescing and a Quiesced station does not take: a Pinned Read, and what is for a remote home but for the Pinned Write of a line
that has a Pin Table entry. -/
def State.closedTo (s : State) (op : LocalOp) (home : StationNo) (l : LineNo) : Prop :=
  op = .pinnedRead ∨ (home ≠ s.number ∧ ¬(op = .pinnedWrite ∧ ∃ p ∈ s.cache.pins, p.line = l))

theorem closedTo_iff : s.closedTo op home l ↔
    (op == .pinnedRead || (home != s.number && !(op == .pinnedWrite && s.cache.pins.any fun p => p.line == l))) = true := by
  simp [State.closedTo, imp_iff_not_or]

theorem stateRefusal_quiescing (hmode : s.ctl.mode = .quiescing) (h : s.closedTo op home l) :
    s.stateRefusal op home l = some .quiescing := by
  simp only [State.stateRefusal, hmode, closedTo_iff.mp h, if_true]

theorem stateRefusal_quiesced (hmode : s.ctl.mode = .quiesced) (h : s.closedTo op home l) :
    s.stateRefusal op home l = some .quiesced := by
  simp only [State.stateRefusal, hmode, closedTo_iff.mp h, if_true]

theorem stateRefusal_none (h : ¬ s.closedTo op home l ∨ (s.ctl.mode ≠ .quiescing ∧ s.ctl.mode ≠ .quiesced)) :
    s.stateRefusal op home l = none := by
  rcases h with h | ⟨hquiescing, hquiesced⟩
  · rw [closedTo_iff, Bool.not_eq_true] at h
    simp only [State.stateRefusal, h, Bool.false_eq_true, if_false]
    split <;> rfl
  · unfold State.stateRefusal
    dsimp only
    split
    · exact absurd ‹_› hquiescing
    · exact absurd ‹_› hquiesced
    all_goals rfl

end

/-! ### The rows of Quiesce and Resume -/

section
variable {s : State} {tag : PTag}

theorem control_free {effect : State → State} (h : s.tagInUse tag = false) : s.control tag effect = effect s := by
  simp [State.control, h]

theorem exec_quiesce_refused (h : s.tagInUse tag = false) (hmode : s.ctl.mode ≠ .operational) :
    exec (.quiesce tag) s = .next { s with out := oneResponse tag .wrongState .none } := by
  show Host.Outcome.next (s.begin.control tag fun s => s.doQuiesce tag) = _
  rw [control_free (s := s.begin) h]
  exact congrArg Host.Outcome.next (if_neg hmode)

/-- The station as Quiesce leaves it before anything follows: Quiescing, the command answered OK. -/
def State.quiesceTaken (s : State) (tag : PTag) : State :=
  { s with ctl.mode := .quiescing, lpu.stateChange := true, out := oneResponse tag .ok .none }

theorem exec_quiesce_taken (h : s.tagInUse tag = false) (hmode : s.ctl.mode = .operational) :
    exec (.quiesce tag) s = .next ((s.quiesceTaken tag).recheckHead.settle s.begin .byChange) := by
  show Host.Outcome.next (s.begin.control tag fun s => s.doQuiesce tag) = _
  rw [control_free (s := s.begin) h]
  exact congrArg Host.Outcome.next (if_pos hmode)

theorem exec_resume_taken (h : s.tagInUse tag = false) (hmode : s.ctl.mode = .quiescing ∨ s.ctl.mode = .quiesced) :
    exec (.resume tag) s = .next
      { s with ctl.mode := .operational, lpu.stateChange := true, ret.walk := .notBegun, out := oneResponse tag .ok .none } := by
  show Host.Outcome.next (s.begin.control tag fun s => s.doResume tag) = _
  rw [control_free (s := s.begin) h]
  exact congrArg Host.Outcome.next (if_pos hmode)

theorem exec_resume_refused (h : s.tagInUse tag = false) (hmode : ¬(s.ctl.mode = .quiescing ∨ s.ctl.mode = .quiesced)) :
    exec (.resume tag) s = .next { s with out := oneResponse tag .wrongState .none } := by
  show Host.Outcome.next (s.begin.control tag fun s => s.doResume tag) = _
  rw [control_free (s := s.begin) h]
  exact congrArg Host.Outcome.next (if_neg hmode)

end

/-! ### The waiting head checked again (R12) -/

section
variable {s : State} {d : Decoded}

theorem recheckHead_noHead (h : s.lpu.head = none) : s.recheckHead = s := by
  simp [State.recheckHead, State.quiesceRefuses, h]

/-- The heads that a station no longer takes when it becomes Quiescing: a Pinned Read, and on the remote paths what R12 closes. -/
def State.closesHead (s : State) (d : Decoded) : Prop :=
  d.item.op = .pinnedRead ∨ (d.path ≠ .home ∧ s.closedTo d.item.op d.home d.line)

/-- The head is checked again where it is a Pinned Read or on a remote path. -/
theorem recheckHead_quiescing (hmode : s.ctl.mode = .quiescing) (hhead : s.lpu.head = some d) :
    (s.closesHead d → s.recheckHead = (s.answer d.item.tag .quiescing .none).popHead) ∧
    (¬ s.closesHead d → s.recheckHead = s) := by
  have hchecked : (d.item.op = .pinnedRead ∨ d.path = .cached ∨ d.path = .direct) ↔ d.item.op = .pinnedRead ∨ d.path ≠ .home := by
    cases d.path <;> simp
  simp only [State.recheckHead, State.quiesceRefuses, hhead, hchecked, State.closesHead]
  refine ⟨fun h => ?_, fun h => ?_⟩
  · have hclosed : s.closedTo d.item.op d.home d.line := h.elim .inl And.right
    rw [if_pos (h.imp_right And.left), stateRefusal_quiescing hmode hclosed]
    rfl
  · by_cases hcheck : d.item.op = .pinnedRead ∨ d.path ≠ .home
    · have hopen : ¬ s.closedTo d.item.op d.home d.line := fun hclosed => h (hcheck.imp_right fun hpath => ⟨hpath, hclosed⟩)
      rw [if_pos hcheck, stateRefusal_none (.inl hopen)]
      rfl
    · rw [if_neg hcheck]

end
/-! ### What follows takes back no response and no state change (R160, R167) -/

/-- The state-change flag and the responses given. -/
def State.news (s : State) : Bool × List Response := (s.lpu.stateChange, s.out.responses)

/-- The state-change flag stays set, and responses are added alone. -/
def State.KeepsNews (s t : State) : Prop :=
  (s.lpu.stateChange = true → t.lpu.stateChange = true) ∧ s.out.responses <+: t.out.responses

section
variable {s t u : State}

theorem State.KeepsNews.of_eq (h : t.news = s.news) : s.KeepsNews t := by
  simp only [State.news, Prod.mk.injEq] at h
  obtain ⟨hflag, hresponses⟩ := h
  exact ⟨fun hset => hflag.trans hset, by rw [hresponses]⟩

theorem State.KeepsNews.trans (h : s.KeepsNews t) (h' : t.KeepsNews u) : s.KeepsNews u :=
  ⟨fun hset => h'.1 (h.1 hset), h.2.trans h'.2⟩

theorem State.KeepsNews.then_eq (h : s.KeepsNews t) (h' : u.news = t.news) : s.KeepsNews u := h.trans (.of_eq h')

end

section
variable (s : State)

/-- An update that the outputs do not reach leaves them as they were. -/
theorem out_of_withOut {f : State → State} (h : ∀ (s : State) (o : Outputs), f (s.withOut o) = (f s).withOut o) :
    (f s).out = s.out := by
  have hself : f s = (f s).withOut s.out := h s s.out
  rw [hself]
  rfl

@[simp] theorem addFault_news (r : FaultRecord) : (s.addFault r).news = s.news := by
  unfold State.addFault; split <;> rfl
@[simp] theorem startPort_news : s.startPort.news = s.news := by unfold State.startPort; split <;> rfl
@[simp] theorem makeAtFree_news (e : PrtEntry) : (s.makeAtFree e).news = s.news := by unfold State.makeAtFree; split <;> rfl
@[simp] theorem pendPin_news (i : Item) (l : LineNo) (p : PinPath) : (s.pendPin i l p).news = s.news := by
  unfold State.pendPin; split <;> rfl
@[simp] theorem attachItem_news (t : ReqTag) (i : Item) : (s.attachItem t i).news = s.news := by
  unfold State.attachItem; split <;> rfl
@[simp] theorem evict_news (l : LineNo) (w : WayNo) : (s.evict l w).news = s.news := by unfold State.evict; split <;> rfl
@[simp] theorem emptyCopy_news (l : LineNo) : (s.emptyCopy l).news = s.news := by unfold State.emptyCopy; split <;> rfl

@[simp] theorem convertOne_news : s.convertOne.news = s.news := by
  unfold State.convertOne
  split
  · split
    · exact (addFault_news _ _).trans (emptyCopy_news _ _)
    · rfl
  · rfl

@[simp] theorem convertAll_news (n : Nat) : (State.convertAll n s).news = s.news := by
  induction n generalizing s with
  | zero => rfl
  | succ n ih => unfold State.convertAll; split <;> simp [ih]

@[simp] theorem givePlaces_news (n : Nat) : (State.givePlaces n s).news = s.news := by
  simp only [State.news, givePlaces_lpu, out_of_withOut s fun s o => givePlaces_withOut s o n]

@[simp] theorem victimOne_news : s.victimOne.news = s.news := by
  simp only [State.news, victimOne_lpu, out_of_withOut s fun s o => victimOne_withOut s o]

@[simp] theorem runWalk_news : s.runWalk.news = s.news := by
  have hlpu : s.runWalk.lpu = s.lpu := congrArg Prod.fst runWalk_keeps.1
  simp only [State.news, hlpu, out_of_withOut s fun s o => runWalk_withOut s o]

theorem answer_keepsNews (tag : PTag) (st : Status) (p : Payload) : s.KeepsNews (s.answer tag st p) := ⟨id, [_], rfl⟩

/-- A head that is started is answered, or leaves its request to another block. -/
theorem actHead_keepsNews (d : Decoded) : ∀ a : HeadAction, s.KeepsNews (s.actHead d a)
  | .refuse _ | .flushNothing | .readHit _ | .writeHit _ | .pinRelease _ | .flushDrop _ => answer_keepsNews s _ _ _
  | .pinnedHit w =>
    have hserved : s.KeepsNews (s.serveRead d.line w d.item) := answer_keepsNews s _ _ _
    (hserved.then_eq (pendPin_news _ _ _ _)).then_eq rfl
  | .attach _ => .of_eq ((pendPin_news _ _ _ _).trans (attachItem_news _ _ _))
  | .attachRecall _ => .of_eq (attachItem_news _ _ _)
  | .makePromote _ => .of_eq ((pendPin_news _ _ _ _).trans (makeAtFree_news _ _))
  | .makeMiss _ _ => .of_eq ((pendPin_news _ _ _ _).trans ((makeAtFree_news _ _).trans (evict_news _ _ _)))
  | .makeDirect _ | .recall => .of_eq (makeAtFree_news _ _)
  | .pinRecall => .of_eq (makeAtFree_news s (.fresh .recall d.line none [] .pin))
  | .pinnedHomeRead => .of_eq (pendPin_news _ _ _ _)
  | .waits | .homeWork | .pinReleaseHome | .flushJoin | .flushAltered _ _ => .of_eq rfl

theorem startHead_keepsNews (d : Decoded) : s.KeepsNews (s.startHead d).1 := by
  unfold State.startHead
  dsimp only
  split
  · exact .of_eq rfl
  · split
    · exact (actHead_keepsNews s d _).then_eq rfl
    · exact actHead_keepsNews s d _

theorem headOnce_keepsNews : s.KeepsNews s.headOnce.1 := by
  unfold State.headOnce
  split
  · exact .of_eq rfl
  · split
    · exact startHead_keepsNews s _
    · split
      · rw [refuseDecode_eq]
        exact ⟨id, [_], rfl⟩
      · exact (answer_keepsNews s _ _ _).then_eq rfl
      case h_3 d _ =>
        have hdecoded : s.KeepsNews { s with lpu.head := some d } := .of_eq rfl
        exact hdecoded.trans (startHead_keepsNews _ d)

theorem allocate_keepsNews (n : Nat) (a b j : Bool) : s.KeepsNews (s.allocate n a b j) := by
  induction n generalizing s a b j with
  | zero => exact .of_eq rfl
  | succ n ih =>
    have hthen : ∀ {t : State}, s.KeepsNews t → ∀ a b j, s.KeepsNews (t.allocate n a b j) := fun h a b j => h.trans (ih _ a b j)
    have hhead : s.KeepsNews s.headOnce.1 := headOnce_keepsNews s
    have hvictim : s.KeepsNews s.victimOne := .of_eq (victimOne_news s)
    unfold State.allocate
    split
    · split
      · split
        · split
          · exact hthen (t := s.headOnce.1.setTurn .victim) (hhead.then_eq rfl) _ _ _
          · exact hthen (t := s.victimOne.setTurn .lrq) (hvictim.then_eq rfl) _ _ _
        · exact hthen hhead _ _ _
      · exact hthen hvictim _ _ _
    · split
      · split
        · exact hthen hhead _ _ _
        · exact hhead
      · exact .of_eq rfl

theorem enterQuiesced_keepsNews : s.KeepsNews s.enterQuiesced := by
  unfold State.enterQuiesced
  split
  · exact ⟨fun _ => rfl, [], List.append_nil _⟩
  · exact .of_eq rfl

theorem settle_keepsNews (s0 : State) (j : Judged) : s.KeepsNews (s.settle s0 j) := by
  refine .trans ?_ (enterQuiesced_keepsNews _)
  refine .then_eq ?_ (startPort_news _)
  refine .then_eq ?_ (runWalk_news _)
  refine .trans (.of_eq ?_) (allocate_keepsNews _ _ _ _ _)
  rw [startPort_news, givePlaces_news, convertAll_news]

theorem recheckHead_keepsNews : s.KeepsNews s.recheckHead := by
  unfold State.recheckHead
  split
  · exact (answer_keepsNews s _ _ _).then_eq rfl
  · exact .of_eq rfl

/-- R131: a Quiescing station is Quiescing or Quiesced when all has followed. -/
theorem settle_mode_quiescing {s : State} (h : s.ctl.mode = .quiescing) (s0 : State) (j : Judged) :
    (s.settle s0 j).ctl.mode = .quiescing ∨ (s.settle s0 j).ctl.mode = .quiesced := by
  have hentry (t : State) (ht : t.membership = s.membership) :
      t.enterQuiesced.ctl.mode = .quiescing ∨ t.enterQuiesced.ctl.mode = .quiesced := by
    unfold State.enterQuiesced
    split
    · exact .inr rfl
    · exact .inl ((mode_of_membership ht).trans h)
  refine hentry _ ?_
  simp only [State.allocateAfter, startPort_membership, runWalk_membership, allocate_membership, givePlaces_membership,
    convertAll_membership]

end

/-! ### Quiesce where the walk may not begin yet (R128, R129) -/

section
variable {s x : State} {tag : PTag} {d : Decoded}

/-- A calm station that becomes Quiescing with its walk not begun, and which may not begin it, has nothing that follows but the judgement
of a waiting head. -/
theorem settled_of_quiescing (h : s.calm = true) (hwalk : s.ret.walk = .notBegun) (hmay : s.walkMayBegin = false)
    (hbus : x.bus = s.bus) (hret : x.ret = s.ret) (hhome : x.home = s.home) (hengine : x.engine = s.engine) (hcache : x.cache = s.cache) :
    x.Settled ∧ x.portStays := by
  obtain ⟨hsettled, hport⟩ := calm_iff.mp h
  have hfree : x.sqFree = s.sqFree := by simp only [State.sqFree, sqHeld_congr (congrArg BusInterface.medium hbus), hbus]
  have hnext : x.nextVictim = s.nextVictim := by simp only [State.nextVictim, State.findExport, State.exportSet, hhome]
  have htag : x.freeTag = s.freeTag := by simp only [State.freeTag, State.entry, hengine]
  have hmay' : x.walkMayBegin = false := by rw [← hmay]; simp only [State.walkMayBegin, hcache, hengine]
  refine ⟨⟨hsettled.conv.congr (by rw [hbus]) hret, ?_, ?_, .inr ?_⟩, hport.congr (by rw [hhome]) (by rw [hhome])⟩
  · rw [hbus, hfree]
    exact hsettled.places
  · rw [hnext, htag]
    exact hsettled.victim
  · simp [State.walkStays, hret, hwalk, hmay']

variable (htag : s.tagInUse tag = false) (hmode : s.ctl.mode = .operational) (hcalm : s.calm = true)
  (hwalk : s.ret.walk = .notBegun) (hmay : s.walkMayBegin = false)

include htag hmode hcalm hwalk hmay

theorem exec_quiesce_alone (hreq : s.noRequest) : exec (.quiesce tag) s = .next (s.quiesceTaken tag) := by
  obtain ⟨hsettled, hport⟩ := settled_of_quiescing (x := s.quiesceTaken tag) hcalm hwalk hmay rfl rfl rfl rfl rfl
  rw [exec_quiesce_taken htag hmode, recheckHead_noHead (s := s.quiesceTaken tag) hreq.2,
    settle_calm hsettled hport (hreq.congr rfl rfl)]

/-- The head that Quiesce closes leaves the LRQ, which it leaves empty. -/
theorem exec_quiesce_headLeaves {r : LocalReq} (hq : s.lpu.lrq = [r]) (hhead : s.lpu.head = some d)
    (hclosed : s.closesHead d) :
    exec (.quiesce tag) s = .next (((s.quiesceTaken tag).answer d.item.tag .quiescing .none).popHead) := by
  let left := ((s.quiesceTaken tag).answer d.item.tag .quiescing .none).popHead
  obtain ⟨hsettled, hport⟩ := settled_of_quiescing (x := left) hcalm hwalk hmay rfl rfl rfl rfl rfl
  have hreq : left.noRequest := ⟨congrArg List.tail hq, rfl⟩
  rw [exec_quiesce_taken htag hmode, (recheckHead_quiescing (s := s.quiesceTaken tag) rfl hhead).1 hclosed, settle_calm hsettled hport hreq]

/-- Any other head stays, and is not judged in this event (R25, R111). -/
theorem exec_quiesce_headStays (hhead : s.lpu.head = some d) (hopen : ¬ s.closesHead d) :
    exec (.quiesce tag) s = .next (s.quiesceTaken tag) := by
  obtain ⟨hsettled, hport⟩ := settled_of_quiescing (x := s.quiesceTaken tag) hcalm hwalk hmay rfl rfl rfl rfl rfl
  rw [exec_quiesce_taken htag hmode, (recheckHead_quiescing (s := s.quiesceTaken tag) rfl hhead).2 hopen,
    settle_unjudged hsettled hport (judgedAgain_unchanged (s0 := s.begin) (s := s.quiesceTaken tag) hhead rfl rfl rfl rfl)]

end

/-- Settles O24: Quiesce and Resume by the station's state, the fifth check of R7, and what becomes of the waiting head. -/
theorem quiesceAndResumeOutcomes : Obligations.QuiesceAndResumeOutcomes := by
  unfold Obligations.QuiesceAndResumeOutcomes
  refine ⟨?commands, ?check, ?head⟩
  case commands =>
    intro s tag htag
    refine ⟨exec_quiesce_refused htag, fun hmode => ⟨_, exec_quiesce_taken htag hmode, ?_⟩, fun hmode hstill hwalk hmay => ?_,
      exec_resume_taken htag, fun hquiescing hquiesced => exec_resume_refused htag (not_or.mpr ⟨hquiescing, hquiesced⟩)⟩
    · have hkeeps : (s.quiesceTaken tag).KeepsNews ((s.quiesceTaken tag).recheckHead.settle s.begin .byChange) :=
        (recheckHead_keepsNews _).trans (settle_keepsNews _ _ _)
      have hentered : (s.quiesceTaken tag).recheckHead.ctl.mode = .quiescing := mode_of_membership (recheckHead_membership _)
      obtain ⟨hflag, later, hresponses⟩ := hkeeps
      exact ⟨settle_mode_quiescing hentered _ _, hflag rfl, by rw [← hresponses]; rfl⟩
    · exact exec_quiesce_alone htag hmode (still_iff.mp hstill).1 hwalk hmay (noRequest_of_still hstill)
  case check =>
    intro s r home a k i closed hal hseg hperm hpin hclosed
    have hal' : misaligned r = false := misaligned_eq_false_iff.mpr hal
    have hpin' : ¬(r.op.isPinned = true ∧ k = .direct) := fun h => hpin ⟨isPinned_iff.mp h.1, h.2⟩
    have hquiescing (hc : closed) (hmode : s.ctl.mode = .quiescing) : s.decode r = .refuse .quiescing .none :=
      decode_stateRefused hal' hseg hperm hpin' (stateRefusal_quiescing hmode (hclosed.mp hc))
    have hquiesced (hc : closed) (hmode : s.ctl.mode = .quiesced) : s.decode r = .refuse .quiesced .none :=
      decode_stateRefused hal' hseg hperm hpin' (stateRefusal_quiesced hmode (hclosed.mp hc))
    refine ⟨hquiescing, hquiesced, fun hopen p => ?_, fun tag code addr len data hacc hc => ⟨fun hmode => ?_, fun hmode => ?_⟩⟩
    · have hnone := stateRefusal_none (hopen.imp_left (not_congr hclosed).mp)
      exact ⟨decode_not_refused hal' hseg hperm hpin' hnone _ p, decode_not_refused hal' hseg hperm hpin' hnone _ p⟩
    · exact exec_refused_unlogged hacc (hquiescing hc hmode) (by decide)
    · exact exec_refused_unlogged hacc (hquiesced hc hmode) (by decide)
  case head =>
    intro s tag r d closed htag hmode hcalm hq hhead hwalk hmay hclosed
    have hclosed' : closed ↔ s.closesHead d := by
      rw [hclosed]
      by_cases hop : d.item.op = .pinnedRead <;> simp only [State.closesHead, State.closedTo, hop, true_or, false_or]
    refine ⟨fun hc => ?_, fun hopen => exec_quiesce_headStays htag hmode hcalm hwalk hmay hhead fun h => hopen (hclosed'.mpr h)⟩
    have htail : s.lpu.lrq.tail = [] := by rw [hq]; rfl
    rw [exec_quiesce_headLeaves htag hmode hcalm hwalk hmay hq hhead (hclosed'.mp hc), ← htail]
    rfl

end Sys2Proof.Machine
end

section
/-!
PROOF. O22: a Flush Line on the remote cached path (R127), at the LRQ head.
-/

namespace Sys2Proof.Machine

variable {s : State} {d : Decoded} {w : WayNo} {x : LineData}

/-! ### The judgement of a Flush Line (R127) -/

/-- What keeps a Flush Line at the head whatever way may hold its line: a PRT entry of it, or it is under answer, in transit or pinned. -/
def State.flushHeld (s : State) (l : LineNo) : Prop :=
  s.findEntry l ≠ none ∨ s.underAnswer l = true ∨ s.inTransit l = true ∨ s.pinned l = true

theorem not_flushHeld_iff {l : LineNo} : ¬ s.flushHeld l ↔
    s.findEntry l = none ∧ s.underAnswer l = false ∧ s.inTransit l = false ∧ s.pinned l = false := by
  simp [State.flushHeld]

section
variable (hp : d.path = .cached) (hop : d.item.op = .flushLine)

include hp hop

theorem judgeHead_flush : s.judgeHead d = s.judgeFlush d := by simp only [State.judgeHead, hp, State.judgeRemote, hop]

theorem judgeHead_flushHeld (h : s.flushHeld d.line) : s.judgeHead d = .waits := by
  rw [judgeHead_flush hp hop]
  unfold State.judgeFlush
  rcases h with h | h | h | h
  · simp [Option.isSome_iff_ne_none.mpr h]
  · simp [h]
  · simp [h]
  · simp [h]

theorem judgeHead_flushJoin (h : ¬ s.flushHeld d.line) (hrq : s.findRq d.line ≠ none) : s.judgeHead d = .flushJoin := by
  obtain ⟨he, hu, ht, hpin⟩ := not_flushHeld_iff.mp h
  rw [judgeHead_flush hp hop]
  simp [State.judgeFlush, he, hu, ht, hpin, Option.isSome_iff_ne_none.mpr hrq]

/-- A line with no RQ entry: what it is held as decides. -/
theorem judgeHead_flushLine {st : LineState} (h : ¬ s.flushHeld d.line) (hrq : s.findRq d.line = none)
    (hh : s.held d.line = some (w, st, x)) :
    s.judgeHead d = if st = .altered then (if s.rqFree = true then .flushAltered w x else .waits) else .flushDrop w := by
  obtain ⟨he, hu, ht, hpin⟩ := not_flushHeld_iff.mp h
  rw [judgeHead_flush hp hop]
  cases st <;> simp [State.judgeFlush, he, hu, ht, hpin, hrq, hh]

theorem judgeHead_flushVacant (h : ¬ s.flushHeld d.line) (hrq : s.findRq d.line = none) (hh : s.held d.line = none) :
    s.judgeHead d = .flushNothing := by
  obtain ⟨he, hu, ht, hpin⟩ := not_flushHeld_iff.mp h
  rw [judgeHead_flush hp hop]
  simp [State.judgeFlush, he, hu, ht, hpin, hrq, hh]

/-- An Altered line for which an RQ entry is wanting. -/
theorem judgeHead_flushFull (hrq : s.findRq d.line = none) (hh : s.held d.line = some (w, .altered, x)) (hfull : s.rqFree = false) :
    s.judgeHead d = .waits := by
  by_cases h : s.flushHeld d.line
  · exact judgeHead_flushHeld hp hop h
  · simp [judgeHead_flushLine hp hop h hrq hh, hfull]

end

/-! ### A Flush Line that leaves the head in the event of its acceptance -/

section
variable {tag : PTag} {code : BitVec 3} {addr : LocalAddr} {len : BitVec 6} {data : List Byte}

/-- A Flush Line passes on at no station that is Quiescing (R12). -/
theorem mode_of_flush_pass (hpass : s.passesOn tag code addr len data d = true) (hp : d.path = .cached)
    (hop : d.item.op = .flushLine) : s.ctl.mode ≠ .quiescing := by
  obtain ⟨r, _, hdec⟩ := passesOn_iff.mp hpass
  obtain ⟨hitem, hpath, hnone⟩ := decode_pass hdec
  have hrop : r.op = .flushLine := by rw [← hop, hitem]; rfl
  have hremote : d.home ≠ s.number := by
    intro heq
    simp [hpath, pathOf, heq] at hp
  intro hmode
  have hclosed : s.closedTo r.op d.home d.line := .inr ⟨hremote, by simp [hrop]⟩
  simp [stateRefusal_quiescing hmode hclosed] at hnone

/-- What a Flush Line leaves as it was, beside the port. -/
def State.besideFlush (s : State) : RequestEngine × HomeUnit × List SqEntry × List Asker × Medium × Controller :=
  (s.engine, s.home, s.bus.sq, s.bus.askers, s.bus.medium, s.ctl)

/-- Where the action of a Flush Line removes no RQ entry, nothing follows. -/
theorem exec_flush {a : HeadAction} {t : State} (hpass : s.passesOn tag code addr len data d = true) (hp : d.path = .cached)
    (hop : d.item.op = .flushLine) (hj : s.judgeHead d = a) (hleaves : a.leaves = true) (hneeds : a.needsEntry = false)
    (hact : ∀ r, (s.headWaiting tag r d).actHead d a = { t with lpu := { (s.headWaiting tag r d).lpu with tags := t.lpu.tags } })
    (hlpu : t.lpu = { s.lpu with tags := t.lpu.tags }) (hframe : t.besideFlush = s.besideFlush)
    (hrq : s.ret.rq.length ≤ t.ret.rq.length) : exec (.localRequestAcceptance tag code addr len data) s = .next t := by
  obtain ⟨hcalm, _, _, _⟩ := passesOn_facts hpass
  simp only [State.besideFlush, Prod.mk.injEq] at hframe
  obtain ⟨hengine, hhome, hsq, hask, hmedium, hctl⟩ := hframe
  have hentry : t.freeTag = s.freeTag := by simp only [State.freeTag, State.entry, hengine]
  have hnot : t.ctl.mode ≠ .quiescing := hctl ▸ mode_of_flush_pass hpass hp hop
  exact exec_headLeaves hpass hj hleaves (by simp [hneeds]) hlpu hact
    (calm_of_frame hcalm hhome hsq hask hmedium hrq hentry.trans (by simp [hnot]))

section
variable (hpass : s.passesOn tag code addr len data d = true) (hp : d.path = .cached) (hop : d.item.op = .flushLine)

include hpass hp hop

/-- The line joins the tail of the RQ with the Flush Line waiting on its entry. -/
theorem exec_flushAltered (hheld : ¬ s.flushHeld d.line) (hrq : s.findRq d.line = none) (hh : s.held d.line = some (w, .altered, x))
    (hfree : s.rqFree = true) :
    exec (.localRequestAcceptance tag code addr len data) s = .next
      { s with
        lpu.tags := s.tagsWith tag
        cache := (s.setWay d.line w .empty).cache
        ret.rq := s.ret.rq ++ [{ line := d.line, data := x, flushes := [tag] }]
        bus := (s.enqueue (.rq d.line)).bus
        out := noOutput } := by
  obtain ⟨_, _, hitem, _⟩ := passesOn_facts hpass
  have hj : s.judgeHead d = .flushAltered w x := by simp [judgeHead_flushLine hp hop hheld hrq hh, hfree]
  refine exec_flush hpass hp hop hj rfl rfl (fun r => ?_) rfl rfl (by simp)
  rw [← hitem]
  rfl

theorem exec_flushDrop {st : LineState} (hheld : ¬ s.flushHeld d.line) (hrq : s.findRq d.line = none)
    (hh : s.held d.line = some (w, st, x)) (hst : st ≠ .altered) :
    exec (.localRequestAcceptance tag code addr len data) s = .next
      { s with cache := (s.setWay d.line w .empty).cache, out := oneResponse tag .ok .none } := by
  obtain ⟨_, _, hitem, _⟩ := passesOn_facts hpass
  have hj : s.judgeHead d = .flushDrop w := by rw [judgeHead_flushLine hp hop hheld hrq hh, if_neg hst]
  refine exec_flush hpass hp hop hj rfl rfl (fun r => ?_) rfl rfl le_rfl
  rw [← tagsWithout_headWaiting hpass (r := r), ← hitem]
  rfl

theorem exec_flushNothing (hheld : ¬ s.flushHeld d.line) (hrq : s.findRq d.line = none) (hh : s.held d.line = none) :
    exec (.localRequestAcceptance tag code addr len data) s = .next { s with out := oneResponse tag .ok .none } := by
  obtain ⟨_, _, hitem, _⟩ := passesOn_facts hpass
  refine exec_flush hpass hp hop (judgeHead_flushVacant hp hop hheld hrq hh) rfl rfl (fun r => ?_) rfl rfl le_rfl
  rw [← tagsWithout_headWaiting hpass (r := r), ← hitem]
  rfl

/-- The Flush Line joins the tail of the waiting flushes of its line's RQ entry. -/
theorem exec_flushJoin (hheld : ¬ s.flushHeld d.line) (hrq : s.findRq d.line ≠ none) :
    exec (.localRequestAcceptance tag code addr len data) s = .next
      { s with
        lpu.tags := s.tagsWith tag
        ret.rq := s.ret.rq.map fun q => if q.line = d.line then { q with flushes := q.flushes ++ [tag] } else q
        out := noOutput } := by
  obtain ⟨_, _, hitem, _⟩ := passesOn_facts hpass
  refine exec_flush hpass hp hop (judgeHead_flushJoin hp hop hheld hrq) rfl rfl (fun r => ?_) rfl rfl (by simp)
  rw [← hitem]
  rfl

end

end

/-- Settles O22: a Flush Line whose line is free, by what the line is held as; one whose line has an RQ entry; and what keeps one at the
head. -/
theorem flushLineOutcomes : Obligations.FlushLineOutcomes := by
  unfold Obligations.FlushLineOutcomes
  refine ⟨?free, ?busy⟩
  case free =>
    intro s tag code addr len data d hpass hp hop hfree hpin
    obtain ⟨he, hrq, ht, hu⟩ := lineFree_iff.mp hfree
    have hheld : ¬ s.flushHeld d.line := not_flushHeld_iff.mpr ⟨he, hu, ht, hpin⟩
    exact ⟨fun w x => exec_flushAltered hpass hp hop hheld hrq, fun w st x => exec_flushDrop hpass hp hop hheld hrq,
      exec_flushNothing hpass hp hop hheld hrq⟩
  case busy =>
    intro s tag code addr len data r d hpass hacc hp hop
    refine ⟨fun he hu ht hpin => ?_, fun hheld => ?_, fun w x hrq hh hfull => ?_⟩
    · exact exec_flushJoin hpass hp hop (not_flushHeld_iff.mpr ⟨he, hu, ht, hpin⟩)
    · exact exec_headStays hpass hacc (.inl (judgeHead_flushHeld hp hop hheld))
    · exact exec_headStays hpass hacc (.inl (judgeHead_flushFull hp hop hrq hh hfull))

end Sys2Proof.Machine
end

section
/-!
PROOF. O59: the row QUIESCE_WALK by the rows of R130, the walk of an empty cache (R129), and the entry to Quiesced (R131).
-/

namespace Sys2Proof.Machine

section
variable {s x : State} {p n : Nat} {l : LineNo} {st : LineState} {d : LineData}

/-! ### When a Quiescing station becomes Quiesced (R131) -/

theorem entries_isNone_iff : (s.engine.prt.toList.all fun y => y.entry.isNone) = true ↔ ∀ t, s.entry t = none := by
  rw [List.all_eq_true]
  refine ⟨fun h t => Option.isNone_iff_eq_none.mp (h _ (look_mem_toList s.engine.prt t)), fun h y hy => ?_⟩
  obtain ⟨t, rfl⟩ := (mem_toList_iff_look s.engine.prt y).mp hy
  exact Option.isNone_iff_eq_none.mpr (h t)

theorem mayBeQuiesced_iff : s.mayBeQuiesced = true ↔
    s.ctl.mode = .quiescing ∧ s.ret.walk = .done ∧ s.ret.rq = [] ∧ s.bus.sq = [] ∧ s.sqHeld = 0 ∧ s.cache.pins = [] ∧
      ∀ t, s.entry t = none := by
  simp only [State.mayBeQuiesced, Bool.and_eq_true, entries_isNone_iff, beq_iff_eq, List.isEmpty_iff, and_assoc]

theorem enterQuiesced_enters (h : s.mayBeQuiesced = true) : s.enterQuiesced = (s.enterMode .quiesced).setWalk .notBegun := if_pos h

theorem enterQuiesced_stays (h : ¬ s.mayBeQuiesced = true) : s.enterQuiesced = s := if_neg h

/-! ### The rows of R130 -/

theorem walkFrom_passes (h : s.walkAt p = .empty) : s.walkFrom (n + 1) p = s.walkFrom n (p + 1) := by
  simp only [State.walkFrom, h]

section
variable (h : s.walkAt p = .holding l st d) (hunder : s.underAnswer l = false) (htransit : s.inTransit l = false)

include h hunder htransit

theorem walkFrom_drops (hst : st ≠ .altered) : s.walkFrom (n + 1) p = (s.walkEmpty p).walkFrom n (p + 1) := by
  cases st with
  | copy => simp [State.walkFrom, h, hunder, htransit]
  | sole => simp [State.walkFrom, h, hunder, htransit]
  | altered => exact absurd rfl hst

theorem walkFrom_returns (hst : st = .altered) (hfree : s.rqFree = true) :
    s.walkFrom (n + 1) p = ((s.walkEmpty p).addRq l d []).walkFrom n (p + 1) := by
  simp [State.walkFrom, h, hunder, htransit, hst, hfree]

end

/-- The walk must wait at the way: its line is under answer, in transit, or Altered with the RQ full. -/
theorem walkStays_at (hwalk : s.ret.walk = .atWay p) (hp : p < 2048) (h : s.walkAt p = .holding l st d)
    (hwaits : s.underAnswer l = true ∨ s.inTransit l = true ∨ (st = .altered ∧ s.rqFree = false)) : s.walkStays = true := by
  simpa [State.walkStays, hwalk, hp, h, or_assoc] using hwaits

/-- A walk that meets empty ways alone is done. -/
theorem walkFrom_empties (h : ∀ q, p ≤ q → q < p + n → s.walkAt q = .empty) : s.walkFrom n p = s.setWalk .done := by
  induction n generalizing p with
  | zero => rfl
  | succ n ih =>
    rw [walkFrom_passes (h p le_rfl (by omega))]
    exact ih fun q hle hlt => h q (by omega) (by omega)

/-! ### The walk of the event -/

/-- Where the walk goes on from a way: at the next one, or it is done. -/
def nextWalk (p : Nat) : Walk := if p + 1 < 2048 then .atWay (p + 1) else .done

theorem runWalk_begins (hmode : s.ctl.mode = .quiescing) (hwalk : s.ret.walk = .notBegun) (hmay : s.walkMayBegin = true) :
    s.runWalk = s.walkFrom 2048 0 := by
  simp only [State.runWalk, hmode, hwalk, hmay, if_true]

theorem runWalk_atWay (hmode : s.ctl.mode = .quiescing) (hwalk : s.ret.walk = .atWay p) : s.runWalk = s.walkFrom (2048 - p) p := by
  simp only [State.runWalk, hmode, hwalk, if_true]

theorem runWalk_setWalk (hmode : s.ctl.mode = .quiescing) (p : Nat) : (s.setWalk (.atWay p)).runWalk = s.walkFrom (2048 - p) p := by
  rw [runWalk_atWay (s := s.setWalk (.atWay p)) hmode rfl, walkFrom_setWalk]

theorem runWalk_nextWalk (hmode : s.ctl.mode = .quiescing) (hp : p < 2048) :
    (s.setWalk (nextWalk p)).runWalk = s.walkFrom (2047 - p) (p + 1) := by
  by_cases hnext : p + 1 < 2048
  · rw [nextWalk, if_pos hnext, runWalk_setWalk hmode]
    congr 1
    omega
  · have hlast : 2047 - p = 0 := by omega
    rw [nextWalk, if_neg hnext, hlast]
    exact runWalk_walkFrom (n := 0) (p := 2048) hmode rfl

/-! ### The row QUIESCE_WALK -/

/-- What the walk leaves as it was keeps the station quiet. -/
theorem State.Quiet.of_besideWalk (h : s.Quiet) (hx : x.besideWalk = s.besideWalk) (hrq : s.ret.rq.length ≤ x.ret.rq.length) :
    x.Quiet := by
  simp only [State.besideWalk, Prod.mk.injEq] at hx
  obtain ⟨hlpu, hhome, hsq, hask, hmedium, _⟩ := hx
  have hfree : x.sqFree = s.sqFree := by simp only [State.sqFree, sqHeld_congr hmedium, hsq]
  refine ⟨h.conv.imp (fun hall => by rw [hsq]; exact hall) fun hfull => ?_, by rw [hask, hfree]; exact h.places,
    by rw [hhome]; exact h.wanted, h.request.congr (by rw [hlpu]) (by rw [hlpu])⟩
  simp only [State.rqFree, decide_eq_false_iff_not] at hfull ⊢
  omega

section
variable (h : s.Quiet) (hport : s.portStays)

include h hport

/-- The walk runs, and the station may become Quiesced. -/
theorem exec_quiesceWalk : exec .quiesceWalk s = .next (s.runWalk.enterQuiesced.withOut noOutput) := by
  have hbegin : s.begin.Quiet := h.congr rfl
  have hhome : s.begin.runWalk.home = s.begin.home := congrArg (fun y => y.2.1) runWalk_keeps.1
  have hwalked : s.begin.runWalk.portStays := (hport.congr (x := s.begin) rfl rfl).congr (by rw [hhome]) (by rw [hhome])
  show Host.Outcome.next (s.begin.runWalk.settle s.begin .byChange) = _
  rw [settle_noRequest hbegin.runWalk.request, followUp_quiet hbegin.runWalk hwalked, runWalk_runWalk, begin_eq_withOut, runWalk_withOut,
    enterQuiesced_withOut]

/-- A walk that must wait leaves the station as it was. -/
theorem exec_quiesceWalk_stays (hstays : s.walkStays = true) : exec .quiesceWalk s = .next { s with out := noOutput } := by
  have hcalm : (s.ctl.mode != .quiescing || s.walkStays) = true := by simp [hstays]
  rw [exec_quiesceWalk h hport, runWalk_calm s hcalm, enterQuiesced_calm s hcalm]
  rfl

/-- Where the way lets the walk go on, the event goes on as from the next way. -/
theorem exec_quiesceWalk_goesOn (hmode : s.ctl.mode = .quiescing) (hwalk : s.ret.walk = .atWay p) (hp : p < 2048)
    (hrow : ∀ n, s.walkFrom (n + 1) p = x.walkFrom n (p + 1)) (hx : x.besideWalk = s.besideWalk)
    (hrq : s.ret.rq.length ≤ x.ret.rq.length) : exec .quiesceWalk s = exec .quiesceWalk (x.setWalk (nextWalk p)) := by
  have hleft : 2048 - p = 2047 - p + 1 := by omega
  have hhome : x.home = s.home := congrArg (fun y => y.2.1) hx
  have hctl : x.ctl = s.ctl := congrArg (fun y => y.2.2.2.2.2) hx
  have hquiet : (x.setWalk (nextWalk p)).Quiet := h.of_besideWalk hx hrq
  have hport' : (x.setWalk (nextWalk p)).portStays := hport.congr (congrArg HomeUnit.port hhome) (congrArg HomeUnit.hwq hhome)
  rw [exec_quiesceWalk h hport, exec_quiesceWalk hquiet hport', runWalk_atWay hmode hwalk, hleft, hrow,
    runWalk_nextWalk (hctl ▸ hmode) hp]

/-- R129, R130: the walk begins at way 0 of set 0. -/
theorem exec_quiesceWalk_begins (hmode : s.ctl.mode = .quiescing) (hwalk : s.ret.walk = .notBegun) (hmay : s.walkMayBegin = true) :
    exec .quiesceWalk s = exec .quiesceWalk (s.setWalk (.atWay 0)) := by
  have hquiet : (s.setWalk (.atWay 0)).Quiet := h.of_besideWalk rfl le_rfl
  rw [exec_quiesceWalk h hport, exec_quiesceWalk hquiet (hport.congr rfl rfl), runWalk_begins hmode hwalk hmay,
    runWalk_setWalk hmode]

/-- The walk of an empty cache is done in the event in which it begins. -/
theorem exec_quiesceWalk_empty (hmode : s.ctl.mode = .quiescing) (hwalk : s.ret.walk = .notBegun) (hmay : s.walkMayBegin = true)
    (hempty : ∀ q, q < 2048 → s.walkAt q = .empty) :
    exec .quiesceWalk s = .next ((s.setWalk .done).enterQuiesced.withOut noOutput) := by
  have hdone : s.walkFrom 2048 0 = s.setWalk .done := walkFrom_empties fun q _ hq => hempty q (by omega)
  rw [exec_quiesceWalk h hport, runWalk_begins hmode hwalk hmay, hdone]

end

theorem pins_of_walkMayBegin (h : s.walkMayBegin = true) : s.cache.pins = [] := by
  rw [walkMayBegin_eq, Bool.and_eq_true] at h
  exact List.isEmpty_iff.mp h.1

end

/-- Settles O59: the walk begins and is done in an empty cache; each row of R130 from the way at which the walk stands; and the condition
of R131. -/
theorem quiesceWalkAndEntry : Obligations.QuiesceWalkAndEntry := by
  unfold Obligations.QuiesceWalkAndEntry
  refine ⟨?emptyCache, ?rows, ?entry⟩
  case emptyCache =>
    intro s hmode hwalk hmay hempty hlpu hport hwanted hask hconv
    have hquiet : s.Quiet := ⟨.inl hconv, .inl hask, hwanted, noRequest_of_portEmpty hlpu⟩
    have hleft : (s.setWalk .done).mayBeQuiesced = true ↔
        s.ret.rq = [] ∧ s.bus.sq = [] ∧ s.sqHeld = 0 ∧ ∀ t, s.entry t = none := by
      rw [mayBeQuiesced_iff]
      exact ⟨fun ⟨_, _, hrq, hsq, hheld, _, hprt⟩ => ⟨hrq, hsq, hheld, hprt⟩,
        fun ⟨hrq, hsq, hheld, hprt⟩ => ⟨hmode, rfl, hrq, hsq, hheld, pins_of_walkMayBegin hmay, hprt⟩⟩
    rw [exec_quiesceWalk_empty hquiet hport hmode hwalk hmay hempty, ← hleft]
    refine ⟨fun hmayBe => ?_, fun hnot => ?_⟩
    · have hwalks : ({ s.ret with walk := .notBegun } : ReturnUnit) = s.ret := by rw [← hwalk]
      rw [enterQuiesced_enters hmayBe]
      exact congrArg (fun ret : ReturnUnit => Host.Outcome.next
        ({ s with ret := ret, ctl.mode := .quiesced, lpu.stateChange := true, out := noOutput } : State)) hwalks
    · rw [enterQuiesced_stays hnot]
      rfl
  case rows =>
    intro s hmode hlpu hport hwanted hask hconv
    have hquiet : s.Quiet := ⟨.inl hconv, .inl hask, hwanted, noRequest_of_portEmpty hlpu⟩
    refine ⟨fun hwalk hmay => exec_quiesceWalk_begins hquiet hport hmode hwalk hmay, ?_⟩
    rintro p next hwalk hp rfl
    refine ⟨fun hway => ?passed, fun l st x hway =>
      ⟨fun hu ht hst => ?dropped, fun hu ht hst hfree => ?returned, fun hwaits => ?waits⟩⟩
    case passed => exact exec_quiesceWalk_goesOn (x := s) hquiet hport hmode hwalk hp (fun _ => walkFrom_passes hway) rfl le_rfl
    case dropped =>
      exact exec_quiesceWalk_goesOn (x := s.walkEmpty p) hquiet hport hmode hwalk hp (fun _ => walkFrom_drops hway hu ht hst) rfl le_rfl
    case returned =>
      exact exec_quiesceWalk_goesOn (x := (s.walkEmpty p).addRq l x []) hquiet hport hmode hwalk hp
        (fun _ => walkFrom_returns hway hu ht hst hfree) rfl (by simp)
    case waits => exact exec_quiesceWalk_stays hquiet hport (walkStays_at hwalk hp hway hwaits)
  case entry =>
    intro s
    refine ⟨fun hmode hwalk hrq hsq hheld hpins hprt => ?_, fun hnot => ?_⟩
    · have hmay : s.begin.mayBeQuiesced = true := mayBeQuiesced_iff.mpr ⟨hmode, hwalk, hrq, hsq, hheld, hpins, hprt⟩
      exact congrArg Host.Outcome.next (enterQuiesced_enters hmay)
    · have hmay : ¬ s.begin.mayBeQuiesced = true := by
        rw [mayBeQuiesced_iff]
        simp only [not_and_or, not_forall]
        exact hnot
      exact congrArg Host.Outcome.next (enterQuiesced_stays hmay)

end Sys2Proof.Machine
end

section
/-!
PROOF. What follows in the event in which the LRQ head is judged, whatever the head leaves (R25, R63, R104, R129 to R131).
-/

namespace Sys2Proof.Machine

/-! ### The walk and the memory port do not meet (R104, R130) -/

/-- The station with another Home Unit. -/
def State.withHome (s : State) (h : HomeUnit) : State := { s with home := h }

section
variable {s t : State}

theorem walkFrom_withHome (h : HomeUnit) (n p : Nat) : (s.withHome h).walkFrom n p = (s.walkFrom n p).withHome h := by
  induction n generalizing s p with
  | zero => rfl
  | succ n ih =>
    have hat : (s.withHome h).walkAt p = s.walkAt p := rfl
    have hunder : ∀ l, (s.withHome h).underAnswer l = s.underAnswer l := fun _ => rfl
    have htransit : ∀ l, (s.withHome h).inTransit l = s.inTransit l := fun _ => rfl
    have hfree : (s.withHome h).rqFree = s.rqFree := rfl
    have hempty : (s.withHome h).walkEmpty p = (s.walkEmpty p).withHome h := rfl
    have hrq : ∀ l d, ((s.walkEmpty p).withHome h).addRq l d [] = ((s.walkEmpty p).addRq l d []).withHome h := fun _ _ => rfl
    unfold State.walkFrom
    simp only [hat, hunder, htransit, hfree, hempty, hrq, ih]
    (repeat' split) <;> rfl

theorem runWalk_withHome (h : HomeUnit) : (s.withHome h).runWalk = s.runWalk.withHome h := by
  have hctl : (s.withHome h).ctl = s.ctl := rfl
  have hret : (s.withHome h).ret = s.ret := rfl
  have hmay : (s.withHome h).walkMayBegin = s.walkMayBegin := rfl
  unfold State.runWalk
  simp only [hctl, hret, hmay, walkFrom_withHome]
  (repeat' split) <;> rfl

/-- The order in which the walk runs and the port begins its operation does not matter. -/
theorem runWalk_startPort : s.startPort.runWalk = s.runWalk.startPort := by
  have hhome : s.runWalk.home = s.home := congrArg (fun y => y.2.1) runWalk_keeps.1
  by_cases hstarts : s.home.port = .idle ∧ s.home.hwq ≠ []
  · obtain ⟨hidle, hwork⟩ := hstarts
    rw [startPort_starts hidle hwork, startPort_starts (s := s.runWalk) (hhome ▸ hidle) (hhome ▸ hwork), hhome]
    exact runWalk_withHome { s.home with port := .busy }
  · have hstays : s.portStays := by rwa [not_and_or, not_not] at hstarts
    rw [startPort_stays hstays, startPort_stays (hstays.congr (by rw [hhome]) (by rw [hhome]))]

@[simp] theorem startPort_ctl : s.startPort.ctl = s.ctl := by
  unfold State.startPort
  split <;> rfl

theorem walkFrom_engine (n p : Nat) : (s.walkFrom n p).engine = s.engine := by
  induction n generalizing s p with
  | zero => rfl
  | succ n ih => unfold State.walkFrom; (repeat' split) <;> simp [ih]

theorem runWalk_engine : s.runWalk.engine = s.engine := by
  unfold State.runWalk
  (repeat' split) <;> simp only [walkFrom_engine]

/-! ### What follows, once the head has been judged -/

/-- No victim recall can be made (R63, R117). -/
def State.NoRecall (s : State) : Prop := s.nextVictim = none ∨ s.freeTag = none

/-- The victim recalls that can be made are those of the wanted lines, while a PRT entry is free. -/
theorem State.NoRecall.congr (h : s.NoRecall) (hhome : t.home = s.home) (htag : s.freeTag = none → t.freeTag = none) : t.NoRecall := by
  have hnext : t.nextVictim = s.nextVictim := by simp only [State.nextVictim, State.findExport, State.exportSet, hhome]
  exact h.imp hnext.trans htag

theorem noRecall_of_calm (h : s.calm = true) : s.NoRecall := (calm_iff.mp h).1.victim

theorem walk_open (hmode : s.ctl.mode ≠ .quiescing) : s.runWalk.enterQuiesced = s := by
  have hcalm : (s.ctl.mode != .quiescing || s.walkStays) = true := by simp [hmode]
  rw [runWalk_calm s hcalm, enterQuiesced_calm s hcalm]

/-- R63: where neither a conversion nor an asker nor the memory port has anything to take, the event goes on with the parties that want a
PRT entry, and then with the port and the walk. -/
theorem settle_allocates (hconv : s.noConversion) (hplaces : s.bus.askers = [] ∨ s.sqFree = false) (hport : s.portStays)
    (s0 : State) (j : Judged) : s.settle s0 j = (State.allocateAfter s0 s j).startPort.runWalk.enterQuiesced := by
  have hplaces' : (s.bus.askers.isEmpty || !s.sqFree) = true := by simpa using hplaces
  unfold State.settle
  dsimp only
  rw [convertAll_of_noConversion hconv, givePlaces_calm s hplaces', startPort_stays hport, runWalk_startPort]

/-- The head is judged once, where it stays or leaves the LRQ empty. -/
theorem allocate_judged {left : Bool} (h : s.NoRecall) (hhead : s.headOnce = (t, left))
    (hleft : left = true → t.lpu.lrq = [] ∧ t.NoRecall) (a b : Bool) (n : Nat) : s.allocate (n + 1) a b true = t := by
  have hno : (s.nextVictim.isSome && s.freeTag.isSome) = false := by rcases h with h | h <;> simp [h]
  simp only [State.allocate, hno, hhead, Bool.false_eq_true, if_false, if_true]
  cases left with
  | false => rfl
  | true =>
    obtain ⟨hq, hnext⟩ := hleft rfl
    exact allocate_calm t (by simpa [State.NoRecall] using hnext) hq _ _ _ n

/-- On a calm station the head is judged, a memory operation begins, and the walk runs. -/
theorem settle_judged {left : Bool} (h : s.calm = true) (hhead : s.headOnce = (t, left))
    (hleft : left = true → t.lpu.lrq = [] ∧ t.NoRecall) (s0 : State) (j : Judged) (hj : State.judgedAgain s0 s j = true) :
    s.settle s0 j = t.startPort.runWalk.enterQuiesced := by
  obtain ⟨hsettled, hport⟩ := calm_iff.mp h
  rw [settle_allocates hsettled.conv hsettled.places hport, State.allocateAfter, hj, allocate_judged hsettled.victim hhead hleft]

/-- Nothing but a memory operation and the quiesce walk can follow. -/
structure State.Rests (s : State) : Prop where
  conv    : s.noConversion
  places  : s.bus.askers = [] ∨ s.sqFree = false
  victim  : s.NoRecall
  request : s.noRequest

theorem State.Rests.startPort (h : s.Rests) : s.startPort.Rests := by
  unfold State.startPort
  split
  · exact ⟨h.conv, h.places, h.victim, h.request⟩
  · exact h

theorem State.Rests.runWalk (h : s.Rests) : s.runWalk.Rests := by
  obtain ⟨hbeside, hrq⟩ := runWalk_keeps (s := s)
  simp only [State.besideWalk, Prod.mk.injEq] at hbeside
  obtain ⟨hlpu, hhome, hsq, hask, hmedium, _⟩ := hbeside
  have hfree : s.runWalk.sqFree = s.sqFree := by simp only [State.sqFree, sqHeld_congr hmedium, hsq]
  have htag : s.runWalk.freeTag = s.freeTag := by simp only [State.freeTag, State.entry, runWalk_engine]
  refine ⟨h.conv.imp (fun hall => by rwa [hsq]) fun hfull => ?_, by rw [hask, hfree]; exact h.places,
    h.victim.congr hhome htag.trans, h.request.congr (congrArg LocalPort.lrq hlpu) (congrArg LocalPort.head hlpu)⟩
  simp only [State.rqFree, decide_eq_false_iff_not] at hfull ⊢
  omega

/-- R129, R130: the row QUIESCE_WALK, where nothing but the walk can move. -/
theorem exec_quiesceWalk_rests (h : s.Rests) (hport : s.portStays) :
    exec .quiesceWalk s = .next (s.runWalk.enterQuiesced.withOut noOutput) := by
  have hrests := h.runWalk
  have hhome : s.runWalk.home = s.home := congrArg (fun y => y.2.1) runWalk_keeps.1
  have hport' : s.runWalk.portStays := hport.congr (by rw [hhome]) (by rw [hhome])
  have hplaces : (s.runWalk.bus.askers.isEmpty || !s.runWalk.sqFree) = true := by simpa using hrests.places
  have hfollow : s.runWalk.followUp = s.runWalk.enterQuiesced := by
    unfold State.followUp
    dsimp only
    rw [convertAll_of_noConversion hrests.conv, givePlaces_calm s.runWalk hplaces, startPort_stays hport',
      victims_of_settled hrests.victim, runWalk_runWalk, startPort_stays hport']
  have hreq : (s.runWalk.withOut noOutput).noRequest := hrests.request
  show Host.Outcome.next (s.begin.runWalk.settle s.begin .byChange) = _
  rw [begin_eq_withOut, runWalk_withOut, settle_noRequest hreq, followUp_withOut, hfollow]

/-- The walk and the entry to Quiesced give nothing out. -/
theorem walked_out : s.runWalk.enterQuiesced.out = s.out :=
  (out_of_withOut s.runWalk fun s o => enterQuiesced_withOut s o).trans (out_of_withOut s fun s o => runWalk_withOut s o)

end

/-! ### A head that leaves in the event of its acceptance, whatever it has the station do next (R104, R129) -/

section
variable {s t : State} {d : Decoded} {a : HeadAction} {tag : PTag} {code : BitVec 3} {addr : LocalAddr} {len : BitVec 6}
  {data : List Byte}

theorem exec_headLeaves_follow (hpass : s.passesOn tag code addr len data d = true) (hj : s.judgeHead d = a)
    (hl : a.leaves = true) (hn : a.needsEntry = true → s.freeTag ≠ none) (hlpu : t.lpu = { s.lpu with tags := t.lpu.tags })
    (hact : ∀ r, (s.headWaiting tag r d).actHead d a = { t with lpu := { (s.headWaiting tag r d).lpu with tags := t.lpu.tags } })
    (hvictim : t.NoRecall) : exec (.localRequestAcceptance tag code addr len data) s = .next t.startPort.runWalk.enterQuiesced := by
  obtain ⟨r, hacc, hdec⟩ := passesOn_iff.mp hpass
  obtain ⟨hstill, _, _⟩ := accepts_iff.mp hacc
  obtain ⟨hcalm, hq, hhead, _⟩ := still_iff.mp hstill
  have hstarted : (s.begin.joinLrq r).headOnce = (t, true) := by
    rw [headOnce_joined hacc hdec, startHead_leaves (s := s.headWaiting tag r d) hj hl hn, hact r,
      popHead_headWaiting hstill hlpu]
  have hempty : t.lpu.lrq = [] := (congrArg LocalPort.lrq hlpu).trans hq
  rw [exec_accepted hacc, settle_judged (s := s.begin.joinLrq r) hcalm hstarted (fun _ => ⟨hempty, hvictim⟩) s.begin .all
    (judgedAgain_undecoded _ hhead _ _)]

/-- A Pinned Read passes on at no station that is Quiescing (R12). -/
theorem mode_of_pinnedRead_pass (hpass : s.passesOn tag code addr len data d = true) (hop : d.item.op = .pinnedRead) :
    s.ctl.mode ≠ .quiescing := by
  obtain ⟨r, _, hdec⟩ := passesOn_iff.mp hpass
  obtain ⟨hitem, _, hnone⟩ := decode_pass hdec
  have hrop : r.op = .pinnedRead := by rw [← hop, hitem]; rfl
  intro hmode
  rw [stateRefusal_quiescing hmode (.inl hrop)] at hnone
  cases hnone

/-- A Pinned Read that is started leaves what its action leaves, and an idle memory port begins what it has queued (R104). -/
theorem exec_pinnedRead_leaves (hpass : s.passesOn tag code addr len data d = true) (hop : d.item.op = .pinnedRead)
    (hj : s.judgeHead d = a) (hl : a.leaves = true) (hn : a.needsEntry = true → s.freeTag ≠ none)
    (hlpu : t.lpu = { s.lpu with tags := t.lpu.tags })
    (hact : ∀ r, (s.headWaiting tag r d).actHead d a = { t with lpu := { (s.headWaiting tag r d).lpu with tags := t.lpu.tags } })
    (hctl : t.ctl = s.ctl) (hvictim : t.NoRecall) :
    exec (.localRequestAcceptance tag code addr len data) s = .next t.startPort := by
  have hmode : t.startPort.ctl.mode ≠ .quiescing := by
    rw [startPort_ctl, hctl]
    exact mode_of_pinnedRead_pass hpass hop
  rw [exec_headLeaves_follow hpass hj hl hn hlpu hact hvictim, walk_open hmode]

/-- A request refused at the head is answered, and nothing else changes. -/
theorem exec_refusedAtHead {st : Status} (hpass : s.passesOn tag code addr len data d = true) (hj : s.judgeHead d = .refuse st) :
    exec (.localRequestAcceptance tag code addr len data) s = .next { s with out := oneResponse tag st .none } := by
  obtain ⟨hcalm, _, hitem, _⟩ := passesOn_facts hpass
  refine exec_headLeaves hpass hj rfl nofun rfl (fun r => ?_) hcalm
  rw [← tagsWithout_headWaiting hpass (r := r), ← hitem]
  rfl

/-- A Pinned Write that ends its pin leaves what its action leaves; in Quiescing the walk that may then begin runs in the same event, as
the row QUIESCE_WALK has it (R129). -/
theorem exec_pinEnds (hpass : s.passesOn tag code addr len data d = true) (hj : s.judgeHead d = a) (hl : a.leaves = true)
    (hn : a.needsEntry = false) (hlpu : t.lpu = { s.lpu with tags := t.lpu.tags })
    (hact : ∀ r, (s.headWaiting tag r d).actHead d a = { t with lpu := { (s.headWaiting tag r d).lpu with tags := t.lpu.tags } })
    (hret : t.ret = s.ret) (hbus : t.bus = s.bus) (hctl : t.ctl = s.ctl) (hvictim : t.NoRecall) :
    (s.ctl.mode ≠ .quiescing → exec (.localRequestAcceptance tag code addr len data) s = .next t.startPort) ∧
      ∃ v, exec .quiesceWalk t.startPort = .next v ∧ v.out = noOutput ∧
        exec (.localRequestAcceptance tag code addr len data) s = .next { v with out := t.startPort.out } := by
  obtain ⟨r, hacc, _⟩ := passesOn_iff.mp hpass
  obtain ⟨hstill, _, _⟩ := accepts_iff.mp hacc
  obtain ⟨hsettled, _⟩ := settled_of_still hstill
  have hfollow := exec_headLeaves_follow hpass hj hl (by simp [hn]) hlpu hact hvictim
  have hrests : t.Rests :=
    ⟨hsettled.conv.congr (congrArg BusInterface.sq hbus) hret, by rw [hbus, sqFree_congr hbus]; exact hsettled.places, hvictim,
      (noRequest_of_still hstill).congr (by rw [hlpu]) (by rw [hlpu])⟩
  refine ⟨fun hmode => ?_, _, exec_quiesceWalk_rests hrests.startPort (startPort_portStays t), rfl, ?_⟩
  · rw [hfollow, walk_open (by rwa [startPort_ctl, hctl])]
  · rw [hfollow, ← walked_out (s := t.startPort)]
    rfl

end

end Sys2Proof.Machine
end

section
/-!
PROOF. O21: a Pinned Read and a Pinned Write on the remote cached path, at the LRQ head (R122, R129, R133, R134, R138).
-/

namespace Sys2Proof.Machine

section
variable {s t : State} {d : Decoded} {l : LineNo} {w : WayNo} {x : LineData} {st : LineState} {u : ReqTag} {e : PrtEntry}
  {p : PinEntry}

/-! ### The Pin Table (R133) -/

/-- The Pin Table takes an entry for the line: it has none, and a place is free. -/
def State.pinRoom (s : State) (l : LineNo) : Prop := (∀ p ∈ s.cache.pins, p.line ≠ l) ∧ s.cache.pins.length < 2

theorem findPin_eq_none_iff : s.findPin l = none ↔ ∀ p ∈ s.cache.pins, p.line ≠ l := by simp [State.findPin]

theorem findPin_isSome_iff : (s.findPin l).isSome = true ↔ ∃ p ∈ s.cache.pins, p.line = l := by simp [State.findPin]

/-- The first two checks of R134 and of R136. -/
theorem State.pinRoom.passes (h : s.pinRoom l) : s.findPin l = none ∧ ¬ Config.pinPlaces ≤ s.cache.pins.length :=
  ⟨findPin_eq_none_iff.mpr h.1, not_le.mpr h.2⟩

/-- The entry that a Pinned Read makes before its bytes have come. -/
def PinEntry.pending (l : LineNo) (path : PinPath) (tag : PTag) : PinEntry :=
  { line := l, path := path, held := false, timer := none, tag := tag }

theorem pendPin_pinnedRead (hop : d.item.op = .pinnedRead) (path : PinPath) :
    s.pendPin d.item l path = s.addPin (.pending l path d.item.tag) := if_pos hop

/-- The pin of a line that had none becomes held (R133, R140). -/
theorem holdPin_addPin (hnone : ∀ p ∈ s.cache.pins, p.line ≠ l) (hline : p.line = l) :
    (s.addPin p).holdPin l = s.addPin { p with held := true, timer := some s.ctl.start.pinLimit } := by
  have hold : (s.cache.pins.map fun p => if p.line = l then { p with held := true, timer := some s.ctl.start.pinLimit } else p) =
      s.cache.pins :=
    (List.map_congr_left fun q hq => if_neg (hnone q hq)).trans (List.map_id' _)
  unfold State.holdPin State.addPin
  simp only [List.map_append, hold, List.map_cons, List.map_nil, hline, if_true]

/-! ### The judgement of a pinned request is the judgement of its path (R19, R111) -/

theorem judgeHead_remotePinnedRead (hp : d.path = .cached) (hop : d.item.op = .pinnedRead) :
    s.judgeHead d = s.judgePinnedRead d := by
  simp only [State.judgeHead, hp, State.judgeRemote, hop]

theorem judgeHead_homePinnedRead (hp : d.path = .home) (hop : d.item.op = .pinnedRead) :
    s.judgeHead d = s.judgeHomePinnedRead d := by
  simp only [State.judgeHead, hp, State.judgeHome, hop]

theorem judgeHead_remotePinnedWrite (hp : d.path = .cached) (hop : d.item.op = .pinnedWrite) :
    s.judgeHead d = s.judgePinnedWrite d := by
  simp only [State.judgeHead, hp, State.judgeRemote, hop]

theorem judgeHead_homePinnedWrite (hp : d.path = .home) (hop : d.item.op = .pinnedWrite) :
    s.judgeHead d = s.judgeHomePinnedWrite d := by
  simp only [State.judgeHead, hp, State.judgeHome, hop]

/-! ### The judgement of a Pinned Read (R134) -/

section pinnedRead
variable (hop : d.item.op = .pinnedRead)

include hop

/-- R134, R136: the first check is the same on both paths. -/
theorem judgeHead_pinHeld (hp : d.path ≠ .direct) (h : ∃ p ∈ s.cache.pins, p.line = d.line) :
    s.judgeHead d = .refuse .pinHeld := by
  have hpin := findPin_isSome_iff.mpr h
  cases hpath : d.path with
  | direct => exact absurd hpath hp
  | cached => rw [judgeHead_remotePinnedRead hpath hop, State.judgePinnedRead, if_pos hpin]
  | home => rw [judgeHead_homePinnedRead hpath hop, State.judgeHomePinnedRead, if_pos hpin]

/-- And so is the second. -/
theorem judgeHead_pinLimit (hp : d.path ≠ .direct) (hnone : ∀ p ∈ s.cache.pins, p.line ≠ d.line) (hfull : 2 ≤ s.cache.pins.length) :
    s.judgeHead d = .refuse .pinLimit := by
  have hpin := findPin_eq_none_iff.mpr hnone
  have hfull' : Config.pinPlaces ≤ s.cache.pins.length := hfull
  cases hpath : d.path with
  | direct => exact absurd hpath hp
  | cached => simp [judgeHead_remotePinnedRead hpath hop, State.judgePinnedRead, hpin, hfull']
  | home => simp [judgeHead_homePinnedRead hpath hop, State.judgeHomePinnedRead, hpin, hfull']

variable (hp : d.path = .cached) (hroom : s.pinRoom d.line)

include hp hroom

theorem judgeHead_pinnedRead : s.judgeHead d = if (s.findRq d.line).isSome then .waits else s.judgeCached d true .pinnedHit := by
  obtain ⟨hpin, hplace⟩ := hroom.passes
  simp [judgeHead_remotePinnedRead hp hop, State.judgePinnedRead, hpin, hplace]

theorem judgeHead_pinnedRead_rq (hrq : s.findRq d.line ≠ none) : s.judgeHead d = .waits := by
  rw [judgeHead_pinnedRead hop hp hroom, if_pos (Option.isSome_iff_ne_none.mpr hrq)]

/-- R134, step 4: the entry of the line decides. -/
theorem judgeHead_pinnedRead_entry (hrq : s.findRq d.line = none) (ht : s.findEntry d.line = some u) (he : s.entry u = some e) :
    s.judgeHead d = if s.attaches e d.item.op then .attach u else .waits := by
  rw [judgeHead_pinnedRead hop hp hroom, hrq]
  simp only [Option.isSome_none, Bool.false_eq_true, if_false, State.judgeCached, ht, he]

/-- Steps 5 and 6. -/
theorem judgeHead_pinnedRead_busy (hrq : s.findRq d.line = none) (ht : s.findEntry d.line = none)
    (h : s.inTransit d.line = true ∨ s.underAnswer d.line = true) : s.judgeHead d = .waits := by
  rw [judgeHead_pinnedRead hop hp hroom, hrq]
  rcases h with h | h <;> simp [State.judgeCached, ht, h]

variable (hfree : s.lineFree d.line = true)

include hfree

/-- Steps 7 and 8. -/
theorem judgeHead_pinnedRead_held (hh : s.held d.line = some (w, st, x)) :
    s.judgeHead d = if st = .copy then .makePromote w else .pinnedHit w := by
  obtain ⟨he, hrq, ht, hu⟩ := lineFree_iff.mp hfree
  rw [judgeHead_pinnedRead hop hp hroom, hrq]
  cases st <;> simp [State.judgeCached, he, ht, hu, hh]

/-- Step 9. -/
theorem judgeHead_pinnedRead_vacant (hh : s.held d.line = none) : s.judgeHead d = s.judgeMiss d.line .claim := by
  obtain ⟨he, hrq, ht, hu⟩ := lineFree_iff.mp hfree
  rw [judgeHead_pinnedRead hop hp hroom, hrq]
  simp [State.judgeCached, he, ht, hu, hh]

/-- A miss for which a PRT entry, a way, or an RQ entry for its Altered victim is wanting (R22 to R24, R62). -/
theorem headStays_pinnedMiss (hh : s.held d.line = none)
    (h : s.freeTag = none ∨ s.victim d.line = none ∨
      ∃ w k x, s.victim d.line = some w ∧ s.wayAt d.line w = .holding k .altered x ∧ s.rqFree = false) : s.headStays d := by
  have hj := judgeHead_pinnedRead_vacant hop hp hroom hfree hh
  rcases h with h | h | ⟨w, k, x, hv, hw, hfull⟩
  · rcases judgeMiss_cases (s := s) (l := d.line) .claim with hm | ⟨w, hm⟩
    · exact .inl (hj.trans hm)
    · exact .inr ⟨by rw [hj, hm]; rfl, h⟩
  · exact .inl (hj.trans (judgeMiss_noVictim _ h))
  · exact .inl (hj.trans (judgeMiss_rqFull _ hv hw hfull))

/-- A Copy for which a PRT entry is wanting. -/
theorem headStays_pinnedPromote (hh : s.held d.line = some (w, .copy, x)) (h : s.freeTag = none) : s.headStays d := by
  have hj : s.judgeHead d = .makePromote w := by rw [judgeHead_pinnedRead_held hop hp hroom hfree hh, if_pos rfl]
  exact .inr ⟨by rw [hj]; rfl, h⟩

end pinnedRead

/-- R64, for a pinned request: a Claim or Promote entry, not under answer, and for a Pinned Read with no follower. -/
theorem attaches_pinned_iff {op : LocalOp} (hop : op = .pinnedRead ∨ op = .pinnedWrite) (hline : e.line = l) :
    s.attaches e op = true ↔ e.phase ≠ .finishing ∧ e.waiting.length < 4 ∧ (e.kind = .claim ∨ e.kind = .promote) ∧
      s.underAnswer l = false ∧ (op = .pinnedRead → e.follower = none) := by
  have hroom : decide (e.waiting.length < Config.waitingPlaces) = true ↔ e.waiting.length < 4 := decide_eq_true_iff
  have hsuits : e.kind.suits op = true ↔ e.kind = .claim ∨ e.kind = .promote := by
    rcases hop with rfl | rfl <;> cases e.kind <;> simp [PrtKind.suits]
  have hnot : op ≠ .read := by rcases hop with rfl | rfl <;> simp
  simp [State.attaches, hroom, hsuits, hnot, hline, and_assoc, imp_iff_not_or]

/-! ### The judgement of a Pinned Write (R138) -/

section pinnedWrite
variable (hop : d.item.op = .pinnedWrite)

include hop

/-- R138, R139: the first check is the same on both paths. -/
theorem judgeHead_pinLost (hp : d.path ≠ .direct) (hnone : ∀ p ∈ s.cache.pins, p.line ≠ d.line) :
    s.judgeHead d = .refuse .pinLost := by
  have hpin := findPin_eq_none_iff.mpr hnone
  cases hpath : d.path with
  | direct => exact absurd hpath hp
  | cached => simp only [judgeHead_remotePinnedWrite hpath hop, State.judgePinnedWrite, hpin]
  | home => simp only [judgeHead_homePinnedWrite hpath hop, State.judgeHomePinnedWrite, hpin]

variable (hp : d.path = .cached) (hpin : s.findPin d.line = some p)

include hp hpin

theorem judgeHead_pinnedWrite_rq (hrq : s.findRq d.line ≠ none) : s.judgeHead d = .waits := by
  simp [judgeHead_remotePinnedWrite hp hop, State.judgePinnedWrite, hpin, Option.isSome_iff_ne_none.mpr hrq]

theorem judgeHead_pinnedWrite_underAnswer (hheld : p.held = true) (hu : s.underAnswer d.line = true) : s.judgeHead d = .waits := by
  simp [judgeHead_remotePinnedWrite hp hop, State.judgePinnedWrite, hpin, hheld, hu]

theorem judgeHead_pinRelease (hheld : p.held = true) (hrq : s.findRq d.line = none) (hu : s.underAnswer d.line = false)
    (hh : s.held d.line = some (w, st, x)) : s.judgeHead d = .pinRelease w := by
  simp [judgeHead_remotePinnedWrite hp hop, State.judgePinnedWrite, hpin, hheld, hrq, hu, hh]

theorem judgeHead_pinnedWrite_alone (hheld : p.held = false) (ht : s.findEntry d.line = none) : s.judgeHead d = .waits := by
  simp [judgeHead_remotePinnedWrite hp hop, State.judgePinnedWrite, hpin, hheld, ht]

theorem judgeHead_pinnedWrite_entry (hheld : p.held = false) (hrq : s.findRq d.line = none) (ht : s.findEntry d.line = some u)
    (he : s.entry u = some e) : s.judgeHead d = if s.attaches e d.item.op then .attach u else .waits := by
  simp [judgeHead_remotePinnedWrite hp hop, State.judgePinnedWrite, hpin, hheld, hrq, ht, he, hop]

end pinnedWrite

/-! ### What the actions leave (R133, R134, R138) -/

/-- R134, step 7. -/
theorem actHead_pinnedHit (hop : d.item.op = .pinnedRead) (hnone : ∀ p ∈ s.cache.pins, p.line ≠ d.line)
    (hh : s.held d.line = some (w, st, x)) :
    s.actHead d (.pinnedHit w) =
      { s with
        lpu.tags := s.tagsWithout d.item.tag
        cache :=
          { sets := (s.touch d.line w).cache.sets
            pins := s.cache.pins ++
              [{ PinEntry.pending d.line .remote d.item.tag with held := true, timer := some s.ctl.start.pinLimit }] }
        out.responses := s.out.responses ++ [okResponse d.item.tag (.bytes (x.bytes d.item.offset.toNat d.item.len))] } := by
  have hnone' : ∀ p ∈ (s.serveRead d.line w d.item).cache.pins, p.line ≠ d.line := hnone
  simp only [State.actHead, pendPin_pinnedRead hop, holdPin_addPin (p := .pending d.line .remote d.item.tag) hnone' rfl]
  simp only [State.serveRead, wayAt_of_held hh, Way.data]
  rfl

theorem actHead_attach_pinnedRead (hop : d.item.op = .pinnedRead) (he : s.entry u = some e) :
    s.actHead d (.attach u) = (s.setEntry u (e.joined d.item)).addPin (.pending d.line .remote d.item.tag) := by
  simp only [State.actHead, State.attachItem, he, pendPin_pinnedRead hop]
  rfl

theorem actHead_attach_pinnedWrite (hop : d.item.op = .pinnedWrite) (he : s.entry u = some e) :
    s.actHead d (.attach u) = s.setEntry u (e.joined d.item) := by
  simp only [State.actHead, State.attachItem, he, State.pendPin, hop, reduceCtorEq, if_false]
  rfl

theorem actHead_makePromote_pinnedRead (hop : d.item.op = .pinnedRead) (ht : s.freeTag = some u) :
    s.actHead d (.makePromote w) =
      { s with
        cache := { sets := (s.touch d.line w).cache.sets, pins := s.cache.pins ++ [.pending d.line .remote d.item.tag] }
        engine := (s.setEntry u (.fresh .promote d.line (some w) [d.item] .request)).engine
        bus := (s.enqueue (.prt u)).bus } := by
  simp only [State.actHead, pendPin_pinnedRead hop, makeAtFree_of_free ht]
  rfl

theorem actHead_makeMiss_pinnedRead (kind : PrtKind) (hop : d.item.op = .pinnedRead) (ht : s.freeTag = some u) :
    s.actHead d (.makeMiss kind w) =
      { s with
        cache :=
          { sets := ((s.setWay d.line w (.reserved d.line)).touch d.line w).cache.sets
            pins := s.cache.pins ++ [.pending d.line .remote d.item.tag] }
        engine := (s.setEntry u (.fresh kind d.line (some w) [d.item] .request)).engine
        ret := (s.victimQueued d.line w).ret
        bus := ((s.victimQueued d.line w).enqueue (.prt u)).bus } := by
  have hvictim := victimQueued_eq s d.line w
  have ht' : (s.evict d.line w).freeTag = some u := by rw [evict_eq, hvictim]; exact ht
  simp only [State.actHead, pendPin_pinnedRead hop]
  rw [makeAtFree_of_free ht', evict_eq, hvictim]
  rfl

/-- Which victim is queued does not depend on the LRQ (R24). -/
theorem victimQueued_headWaiting {tag : PTag} {r : LocalReq} :
    (s.headWaiting tag r d).victimQueued l w = { s.victimQueued l w with lpu := (s.headWaiting tag r d).lpu, out := noOutput } := by
  by_cases h : ∃ k x, s.wayAt l w = .holding k .altered x
  · obtain ⟨k, x, hw⟩ := h
    rw [victimQueued_altered hw, victimQueued_altered (s := s.headWaiting tag r d) hw]
    rfl
  · rw [victimQueued_other h, victimQueued_other (s := s.headWaiting tag r d) h]
    rfl

/-- R138: the bytes are written, and the pin ends. -/
theorem actHead_pinRelease (hh : s.held d.line = some (w, st, x)) :
    s.actHead d (.pinRelease w) =
      { s with
        lpu.tags := s.tagsWithout d.item.tag
        cache :=
          { sets := ((s.setWay d.line w (.holding d.line .altered (x.merge d.item.offset.toNat d.item.data))).touch d.line w).cache.sets
            pins := s.cache.pins.filter fun q => q.line != d.line }
        out.responses := s.out.responses ++ [okResponse d.item.tag .none] } := by
  simp only [State.actHead, State.mergeWay, wayAt_of_held hh, Way.data]
  rfl

end

/-! ### A pinned request that is started in the event of its acceptance -/

section
variable {s t : State} {d : Decoded} {w : WayNo} {x : LineData} {st : LineState} {u : ReqTag} {e : PrtEntry} {a : HeadAction}
  {p : PinEntry} {tag : PTag} {code : BitVec 3} {addr : LocalAddr} {len : BitVec 6} {data : List Byte}
  (hpass : s.passesOn tag code addr len data d = true)

include hpass

/-- A Pinned Read that queues no memory operation and frees no PRT entry leaves what its action leaves. -/
theorem exec_remotePinnedRead (hop : d.item.op = .pinnedRead)
    (hj : s.judgeHead d = a) (hl : a.leaves = true) (hn : a.needsEntry = true → s.freeTag ≠ none)
    (hact : ∀ r, (s.headWaiting tag r d).actHead d a = { t with lpu := { (s.headWaiting tag r d).lpu with tags := t.lpu.tags } })
    (hlpu : t.lpu = { s.lpu with tags := t.lpu.tags }) (hhome : t.home = s.home) (hctl : t.ctl = s.ctl)
    (htag : s.freeTag = none → t.freeTag = none) : exec (.localRequestAcceptance tag code addr len data) s = .next t := by
  obtain ⟨hcalm, _, _, _⟩ := passesOn_facts hpass
  have hport : t.portStays := (calm_iff.mp hcalm).2.congr (congrArg HomeUnit.port hhome) (congrArg HomeUnit.hwq hhome)
  rw [exec_pinnedRead_leaves hpass hop hj hl hn hlpu hact hctl ((noRecall_of_calm hcalm).congr hhome htag), startPort_stays hport]

theorem exec_pinnedRead_attaches (hop : d.item.op = .pinnedRead) (he : s.entry u = some e) (hj : s.judgeHead d = .attach u) :
    exec (.localRequestAcceptance tag code addr len data) s = .next
      { s with
        lpu.tags := s.tagsWith tag
        engine := (s.setEntry u (e.joined d.item)).engine
        cache.pins := s.cache.pins ++ [.pending d.line .remote tag]
        out := noOutput } := by
  obtain ⟨_, _, hitem, _⟩ := passesOn_facts hpass
  refine exec_remotePinnedRead hpass hop hj rfl nofun (fun r => ?_) rfl rfl rfl (freeTag_setEntry he).trans
  rw [actHead_attach_pinnedRead (s := s.headWaiting tag r d) hop he, hitem]
  rfl

variable (hp : d.path = .cached)

include hp

theorem exec_pinnedHit (hop : d.item.op = .pinnedRead) (hroom : s.pinRoom d.line) (hfree : s.lineFree d.line = true)
    (hh : s.held d.line = some (w, st, x)) (hst : st ≠ .copy) :
    exec (.localRequestAcceptance tag code addr len data) s = .next
      { s with
        cache :=
          { sets := (s.touch d.line w).cache.sets
            pins := s.cache.pins ++
              [{ PinEntry.pending d.line .remote tag with held := true, timer := some s.ctl.start.pinLimit }] }
        out := oneResponse tag .ok (.bytes (x.bytes d.item.offset.toNat d.item.len)) } := by
  obtain ⟨_, _, hitem, _⟩ := passesOn_facts hpass
  have hj : s.judgeHead d = .pinnedHit w := by rw [judgeHead_pinnedRead_held hop hp hroom hfree hh, if_neg hst]
  refine exec_remotePinnedRead hpass hop hj rfl nofun (fun r => ?_) rfl rfl rfl id
  rw [actHead_pinnedHit (s := s.headWaiting tag r d) hop hroom.1 hh, tagsWithout_headWaiting hpass, hitem]
  rfl

theorem exec_pinnedPromote (hop : d.item.op = .pinnedRead) (hroom : s.pinRoom d.line) (hfree : s.lineFree d.line = true)
    (hh : s.held d.line = some (w, .copy, x)) (ht : s.freeTag = some u) :
    exec (.localRequestAcceptance tag code addr len data) s = .next
      { s with
        lpu.tags := s.tagsWith tag
        cache := { sets := (s.touch d.line w).cache.sets, pins := s.cache.pins ++ [.pending d.line .remote tag] }
        engine := (s.setEntry u (.fresh .promote d.line (some w) [d.item] .request)).engine
        bus := (s.enqueue (.prt u)).bus
        out := noOutput } := by
  obtain ⟨_, _, hitem, _⟩ := passesOn_facts hpass
  have hj : s.judgeHead d = .makePromote w := by rw [judgeHead_pinnedRead_held hop hp hroom hfree hh, if_pos rfl]
  have hsome : s.freeTag ≠ none := by simp [ht]
  refine exec_remotePinnedRead hpass hop hj rfl (fun _ => hsome) (fun r => ?_) rfl rfl rfl fun hnone => absurd hnone hsome
  rw [actHead_makePromote_pinnedRead (s := s.headWaiting tag r d) hop ht, hitem]
  rfl

theorem exec_pinnedMiss (hop : d.item.op = .pinnedRead) (hroom : s.pinRoom d.line) (hfree : s.lineFree d.line = true)
    (hh : s.held d.line = none) (hv : s.victim d.line = some w) (ht : s.freeTag = some u)
    (hrq : (∃ k x, s.wayAt d.line w = .holding k .altered x) → s.rqFree = true) :
    exec (.localRequestAcceptance tag code addr len data) s = .next
      { s with
        lpu.tags := s.tagsWith tag
        cache :=
          { sets := ((s.setWay d.line w (.reserved d.line)).touch d.line w).cache.sets
            pins := s.cache.pins ++ [.pending d.line .remote tag] }
        engine := (s.setEntry u (.fresh .claim d.line (some w) [d.item] .request)).engine
        ret := (s.victimQueued d.line w).ret
        bus := ((s.victimQueued d.line w).enqueue (.prt u)).bus
        out := noOutput } := by
  obtain ⟨_, _, hitem, _⟩ := passesOn_facts hpass
  have hj := (judgeHead_pinnedRead_vacant hop hp hroom hfree hh).trans (judgeMiss_victim _ hv hrq)
  have hsome : s.freeTag ≠ none := by simp [ht]
  refine exec_remotePinnedRead hpass hop hj rfl (fun _ => hsome) (fun r => ?_) rfl rfl rfl fun hnone => absurd hnone hsome
  rw [actHead_makeMiss_pinnedRead _ (s := s.headWaiting tag r d) hop ht, victimQueued_headWaiting, hitem]
  rfl

/-- R138, R129: a Pinned Write of a line with a held pin. -/
theorem exec_pinReleased (hop : d.item.op = .pinnedWrite) (hpin : s.findPin d.line = some p) (hheld : p.held = true)
    (hrq : s.findRq d.line = none) (hu : s.underAnswer d.line = false) (hh : s.held d.line = some (w, st, x))
    (ht : t =
      { s with
        cache :=
          { sets := ((s.setWay d.line w (.holding d.line .altered (x.merge d.item.offset.toNat d.item.data))).touch d.line w).cache.sets
            pins := s.cache.pins.filter fun q => q.line != d.line }
        out := oneResponse tag .ok .none }) :
    (s.ctl.mode ≠ .quiescing → exec (.localRequestAcceptance tag code addr len data) s = .next t) ∧
      ∃ v, exec .quiesceWalk t = .next v ∧ exec (.localRequestAcceptance tag code addr len data) s = .next { v with out := t.out } := by
  obtain ⟨hcalm, _, hitem, _⟩ := passesOn_facts hpass
  have hport : t.portStays := ht ▸ (calm_iff.mp hcalm).2.congr rfl rfl
  have hj := judgeHead_pinRelease hop hp hpin hheld hrq hu hh
  have hact : ∀ r, (s.headWaiting tag r d).actHead d (.pinRelease w) =
      { t with lpu := { (s.headWaiting tag r d).lpu with tags := t.lpu.tags } } := fun r => by
    rw [actHead_pinRelease (s := s.headWaiting tag r d) hh, tagsWithout_headWaiting hpass, hitem, ht]
    rfl
  have hleaves := exec_pinEnds (t := t) hpass hj rfl rfl (by rw [ht]) hact (by rw [ht]) (by rw [ht]) (by rw [ht])
    ((noRecall_of_calm hcalm).congr (by rw [ht]) fun hnone => by rw [ht]; exact hnone)
  rw [startPort_stays hport] at hleaves
  obtain ⟨hopen, v, hv, _, hwalked⟩ := hleaves
  exact ⟨hopen, v, hv, hwalked⟩

end

/-- Settles O21: a Pinned Read by the steps of R134, and a Pinned Write by the rows of R138. -/
theorem pinnedRequestOutcomes : Obligations.PinnedRequestOutcomes := by
  unfold Obligations.PinnedRequestOutcomes
  refine ⟨?answered, ?read, ?write, ?ended⟩
  case answered =>
    intro s tag code addr len data d hpass hp hop
    have hremote : d.path ≠ .direct := by simp [hp]
    exact ⟨fun hpin => exec_refusedAtHead hpass (judgeHead_pinHeld hop hremote hpin),
      fun hnone hfull => exec_refusedAtHead hpass (judgeHead_pinLimit hop hremote hnone hfull),
      fun w st x hnone hlen hfree hh hst => exec_pinnedHit hpass hp hop ⟨hnone, hlen⟩ hfree hh hst⟩
  case read =>
    intro s tag code addr len data r d hpass hacc hp hop hnone hlen
    have hroom : s.pinRoom d.line := ⟨hnone, hlen⟩
    have stays (h : s.headStays d) := exec_headStays hpass hacc h
    refine ⟨fun hrq => stays (.inl (judgeHead_pinnedRead_rq hop hp hroom hrq)), fun t e attaches hrq ht he hattaches => ?_,
      fun hrq ht hbusy => stays (.inl (judgeHead_pinnedRead_busy hop hp hroom hrq ht hbusy)),
      fun w x t hfree hh ht => exec_pinnedPromote hpass hp hop hroom hfree hh ht,
      fun w t hfree hh hv ht hrq => exec_pinnedMiss hpass hp hop hroom hfree hh hv ht hrq,
      fun w x hfree hh ht => stays (headStays_pinnedPromote hop hp hroom hfree hh ht),
      fun hfree hh => ⟨fun h => stays (headStays_pinnedMiss hop hp hroom hfree hh (h.imp_right .inl)), fun w k x hv hw hfull =>
        stays (headStays_pinnedMiss hop hp hroom hfree hh (.inr (.inr ⟨w, k, x, hv, hw, hfull⟩)))⟩⟩
    have hsuits : s.attaches e d.item.op = true ↔ attaches := by
      rw [hattaches, attaches_pinned_iff (.inl hop) (line_of_findEntry ht he)]
      simp [hop]
    have hj := judgeHead_pinnedRead_entry hop hp hroom hrq ht he
    refine ⟨fun h => ?_, fun h => stays (.inl ?_)⟩
    · rw [if_pos (hsuits.mpr h)] at hj
      exact exec_pinnedRead_attaches hpass hop he hj
    · rw [hj, if_neg fun hyes => h (hsuits.mp hyes)]
  case write =>
    intro s tag code addr len data r d p hpass hacc hp hop hpin
    have stays (h : s.judgeHead d = .waits) := exec_headStays hpass hacc (.inl h)
    refine ⟨fun hrq => stays (judgeHead_pinnedWrite_rq hop hp hpin hrq),
      fun hheld hu => stays (judgeHead_pinnedWrite_underAnswer hop hp hpin hheld hu),
      fun hheld ht => stays (judgeHead_pinnedWrite_alone hop hp hpin hheld ht), fun t e attaches hrq hheld ht he hattaches => ?_⟩
    have hsuits : s.attaches e d.item.op = true ↔ attaches := by
      rw [hattaches, attaches_pinned_iff (.inr hop) (line_of_findEntry ht he)]
      simp [hop]
    have hj := judgeHead_pinnedWrite_entry hop hp hpin hheld hrq ht he
    refine ⟨fun h => ?_, fun h => stays ?_⟩
    · rw [if_pos (hsuits.mpr h)] at hj
      exact exec_attaches hpass he hj rfl rfl fun y hy => actHead_attach_pinnedWrite hop hy
    · rw [hj, if_neg fun hyes => h (hsuits.mp hyes)]
  case ended =>
    intro s tag code addr len data d hpass hop
    refine ⟨fun hp hnone => exec_refusedAtHead hpass (judgeHead_pinLost hop hp hnone),
      fun p w st x released hp hpin hheld hrq hu hh hreleased => ?_⟩
    obtain ⟨hopen, hwalks⟩ := exec_pinReleased hpass hp hop hpin hheld hrq hu hh hreleased
    exact ⟨hopen, fun _ => hwalks⟩

end Sys2Proof.Machine
end

section
/-!
PROOF. O60: a Pinned Read and a Pinned Write on the home path, at the LRQ head (R103, R104, R129, R133, R136, R139), and the ends of a pin
recall (R63, R80, R115, R117, R118, R136).
-/

namespace Sys2Proof.Machine

section
variable {s t : State} {d : Decoded} {x : ExportEntry} {u : ReqTag} {p : PinEntry}

/-! ### The judgement of a Pinned Read (R136) -/

section pinnedRead
variable (hop : d.item.op = .pinnedRead) (hp : d.path = .home) (hroom : s.pinRoom d.line)

include hop hp hroom

theorem judgeHead_homePinnedRead_underAnswer (hu : s.underAnswer d.line = true) : s.judgeHead d = .waits := by
  obtain ⟨hpin, hplace⟩ := hroom.passes
  simp [judgeHead_homePinnedRead hp hop, State.judgeHomePinnedRead, hpin, hplace, hu]

/-- A line that awaits data or is recalled. -/
theorem judgeHead_homePinnedRead_recalled (hx : s.findExport d.line = some x) (h : x.awaiting.isSome = true ∨ x.state = .inFlight) :
    s.judgeHead d = .waits := by
  obtain ⟨hpin, hplace⟩ := hroom.passes
  rcases h with h | h <;> simp [judgeHead_homePinnedRead hp hop, State.judgeHomePinnedRead, hpin, hplace, hx, h]

variable (hu : s.underAnswer d.line = false)

include hu

/-- R136, step 4: a line with no Export Table entry. -/
theorem judgeHead_homePinnedRead_free (hx : s.findExport d.line = none) :
    s.judgeHead d = if s.hwqFree then .pinnedHomeRead else .waits := by
  obtain ⟨hpin, hplace⟩ := hroom.passes
  simp [judgeHead_homePinnedRead hp hop, State.judgeHomePinnedRead, hpin, hplace, hu, hx]

/-- Step 5. -/
theorem judgeHead_homePinnedRead_recalls (hx : s.findExport d.line = some x) (hflag : x.awaiting = none) (hstate : x.state ≠ .inFlight) :
    s.judgeHead d = .pinRecall := by
  obtain ⟨hpin, hplace⟩ := hroom.passes
  simp [judgeHead_homePinnedRead hp hop, State.judgeHomePinnedRead, hpin, hplace, hu, hx, hflag, hstate]

end pinnedRead

/-! ### The judgement of a Pinned Write (R139) -/

section pinnedWrite
variable (hop : d.item.op = .pinnedWrite) (hp : d.path = .home) (hpin : s.findPin d.line = some p)

include hop hp hpin

theorem judgeHead_homePinnedWrite_waits (h : s.underAnswer d.line = true ∨ p.held = false ∨ s.hwqFree = false) :
    s.judgeHead d = .waits := by
  rcases h with h | h | h <;> simp [judgeHead_homePinnedWrite hp hop, State.judgeHomePinnedWrite, hpin, h]

theorem judgeHead_pinReleaseHome (hu : s.underAnswer d.line = false) (hheld : p.held = true) (hfree : s.hwqFree = true) :
    s.judgeHead d = .pinReleaseHome := by
  simp [judgeHead_homePinnedWrite hp hop, State.judgeHomePinnedWrite, hpin, hu, hheld, hfree]

end pinnedWrite

/-! ### What the actions leave (R103, R133, R136, R139) -/

theorem actHead_pinnedHomeRead (hop : d.item.op = .pinnedRead) :
    s.actHead d .pinnedHomeRead =
      { s with
        cache.pins := s.cache.pins ++ [.pending d.line .home d.item.tag]
        home.hwq := s.home.hwq ++
          [{ addr := s.memAddr d.line d.item.offset, work := .localRead d.line d.item.tag d.item.offset d.item.len }] } := by
  simp only [State.actHead, pendPin_pinnedRead hop, State.addItemWork, Item.hwqWork, hop, LocalOp.isRead]
  rfl

theorem actHead_pinRecall (ht : s.freeTag = some u) :
    s.actHead d .pinRecall =
      { s with
        lpu.pinRecall := some u
        engine := (s.setEntry u (.fresh .recall d.line none [] .pin)).engine
        bus := (s.enqueue (.prt u)).bus
        home := (s.recallStarts d.line).home } := by
  simp only [State.actHead, makeAtFree_of_free ht, ht]
  rfl

theorem actHead_pinReleaseHome (hop : d.item.op = .pinnedWrite) :
    s.actHead d .pinReleaseHome =
      { s with
        cache.pins := s.cache.pins.filter fun q => q.line != d.line
        home.hwq := s.home.hwq ++
          [{ addr := s.memAddr d.line d.item.offset
             work := .localWrite d.line d.item.tag d.item.offset d.item.len d.item.data }] } := by
  simp only [State.actHead, State.addItemWork, Item.hwqWork, hop, LocalOp.isRead]
  rfl

/-- R136: a head whose pin recall is made stays. -/
theorem startHead_pinRecall (hj : s.judgeHead d = .pinRecall) (ht : s.freeTag = some u) :
    s.startHead d = (s.actHead d .pinRecall, false) := by
  simp [State.startHead, hj, ht, HeadAction.needsEntry, HeadAction.leaves]

/-- Work that joins the HWQ is no wanted line. -/
theorem State.NoRecall.of_hwq {hwq : List HwqEntry} (h : s.NoRecall) (hhome : t.home = { s.home with hwq := hwq })
    (hengine : t.engine = s.engine) : t.NoRecall := by
  have hnext : t.nextVictim = s.nextVictim := by simp only [State.nextVictim, State.findExport, State.exportSet, hhome]
  have htag : t.freeTag = s.freeTag := by simp only [State.freeTag, State.entry, hengine]
  exact h.imp hnext.trans htag.trans

end

/-! ### A pinned request that is judged in the event of its acceptance -/

section
variable {s t : State} {d : Decoded} {x : ExportEntry} {u : ReqTag} {p : PinEntry} {r : LocalReq} {tag : PTag} {code : BitVec 3}
  {addr : LocalAddr} {len : BitVec 6} {data : List Byte} (hpass : s.passesOn tag code addr len data d = true)

include hpass

theorem exec_pinnedHomeRead (hop : d.item.op = .pinnedRead) (hj : s.judgeHead d = .pinnedHomeRead) :
    exec (.localRequestAcceptance tag code addr len data) s = .next
      { s with
        lpu.tags := s.tagsWith tag
        cache.pins := s.cache.pins ++ [.pending d.line .home tag]
        home.hwq := s.home.hwq ++
          [{ addr := s.memAddr d.line d.item.offset, work := .localRead d.line tag d.item.offset d.item.len }]
        home.port := if s.home.port = .idle then .busy else s.home.port
        out := noOutput } := by
  obtain ⟨hcalm, _, hitem, _⟩ := passesOn_facts hpass
  let left : State :=
    { s with
      lpu.tags := s.tagsWith tag
      cache.pins := s.cache.pins ++ [.pending d.line .home tag]
      home.hwq := s.home.hwq ++
        [{ addr := s.memAddr d.line d.item.offset, work := .localRead d.line tag d.item.offset d.item.len }]
      out := noOutput }
  have hact : ∀ r, (s.headWaiting tag r d).actHead d .pinnedHomeRead =
      { left with lpu := { (s.headWaiting tag r d).lpu with tags := left.lpu.tags } } := fun r => by
    rw [actHead_pinnedHomeRead (s := s.headWaiting tag r d) hop, hitem]
    rfl
  rw [exec_pinnedRead_leaves hpass hop hj rfl nofun (t := left) rfl hact rfl ((noRecall_of_calm hcalm).of_hwq rfl rfl),
    startPort_of_more (x := left) (calm_iff.mp hcalm).2 rfl rfl]

/-- R136: the Pinned Read stays the head, with the tag of its recall noted. -/
theorem exec_pinRecall (hacc : s.accepts tag code addr len data r = true) (hop : d.item.op = .pinnedRead)
    (hj : s.judgeHead d = .pinRecall) (ht : s.freeTag = some u) :
    exec (.localRequestAcceptance tag code addr len data) s = .next
      { s with
        lpu := { s.lpu with lrq := [r], head := some d, pinRecall := some u, tags := s.tagsWith tag }
        engine := (s.setEntry u (.fresh .recall d.line none [] .pin)).engine
        bus := (s.enqueue (.prt u)).bus
        home := (s.recallStarts d.line).home
        out := noOutput } := by
  obtain ⟨r', hacc', hdec⟩ := passesOn_iff.mp hpass
  obtain ⟨hstill, _, hreq⟩ := accepts_iff.mp hacc
  obtain ⟨_, _, hreq'⟩ := accepts_iff.mp hacc'
  obtain rfl : r = r' := Option.some.inj (hreq.symm.trans hreq')
  obtain ⟨hcalm, _, hhead, _⟩ := still_iff.mp hstill
  let left : State :=
    { s with
      lpu := { s.lpu with lrq := [r], head := some d, pinRecall := some u, tags := s.tagsWith tag }
      engine := (s.setEntry u (.fresh .recall d.line none [] .pin)).engine
      bus := (s.enqueue (.prt u)).bus
      home := (s.recallStarts d.line).home
      out := noOutput }
  have hjudged : (s.begin.joinLrq r).headOnce = (left, false) := by
    rw [headOnce_joined hacc hdec, startHead_pinRecall (s := s.headWaiting tag r d) hj ht,
      actHead_pinRecall (s := s.headWaiting tag r d) ht]
    rfl
  have hport : left.portStays := (calm_iff.mp hcalm).2.congr rfl rfl
  have hmode : s.ctl.mode ≠ .quiescing := mode_of_pinnedRead_pass hpass hop
  rw [exec_accepted hacc, settle_judged (s := s.begin.joinLrq r) hcalm hjudged nofun s.begin .all
    (judgedAgain_undecoded _ hhead _ _), startPort_stays hport, walk_open (s := left) hmode]

/-- R139, R129: a Pinned Write of a line with a held pin. -/
theorem exec_pinReleasedHome (hop : d.item.op = .pinnedWrite) (hj : s.judgeHead d = .pinReleaseHome)
    (ht : t =
      { s with
        lpu.tags := s.tagsWith tag
        cache.pins := s.cache.pins.filter fun q => q.line != d.line
        home.hwq := s.home.hwq ++
          [{ addr := s.memAddr d.line d.item.offset, work := .localWrite d.line tag d.item.offset d.item.len d.item.data }]
        home.port := if s.home.port = .idle then .busy else s.home.port
        out := noOutput }) :
    (s.ctl.mode ≠ .quiescing → exec (.localRequestAcceptance tag code addr len data) s = .next t) ∧
      exec (.localRequestAcceptance tag code addr len data) s = exec .quiesceWalk t := by
  obtain ⟨hcalm, _, hitem, _⟩ := passesOn_facts hpass
  let left : State :=
    { s with
      lpu.tags := s.tagsWith tag
      cache.pins := s.cache.pins.filter fun q => q.line != d.line
      home.hwq := s.home.hwq ++
        [{ addr := s.memAddr d.line d.item.offset, work := .localWrite d.line tag d.item.offset d.item.len d.item.data }]
      out := noOutput }
  have hact : ∀ r, (s.headWaiting tag r d).actHead d .pinReleaseHome =
      { left with lpu := { (s.headWaiting tag r d).lpu with tags := left.lpu.tags } } := fun r => by
    rw [actHead_pinReleaseHome (s := s.headWaiting tag r d) hop, hitem]
    rfl
  have hstarted : left.startPort = t := (startPort_of_more (x := left) (calm_iff.mp hcalm).2 rfl rfl).trans ht.symm
  have hleaves := exec_pinEnds hpass hj rfl rfl (t := left) rfl hact rfl rfl rfl ((noRecall_of_calm hcalm).of_hwq rfl rfl)
  rw [hstarted] at hleaves
  obtain ⟨hopen, v, hv, hvout, hwalked⟩ := hleaves
  refine ⟨hopen, ?_⟩
  have hout : t.out = v.out := by rw [ht, hvout]
  rw [hwalked, hv, hout]

end

/-! ### The PRT with one place free, and with none (R59, R62) -/

section
variable {s : State} {u : ReqTag} {e : PrtEntry}

theorem freeTag_full (h : ∀ t, s.entry t ≠ none) : s.freeTag = none :=
  List.find?_eq_none.mpr fun t _ => by simp [h t]

/-- The entry that is freed is the one that is free. -/
theorem freeTag_freed (h : ∀ t, s.entry t ≠ none) : (s.freeEntry u).freeTag = some u := by
  have hentry : ∀ t, (s.freeEntry u).entry t = if t = u then none else s.entry t := fun t => by
    rw [State.entry, prt_freeEntry]
    split <;> rfl
  have hsome : (s.freeEntry u).freeTag.isSome = true :=
    List.find?_isSome.mpr ⟨u, mem_allTags u, by simp [hentry]⟩
  obtain ⟨t, ht⟩ := Option.isSome_iff_exists.mp hsome
  have hfree : ((s.freeEntry u).entry t).isNone = true := List.find?_some (p := fun t => ((s.freeEntry u).entry t).isNone) ht
  by_cases hu : t = u
  · rw [ht, hu]
  · rw [hentry, if_neg hu] at hfree
    exact absurd (Option.isNone_iff_eq_none.mp hfree) (h t)

/-- A Recall entry without a waiting list holds no HWQ place, so none comes free with it (R113). -/
theorem hwqFree_freeEntry (he : s.entry u = some e) (hwait : e.waiting = []) : (s.freeEntry u).hwqFree = s.hwqFree := by
  have hslots : (s.freeEntry u).engine.prt.toList.map PrtSlot.hwqHeld = s.engine.prt.toList.map PrtSlot.hwqHeld := by
    refine map_put_of_eq _ _ _ _ ?_
    simp [PrtSlot.hwqHeld, show (look s.engine.prt u).entry = some e from he, hwait]
  unfold State.hwqFree State.hwqHeld
  rw [hslots]
  rfl

end

/-! ### The turn (R63) -/

section
variable {s0 s z : State} {l : LineNo} {u : ReqTag} {d : Decoded} {r : LocalReq}

/-- A head that waits, with no recall that can be made, leaves the station as it is. -/
theorem allocate_waits (h : s.NoRecall) (hhead : s.headOnce = (s, false)) (a b j : Bool) (n : Nat) : s.allocate n a b j = s := by
  have hno : (s.nextVictim.isSome && s.freeTag.isSome) = false := by rcases h with h | h <;> simp [h]
  cases n with
  | zero => rfl
  | succ n => cases j <;> simp [State.allocate, hno, hhead]

/-- Where a head and a victim recall have both waited for an entry, the party whose turn it is takes the freed one, and the turn passes. -/
theorem allocate_turn (hnext : s.nextVictim = some l) (htag : s.freeTag = some u) (hneeds : s.headNeedsEntry = true)
    (hz : z = if s.engine.turn = .lrq then s.headOnce.1.setTurn .victim else s.victimOne.setTurn .lrq) (hvictim : z.NoRecall)
    (hhead : z.headOnce = (z, false)) (j : Bool) (n : Nat) : s.allocate (n + 1) true true j = z := by
  cases hturn : s.engine.turn with
  | lrq =>
    rw [hturn, if_pos rfl] at hz
    simp only [State.allocate, hnext, htag, hneeds, hturn, Option.isSome_some, Bool.and_self, if_true, ← hz]
    exact allocate_waits hvictim hhead _ _ _ n
  | victim =>
    rw [hturn, if_neg nofun] at hz
    simp only [State.allocate, hnext, htag, hneeds, hturn, Option.isSome_some, Bool.and_self, if_true, ← hz]
    exact allocate_waits hvictim hhead _ _ _ n

/-- The station once the party whose turn it is has made the recall of a wanted line at a free entry: the Pinned Read at the head its pin
recall, or the line's victim recall. -/
def State.recalledInTurn (s : State) (l : LineNo) (u : ReqTag) : State :=
  { s with
    lpu.pinRecall := if s.engine.turn = .lrq then some u else none
    engine :=
      { (s.setEntry u (.fresh .recall l none [] (if s.engine.turn = .lrq then .pin else .victim))).engine with
        turn := if s.engine.turn = .lrq then .victim else .lrq }
    bus := (s.enqueue (.prt u)).bus
    home := (s.recallStarts l).home }

theorem recalledInTurn_eq (hj : s.judgeHead d = .pinRecall) (hq : s.lpu.lrq = [r]) (hhead : s.lpu.head = some d)
    (hpin : s.lpu.pinRecall = none) (htag : s.freeTag = some u) (hnext : s.nextVictim = some d.line) :
    s.recalledInTurn d.line u =
      if s.engine.turn = .lrq then s.headOnce.1.setTurn .victim else s.victimOne.setTurn .lrq := by
  cases hturn : s.engine.turn with
  | lrq =>
    rw [if_pos rfl, headOnce_decoded hq hhead, startHead_pinRecall hj htag, actHead_pinRecall htag]
    simp only [State.recalledInTurn, hturn, if_true]
    rfl
  | victim =>
    have hlpu : ({ s.lpu with pinRecall := none } : LocalPort) = s.lpu := by rw [← hpin]
    rw [if_neg nofun, victimOne_made hnext htag]
    simp only [State.recalledInTurn, hturn, reduceCtorEq, if_false]
    rw [hlpu]
    rfl

end

/-! ### The ends of an entry, with a Pinned Read at the head (R80, R115, R118, R136) -/

section
variable {s : State} {l : LineNo} {t u : ReqTag} {d : Decoded} {r : LocalReq} {e : PrtEntry} {i : Item} {x : ExportEntry}

theorem findExport_removed : (s.removeExport l).findExport l = none := by
  have hset : (s.removeExport l).exportSet l = (s.exportSet l).filter fun y => y.line != l :=
    (exportSet_setExportSet s l l _).trans (if_pos rfl)
  unfold State.findExport
  rw [hset]
  simp

/-- R118: the recall state of a line whose pin recall has ended, and the Pinned Read answered. -/
theorem recallFails_pin {st : Status} (hkind : e.kind = .recall) (hpin : s.lpu.pinRecall = some t) (hhead : s.lpu.head = some d) :
    s.recallFails t e st =
      { s with
        lpu := { s.lpu with lrq := s.lpu.lrq.tail, head := none, pinRecall := none, tags := s.tagsWithout d.item.tag }
        home.exports := s.exportsAfterEnd e
        out.responses := s.out.responses ++ [{ tag := d.item.tag, status := st, payload := .none }] } := by
  simp only [State.recallFails, hkind, if_true, changeExport_lpu, hpin, hhead, State.exportsAfterEnd]
  rfl

/-- R136: a pin recall has no waiting list, and its record no tag. -/
theorem timeOut_pin (hkind : e.kind = .recall) (hwait : e.waiting = []) (horigin : e.origin = .pin) (hf : e.follower = none)
    (hpin : s.lpu.pinRecall = some t) (hhead : s.lpu.head = some d) (hlog : s.lpu.log.length < 8) :
    s.timeOut t e =
      { s.freeEntry t with
        lpu :=
          { s.lpu with
            lrq := s.lpu.lrq.tail, head := none, pinRecall := none, tags := s.tagsWithout d.item.tag
            log := s.lpu.log ++
              [{ kind := .dataTimeout, line := some e.line, segment := some (segmentOf e.line), peer := s.homeOf e.line }] }
        home.exports := s.exportsAfterEnd e
        out.responses := s.out.responses ++ [{ tag := d.item.tag, status := .dataTimeout, payload := .none }] } := by
  have hrecord : s.entryRecord e .dataTimeout =
      { kind := .dataTimeout, line := some e.line, segment := some (segmentOf e.line), peer := s.homeOf e.line } := by
    simp [State.entryRecord, horigin]
  have hled : e.pinLed = false := by simp [PrtEntry.pinLed, hwait]
  let logged : State :=
    { s with
      lpu.log := s.lpu.log ++
        [{ kind := .dataTimeout, line := some e.line, segment := some (segmentOf e.line), peer := s.homeOf e.line }] }
  have hlogged : s.addFault (s.entryRecord e .dataTimeout) = logged := by rw [addFault_room s _ hlog, hrecord]
  have hanswered : logged.answerAll e.waiting .dataTimeout = logged := by rw [hwait]; rfl
  have hdropped : logged.dropPendingPin e = logged := if_neg (by simp [hled])
  have hemptied : logged.emptyReserved e = logged := by simp only [State.emptyReserved, hkind]
  unfold State.timeOut State.endEntry
  dsimp only
  rw [hlogged, hanswered, hdropped, hemptied, recallFails_pin (s := logged) hkind hpin hhead, abandonOrFree_none hf]
  rfl

/-- What a direct request held is given back when it fails: its processor tag alone. -/
theorem failed_direct {st : Status} {rs : List FaultRecord} (hkind : e.kind = .directRead) (hwait : e.waiting = [i]) (hi : i.op = .read) :
    s.failed e st rs =
      { s with lpu := { s.lpu with tags := s.tagsWithout i.tag, log := s.lpu.log ++ rs }, out := oneResponse i.tag st .none } := by
  unfold State.failed State.afterFailing
  cases e.way <;> simp [hkind, hwait, hi, State.exportsAfterEnd, State.tagsWithoutAll, State.tagsWithout, allAnswered, oneResponse]

/-- R115: a pin recall that completes leaves the HWQ as it was, and its note goes with it. -/
theorem completeRecall_pin (hwait : e.waiting = []) (hpin : s.lpu.pinRecall = some t) :
    s.completeRecall t e = { (s.removeExport e.line).freeEntry t with lpu.pinRecall := none } := by
  simp only [State.completeRecall, hwait, List.foldl_nil, removeExport_lpu, hpin, if_true]
  rfl

end

/-! ### The parties of a freed entry, and a pin recall that completes (R63, R115, R136) -/

section
variable {s s0 : State} {t u : ReqTag} {d : Decoded} {r : LocalReq} {e : PrtEntry} {x : ExportEntry}
  (hop : d.item.op = .pinnedRead) (hp : d.path = .home) (hroom : s.pinRoom d.line)

include hop hp hroom

/-- R63, R117: a Pinned Read of a wanted line and the line's victim recall have both waited for the entry that is freed. Whichever recall is
made, the line is then recalled, and the head waits. -/
theorem settle_turn {j : Judged} (hconv : s.noConversion) (hplaces : s.bus.askers = [] ∨ s.sqFree = false) (hport : s.portStays)
    (hmode : s.ctl.mode ≠ .quiescing) (hq : s.lpu.lrq = [r]) (hhead : s.lpu.head = some d) (hpin : s.lpu.pinRecall = none)
    (hu : s.underAnswer d.line = false) (hx : s.findExport d.line = some x) (hflag : x.awaiting = none) (hstate : x.state = .wanted)
    (hwanted : s.home.wanted = [d.line]) (htag : s.freeTag = some u) (hfull : s0.freeTag = none) (hneeds : s0.headNeedsEntry = true)
    (hvictim : s0.nextVictim = some d.line) : s.settle s0 j = s.recalledInTurn d.line u := by
  let z : State := s.recalledInTurn d.line u
  have hj : s.judgeHead d = .pinRecall := judgeHead_homePinnedRead_recalls hop hp hroom hu hx hflag (by simp [hstate])
  have hnext : s.nextVictim = some d.line := nextVictim_single hwanted hx hflag
  have hneeds' : s.headNeedsEntry = true := by simp only [State.headNeedsEntry, hhead, hj, HeadAction.needsEntry]
  have hleft : z.home.wanted = [] := by
    show s.home.wanted.filter (· != d.line) = []
    simp [hwanted]
  have hrecall : z.NoRecall := .inl (nextVictim_nil hleft)
  have hrecalled : z.findExport d.line = some { x with state := .inFlight } :=
    (findExport_changeExport_self (s := s) (f := fun y => { y with state := .inFlight }) fun _ => rfl).trans (congrArg _ hx)
  have hwaits : z.headOnce = (z, false) := by
    rw [headOnce_decoded (s := z) hq hhead]
    exact startHead_stays (.inl (judgeHead_homePinnedRead_recalled (s := z) hop hp hroom hrecalled (.inr rfl)))
  have hallocated : State.allocateAfter s0 s j = z := by
    unfold State.allocateAfter
    rw [hq, hwanted, hfull, hneeds, hvictim]
    exact allocate_turn hnext htag hneeds' (recalledInTurn_eq hj hq hhead hpin htag hnext) hrecall hwaits _ 4
  rw [settle_allocates hconv hplaces hport, hallocated, startPort_stays (s := z) (hport.congr rfl rfl), walk_open (s := z) hmode]

/-- R136: the Pinned Read that is judged again once its recall has completed goes on as a local-read. -/
theorem settle_recall_completed (hcalm : s.calm = true) (hmode : s.ctl.mode ≠ .quiescing) (hq : s.lpu.lrq = [r])
    (hhead : s.lpu.head = some d) (hu : s.underAnswer d.line = false) (hx : s.findExport d.line = none) (hfree : s.hwqFree = true) :
    s.settle s0 .all =
      { s with
        lpu := { s.lpu with lrq := [], head := none, pinRecall := none }
        cache.pins := s.cache.pins ++ [.pending d.line .home d.item.tag]
        home.hwq := s.home.hwq ++
          [{ addr := s.memAddr d.line d.item.offset, work := .localRead d.line d.item.tag d.item.offset d.item.len }]
        home.port := if s.home.port = .idle then .busy else s.home.port } := by
  have hj : s.judgeHead d = .pinnedHomeRead := by rw [judgeHead_homePinnedRead_free hop hp hroom hu hx, if_pos hfree]
  let left : State :=
    { s with
      lpu := { s.lpu with lrq := [], head := none, pinRecall := none }
      cache.pins := s.cache.pins ++ [.pending d.line .home d.item.tag]
      home.hwq := s.home.hwq ++
        [{ addr := s.memAddr d.line d.item.offset, work := .localRead d.line d.item.tag d.item.offset d.item.len }] }
  have hstarted : s.headOnce = (left, true) := by
    have htail : s.lpu.lrq.tail = [] := by rw [hq]; rfl
    rw [headOnce_decoded hq hhead, startHead_leaves hj rfl nofun, actHead_pinnedHomeRead hop]
    exact congrArg (fun lrq => (({ left with lpu.lrq := lrq } : State), true)) htail
  have hrecall : left.NoRecall := (noRecall_of_calm hcalm).of_hwq rfl rfl
  rw [settle_judged hcalm hstarted (fun _ => ⟨rfl, hrecall⟩) s0 .all (judgedAgain_all s s0),
    walk_open (by rw [startPort_ctl]; exact hmode), startPort_of_more (x := left) (calm_iff.mp hcalm).2 rfl rfl]

end

/-- Settles O60: a Pinned Read by the steps of R136, a Pinned Write by the rows of R139, the turn of R63, and two ends of a pin recall. -/
theorem homePinnedRequestOutcomes : Obligations.HomePinnedRequestOutcomes := by
  unfold Obligations.HomePinnedRequestOutcomes
  refine ⟨?read, ?write, ?turn, ?ends⟩
  case read =>
    intro s tag code addr len data r d hpass hacc hp hop
    have hhome : d.path ≠ .direct := by simp [hp]
    have stays (h : s.headStays d) := exec_headStays hpass hacc h
    refine ⟨fun hpin => exec_refusedAtHead hpass (judgeHead_pinHeld hop hhome hpin),
      fun hnone hfull => exec_refusedAtHead hpass (judgeHead_pinLimit hop hhome hnone hfull), fun hnone hlen => ?_⟩
    have hroom : s.pinRoom d.line := ⟨hnone, hlen⟩
    refine ⟨?busy, fun hu hx => ⟨fun hfree => ?joins, fun hfull => ?_⟩,
      fun x hu hx hflag => ⟨fun t hstate ht => ?recalls, fun hstate ht => ?_⟩⟩
    case busy =>
      rintro (hu | ⟨x, hx, h⟩)
      · exact stays (.inl (judgeHead_homePinnedRead_underAnswer hop hp hroom hu))
      · exact stays (.inl (judgeHead_homePinnedRead_recalled hop hp hroom hx h))
    case joins =>
      exact exec_pinnedHomeRead hpass hop (by rw [judgeHead_homePinnedRead_free hop hp hroom hu hx, if_pos hfree])
    case recalls =>
      exact exec_pinRecall hpass hacc hop (judgeHead_homePinnedRead_recalls hop hp hroom hu hx hflag (by simp [hstate])) ht
    · exact stays (.inl (by simp [judgeHead_homePinnedRead_free hop hp hroom hu hx, hfull]))
    · exact stays (.inr ⟨by rw [judgeHead_homePinnedRead_recalls hop hp hroom hu hx hflag hstate]; rfl, ht⟩)
  case write =>
    intro s tag code addr len data r d p hpass hacc hp hop hpin
    refine ⟨fun h => exec_headStays hpass hacc (.inl (judgeHead_homePinnedWrite_waits hop hp hpin h)),
      fun released hu hheld hfree hreleased => ?_⟩
    obtain ⟨hopen, hwalks⟩ := exec_pinReleasedHome hpass hop (judgeHead_pinReleaseHome hop hp hpin hu hheld hfree) hreleased
    exact ⟨hopen, fun _ => hwalks⟩
  case turn =>
    intro s r d x u e i hcalm hq hhead hpin hp hop hnone hlen hu hx hflag hstate hwanted _ hfull he hkind hphase htimer hwait hi
      _ hf hunder hlog hmode
    obtain ⟨hsettled, hport⟩ := calm_iff.mp hcalm
    have hroom : s.pinRoom d.line := ⟨hnone, hlen⟩
    let freed : State :=
      { s.freeEntry u with
        lpu := { s.lpu with tags := s.tagsWithout i.tag, log := s.lpu.log ++ [s.endRecord e .dataTimeout] }
        out := oneResponse i.tag .dataTimeout .none }
    have hfreed : s.begin.expireData u = freed := by
      rw [expireData_taken (s := s.begin) he hphase htimer hunder, timeOut_eq (s := s.begin) hpin hlog rfl, abandonOrFree_none hf,
        failed_direct hkind hwait hi]
      rfl
    have hneeds : s.begin.headNeedsEntry = true := by
      have hj : s.begin.judgeHead d = .pinRecall :=
        judgeHead_homePinnedRead_recalls (s := s.begin) hop hp hroom hu hx hflag (by simp [hstate])
      simp only [State.headNeedsEntry, show s.begin.lpu.head = some d from hhead, hj, HeadAction.needsEntry]
    have hsettle : freed.settle s.begin .byChange = freed.recalledInTurn d.line u :=
      settle_turn (s := freed) hop hp hroom (hsettled.conv.congr rfl rfl) (hsettled.places.imp freeEntry_askers fun h => h)
        (hport.congr rfl rfl) hmode hq hhead hpin hu hx hflag hstate hwanted (freeTag_freed hfull) (freeTag_full (s := s.begin) hfull)
        hneeds (nextVictim_single (s := s.begin) hwanted hx hflag)
    show Host.Outcome.next ((s.begin.expireData u).settle s.begin .byChange) = _
    rw [hfreed, hsettle]
    rfl
  case ends =>
    intro s t e r d he hkind hline hwait hq hhead hpin hp hop hwanted hmode
    refine ⟨fun driven w n q hopen hown hmsg hr hheld hc hcalm hnone hlen hfree => ?completed,
      fun hcalm hphase htimer horigin hf hunder hlog => ?timedOut⟩
    case completed =>
      obtain ⟨hsettled, hport⟩ := calm_iff.mp hcalm
      let closed : State :=
        { s.freeEntry t with lpu.pinRecall := none, home.exports := (s.removeExport d.line).home.exports, out := noOutput }
      have hgood : (combine driven w.drives).cancels = false := by rcases hc with hc | hc <;> simp [hc, AnswerCode.cancels]
      have hresult : s.begin.applyOwn (.prt t) (combine driven w.drives) = closed := by
        have hkept : s.home.wanted.filter (· != d.line) = s.home.wanted := by rw [hwanted]; rfl
        rw [applyOwn_prt_result (s := s.begin) he hgood, ownResult_recalled hkind hc, completeRecall_pin (s := s.begin) hwait hpin, hline]
        exact congrArg (fun wanted => ({ closed with home.wanted := wanted } : State)) hkept
      have hnoneHeld : closed.NoneHeld := State.NoneHeld.freeEntry (s := s) (noneHeld_of hheld) t
      have hcalm' : closed.idle.calm = true :=
        calm_iff.mpr ⟨⟨hsettled.conv.congr rfl rfl, hsettled.places.imp freeEntry_askers fun h => h,
          .inl (nextVictim_nil hwanted), .inl hmode⟩, hport.congr rfl rfl⟩
      have hfree' : closed.idle.hwqFree = true := (hwqFree_freeEntry (s := s.idle) he hwait).trans hfree
      rw [exec_close_own hopen hown hmsg hr rfl hresult hnoneHeld,
        settle_recall_completed (s := closed.idle) hop hp ⟨hnone, hlen⟩ hcalm' hmode hq hhead (underAnswer_of_idle rfl _)
          (findExport_removed (s := s)) hfree']
      rfl
    case timedOut =>
      obtain ⟨hsettled, hport⟩ := calm_iff.mp hcalm
      let left : State :=
        { s.freeEntry t with
          lpu :=
            { s.lpu with
              lrq := s.lpu.lrq.tail, head := none, pinRecall := none, tags := s.tagsWithout d.item.tag
              log := s.lpu.log ++
                [{ kind := .dataTimeout, line := some e.line, segment := some (segmentOf e.line), peer := s.homeOf e.line }] }
          home.exports := s.exportsAfterEnd e
          out := oneResponse d.item.tag .dataTimeout .none }
      have hended : s.begin.expireData t = left := by
        rw [expireData_taken (s := s.begin) he hphase htimer hunder,
          timeOut_pin (s := s.begin) hkind hwait horigin hf hpin hhead hlog]
        rfl
      have htail : s.lpu.lrq.tail = [] := by rw [hq]; rfl
      have hquiet : left.Quiet :=
        ⟨hsettled.conv.congr rfl rfl, hsettled.places.imp freeEntry_askers fun h => h, hwanted, ⟨htail, rfl⟩⟩
      show Host.Outcome.next ((s.begin.expireData t).settle s.begin .byChange) = _
      rw [hended, settle_quiet_stays hquiet hmode (hport.congr rfl rfl)]
      exact congrArg (fun lrq => Host.Outcome.next ({ left with lpu.lrq := lrq } : State)) htail

end Sys2Proof.Machine
end

section
/-!
PROOF. O9. A Parked station leaves that state by a pool reset or power-on alone, and its last-winner number stands: what each operation
that a Parked station can still carry out leaves of the number, and the station state from the membership fields of O7.
-/

namespace Sys2Proof.Machine

/-! ### The last-winner number (R39): the named operations -/

section
variable (s : State)

@[simp] theorem settle_lastWinner (s0 : State) (j : Judged) : (s.settle s0 j).bus.lastWinner = s.bus.lastWinner :=
  congrArg (fun x => x.2.2.2.1) (settle_fixed s s0 j)

@[simp] theorem createOrSet_lastWinner (l : LineNo) (c : ExportClass) : (s.createOrSet l c).bus.lastWinner = s.bus.lastWinner := by
  unfold State.createOrSet; split <;> simp
@[simp] theorem setAwaiting_bus (l : LineNo) : (s.setAwaiting l).bus = s.bus := rfl
@[simp] theorem answerFlushes_bus (ts : List PTag) : (s.answerFlushes ts).bus = s.bus := by
  induction ts generalizing s with
  | nil => rfl
  | cons t ts ih => exact ih (s.answer t .ok .none)
@[simp] theorem removeRq_lastWinner (l : LineNo) : (s.removeRq l).bus.lastWinner = s.bus.lastWinner := by
  unfold State.removeRq; split <;> simp
@[simp] theorem popHwq_bus : s.popHwq.bus = s.bus := by rw [popHwq_eq]

/-! ### The Request Engine (R67 to R70, R80) -/

@[simp] theorem serveItem_bus (l : LineNo) (w : WayNo) (i : Item) : (State.serveItem l w s i).bus = s.bus := by
  unfold State.serveItem State.mergeWay State.serveRead
  split
  case h_4 =>
    split
    · split <;> simp
    · simp
  all_goals simp
@[simp] theorem serve_bus (l : LineNo) (w : WayNo) (is : List Item) : (s.serve l w is).bus = s.bus := by
  induction is generalizing s with
  | nil => rfl
  | cons i is ih => exact (ih (State.serveItem l w s i)).trans (serveItem_bus s l w i)
@[simp] theorem answerAll_bus (is : List Item) (st : Status) : (s.answerAll is st).bus = s.bus := by rw [answerAll_eq]

@[simp] theorem dropPendingPin_bus (e : PrtEntry) : (s.dropPendingPin e).bus = s.bus := by
  unfold State.dropPendingPin; split <;> simp
@[simp] theorem emptyReserved_bus (e : PrtEntry) : (s.emptyReserved e).bus = s.bus := by
  unfold State.emptyReserved; split <;> simp
@[simp] theorem recallFails_bus (t : ReqTag) (e : PrtEntry) (st : Status) : (s.recallFails t e st).bus = s.bus := by
  unfold State.recallFails; dsimp only; (repeat' split) <;> simp
@[simp] theorem abandonOrFree_lastWinner (t : ReqTag) (e : PrtEntry) : (s.abandonOrFree t e).bus.lastWinner = s.bus.lastWinner := by
  unfold State.abandonOrFree; split <;> simp
@[simp] theorem endEntry_lastWinner (t : ReqTag) (e : PrtEntry) (st : Status) :
    (s.endEntry t e st).bus.lastWinner = s.bus.lastWinner := by simp [State.endEntry]
@[simp] theorem exhaust_lastWinner (t : ReqTag) (e : PrtEntry) : (s.exhaust t e).bus.lastWinner = s.bus.lastWinner := by
  simp [State.exhaust]
@[simp] theorem timeOut_lastWinner (t : ReqTag) (e : PrtEntry) : (s.timeOut t e).bus.lastWinner = s.bus.lastWinner := by
  simp [State.timeOut]
@[simp] theorem cancelEntry_lastWinner (t : ReqTag) (e : PrtEntry) : (s.cancelEntry t e).bus.lastWinner = s.bus.lastWinner := by
  unfold State.cancelEntry; dsimp only; split <;> simp
@[simp] theorem awaitData_bus (t : ReqTag) (e : PrtEntry) (g : Grant) : (s.awaitData t e g).bus = s.bus := rfl
@[simp] theorem completePromote_lastWinner (t : ReqTag) (e : PrtEntry) (w : WayNo) :
    (s.completePromote t e w).bus.lastWinner = s.bus.lastWinner := by simp [State.completePromote]
@[simp] theorem addItemWorks_bus (l : LineNo) (is : List Item) : (is.foldl (fun s i => s.addItemWork l i) s).bus = s.bus := by
  rw [addItemWorks_eq]
@[simp] theorem completeRecall_lastWinner (t : ReqTag) (e : PrtEntry) : (s.completeRecall t e).bus.lastWinner = s.bus.lastWinner := by
  unfold State.completeRecall; dsimp only; split <;> simp
@[simp] theorem ownResult_lastWinner (t : ReqTag) (e : PrtEntry) (c : AnswerCode) :
    (s.ownResult t e c).bus.lastWinner = s.bus.lastWinner := by
  unfold State.ownResult State.promoteToClaim; (repeat' split) <;> simp

@[simp] theorem expireData_lastWinner (t : ReqTag) : (s.expireData t).bus.lastWinner = s.bus.lastWinner := by
  unfold State.expireData; (repeat' split) <;> simp
@[simp] theorem takeHeldExpiry_lastWinner (t : ReqTag) : (s.takeHeldExpiry t).bus.lastWinner = s.bus.lastWinner := by
  unfold State.takeHeldExpiry; (repeat' split) <;> simp
@[simp] theorem takeHeldExpiries_lastWinner : s.takeHeldExpiries.bus.lastWinner = s.bus.lastWinner := by
  simp [State.takeHeldExpiries, allTags]

/-! ### The closes of the windows (R45, R46, R53) -/

@[simp] theorem closeCache_lastWinner (rec : Recorded) (k : LineKind) (dest : StationNo) (t : ReqTag) (g : Gen) (l : LineNo) :
    (s.closeCache rec k dest t g l).bus.lastWinner = s.bus.lastWinner := by
  unfold State.closeCache; dsimp only; (repeat' split) <;> simp
@[simp] theorem closeTakeover_lastWinner (rec : Recorded) (k : LineKind) (dest : StationNo) (t : ReqTag) (g : Gen) (l : LineNo) :
    (s.closeTakeover rec k dest t g l).bus.lastWinner = s.bus.lastWinner := by
  unfold State.closeTakeover; (repeat' split) <;> simp
@[simp] theorem changeEntry_bus (t : ReqTag) (f : PrtEntry → PrtEntry) : (s.changeEntry t f).bus = s.bus := by
  unfold State.changeEntry; split <;> simp
@[simp] theorem convertPromote_bus (t : ReqTag) : (s.convertPromote t).bus = s.bus := by
  unfold State.convertPromote; dsimp only; (repeat' split) <;> simp
@[simp] theorem closeEngine_bus (rec : Recorded) (c : AnswerCode) (k : LineKind) (sender : StationNo) (t : ReqTag) (g : Gen) :
    (s.closeEngine rec c k sender t g).bus = s.bus := by
  unfold State.closeEngine; (repeat' split) <;> simp
@[simp] theorem returnSettles_bus (l : LineNo) : (s.returnSettles l).bus = s.bus := by
  unfold State.returnSettles; (repeat' split) <;> simp
@[simp] theorem homeChange_lastWinner (sender : StationNo) (r : Request) (c : AnswerCode) :
    (s.homeChange sender r c).bus.lastWinner = s.bus.lastWinner := by
  unfold State.homeChange; (repeat' split) <;> simp
@[simp] theorem applyPeer_lastWinner (sender : StationNo) (r : Request) (rec : Recorded) (c : AnswerCode) :
    (s.applyPeer sender r rec c).bus.lastWinner = s.bus.lastWinner := by
  unfold State.applyPeer; dsimp only; (repeat' split) <;> simp
@[simp] theorem applyOwn_lastWinner (i : SendItem) (c : AnswerCode) : (s.applyOwn i c).bus.lastWinner = s.bus.lastWinner := by
  unfold State.applyOwn; (repeat' split) <;> simp
@[simp] theorem closeWindow_lastWinner (w : Window) (c : AnswerCode) : (s.closeWindow w c).bus.lastWinner = s.bus.lastWinner := by
  unfold State.closeWindow; dsimp only; (repeat' split) <;> simp

@[simp] theorem changeSqHead_lastWinner (f : SqEntry → SqEntry) : (s.changeSqHead f).bus.lastWinner = s.bus.lastWinner := rfl
@[simp] theorem dropSqHead_lastWinner : s.dropSqHead.bus.lastWinner = s.bus.lastWinner := rfl
@[simp] theorem failedRecords_bus (e : SqEntry) : (s.failedRecords e).bus = s.bus := by
  unfold State.failedRecords; dsimp only; (repeat' split) <;> simp
@[simp] theorem endDelivery_lastWinner (e : SqEntry) : (s.endDelivery e).bus.lastWinner = s.bus.lastWinner := by
  unfold State.endDelivery; (repeat' split) <;> simp
@[simp] theorem senderAck_lastWinner (read : Option SqEntry) : (s.senderAck read).1.bus.lastWinner = s.bus.lastWinner := by
  unfold State.senderAck; (repeat' split) <;> simp

/-! ### The memory port and the timers (R104 to R106, R110, R140) -/

@[simp] theorem pinCompletes_bus (l : LineNo) (tag : PTag) : (s.pinCompletes l tag).bus = s.bus := by
  unfold State.pinCompletes; split <;> simp
@[simp] theorem pinFails_bus (l : LineNo) (tag : PTag) : (s.pinFails l tag).bus = s.bus := by
  unfold State.pinFails; split <;> simp
@[simp] theorem writeHome_bus (ps : List Host.Cell) : (s.writeHome ps).bus = s.bus := rfl
@[simp] theorem failWrite_bus (e : HwqEntry) : (s.failWrite e).bus = s.bus := rfl
@[simp] theorem holdResult_lastWinner (r : Option LineData) : (s.holdResult r).bus.lastWinner = s.bus.lastWinner := rfl
@[simp] theorem memorySuccess_lastWinner (e : HwqEntry) : (s.memorySuccess e).bus.lastWinner = s.bus.lastWinner := by
  unfold State.memorySuccess; split <;> simp
@[simp] theorem memoryError_lastWinner (e : HwqEntry) : (s.memoryError e).bus.lastWinner = s.bus.lastWinner := by
  unfold State.memoryError State.errorEffect; split <;> simp
@[simp] theorem completeMemory_lastWinner (ok : Bool) : (s.completeMemory ok).bus.lastWinner = s.bus.lastWinner := by
  unfold State.completeMemory; (repeat' split) <;> simp
@[simp] theorem expireAwaiting_bus (l : LineNo) : (s.expireAwaiting l).bus = s.bus := by
  unfold State.expireAwaiting; split <;> simp
@[simp] theorem expirePin_bus (l : LineNo) : (s.expirePin l).bus = s.bus := by
  unfold State.expirePin; (repeat' split) <;> simp

@[simp] theorem giveOne_lastWinner : s.giveOne.bus.lastWinner = s.bus.lastWinner := congrArg (fun x => x.2.2.2.1) (giveOne_fixed s)
@[simp] theorem convertOne_lastWinner : s.convertOne.bus.lastWinner = s.bus.lastWinner :=
  congrArg (fun x => x.2.2.2.1) (convertOne_fixed s)
@[simp] theorem victimOne_lastWinner : s.victimOne.bus.lastWinner = s.bus.lastWinner :=
  congrArg (fun x => x.2.2.2.1) (victimOne_fixed s)
@[simp] theorem runWalk_lastWinner : s.runWalk.bus.lastWinner = s.bus.lastWinner := congrArg (fun x => x.2.2.2.1) (runWalk_fixed s)
@[simp] theorem enterQuiesced_lastWinner : s.enterQuiesced.bus.lastWinner = s.bus.lastWinner :=
  congrArg (fun x => x.2.2.2.1) (enterQuiesced_fixed s)

end

/-! ### A Parked station (R145, R155) -/

/-- The station is Parked afterwards and has kept its last-winner number. -/
def State.StaysParked (s t : State) : Prop := t.ctl.mode = .parked ∧ t.bus.lastWinner = s.bus.lastWinner

section
variable {s t : State}

/-- What leaves the membership fields and the number alone leaves a Parked station Parked. -/
theorem State.StaysParked.of_frame (h : s.ctl.mode = .parked) (hmember : t.membership = s.membership)
    (hwinner : t.bus.lastWinner = s.bus.lastWinner) : s.StaysParked t :=
  ⟨(mode_of_membership hmember).trans h, hwinner⟩

/-- What follows in the same event leaves a Parked station Parked. -/
theorem State.StaysParked.settle (h : s.StaysParked t) (s0 : State) (j : Judged) : s.StaysParked (t.settle s0 j) :=
  ⟨(settle_mode t s0 j (by simp [h.1])).trans h.1, (settle_lastWinner t s0 j).trans h.2⟩

/-- What holds of a Parked station as a command begins holds of the station itself. -/
theorem staysParked_of_next {u : State} (hnext : (Host.Outcome.next u : Host.Outcome State Fault Refusal) = .next t)
    (hu : s.begin.StaysParked u) : s.StaysParked t := by
  cases hnext
  exact hu

section
variable (h : s.ctl.mode = .parked)
include h

theorem reply_staysParked (tag : PTag) (st : Status) (p : Payload) : s.StaysParked (s.reply tag st p) := ⟨h, rfl⟩

/-! ### The control window at a Parked station (R142, R162 to R164) -/

theorem doJoin_parked (tag : PTag) : s.doJoin tag = s.reply tag .wrongState .none := by simp [State.doJoin, h]

theorem doQuiesce_parked (tag : PTag) : s.doQuiesce tag = s.reply tag .wrongState .none := by simp [State.doQuiesce, h]

theorem doResume_parked (tag : PTag) : s.doResume tag = s.reply tag .wrongState .none := by simp [State.doResume, h]

theorem popLog_staysParked (tag : PTag) : s.StaysParked (s.popLog tag) := by
  unfold State.popLog
  split <;> exact ⟨h, rfl⟩

theorem writeCommand_staysParked (tag : PTag) (v : BitVec 64) : s.StaysParked (s.writeCommand tag v) := by
  unfold State.writeCommand
  rw [doJoin_parked h, doQuiesce_parked h, doResume_parked h]
  (repeat' split) <;> exact ⟨h, rfl⟩

theorem writeStart_staysParked (tag : PTag) (x : Register) (v : BitVec 64) : s.StaysParked (s.writeStart tag x v) := by
  unfold State.writeStart
  split <;> exact ⟨h, rfl⟩

theorem controlWrite_staysParked (tag : PTag) (o : BitVec 12) (v : BitVec 64) : s.StaysParked (s.controlWrite tag o v) := by
  unfold State.controlWrite
  split
  case h_1 | h_2 | h_4 | h_13 => exact reply_staysParked h _ _ _
  case h_3 => exact writeCommand_staysParked h tag v
  case h_5 => exact ⟨h, rfl⟩
  all_goals exact writeStart_staysParked h tag _ v

theorem controlRead_staysParked (tag : PTag) (o : BitVec 12) : s.StaysParked (s.controlRead tag o) := by
  unfold State.controlRead
  split
  case h_4 => exact popLog_staysParked h tag
  all_goals exact ⟨h, rfl⟩

theorem control_staysParked {effect : State → State} (tag : PTag) (heffect : s.StaysParked (effect s)) :
    s.StaysParked (s.control tag effect) := by
  unfold State.control
  split
  · exact reply_staysParked h _ _ _
  · exact heffect

/-! ### The local port at a Parked station (R156, R157) -/

theorem acceptPool_staysParked (r : LocalReq) : s.StaysParked (s.acceptPool r) := by
  have hrefused : s.acceptRefusal r.tag = some .wrongState := by simp [State.acceptRefusal, h]
  unfold State.acceptPool
  rw [hrefused]
  exact reply_staysParked h _ _ _

theorem acceptLocal_staysParked (tag : PTag) (code : BitVec 3) (addr : LocalAddr) (len : BitVec 6) (data : List Byte) :
    s.StaysParked (s.acceptLocal tag code addr len data) := by
  unfold State.acceptLocal
  split
  case h_1 offset _ =>
    refine control_staysParked h tag ?_
    (repeat' split)
    · exact reply_staysParked h _ _ _
    · exact controlRead_staysParked h tag offset
    · exact controlWrite_staysParked h tag offset _
    · exact reply_staysParked h _ _ _
  case h_2 => exact acceptPool_staysParked h _
  all_goals exact reply_staysParked h _ _ _

/-! ### The windows that a Parked station may still have open (R45, R46, R53) -/

theorem requeueOwn_parked (own : Option SendItem) : s.requeueOwn own = s := by
  unfold State.requeueOwn
  split <;> simp [h]

theorem closeAnnounce_parked (own : Option SendItem) (n : StationNo) (f : BitVec 4) (cs : List Claim) (c : AnswerCode) :
    s.closeAnnounce own n f cs c = s := by
  cases c with
  | clear => simp [State.closeAnnounce, State.takeAnnounce, h]
  | void | again => exact requeueOwn_parked h own
  | shared | supply | follow => rfl

theorem closeReady_parked (own : Option SendItem) (n : StationNo) (set : StationSet) (c : AnswerCode) :
    s.closeReady own n set c = s := by
  cases c with
  | clear => simp [State.closeReady, State.takeReady, h]
  | void | again => exact requeueOwn_parked h own
  | shared | supply | follow => rfl

theorem closeAny_staysParked (w : Window) (c : AnswerCode) : s.StaysParked (s.closeAny w c) := by
  unfold State.closeAny
  split
  · rw [closeAnnounce_parked h]
    exact ⟨h, rfl⟩
  · rw [closeReady_parked h]
    exact ⟨h, rfl⟩
  all_goals exact .of_frame h (closeWindow_membership s w c) (closeWindow_lastWinner s w c)

theorem closeAnswer_staysParked {kind : WindowKind} {driven : Table (BitVec 3) 4} (hnext : s.closeAnswer kind driven = .next t) :
    s.StaysParked t := by
  unfold State.closeAnswer at hnext
  split at hnext
  case h_1 => cases hnext; exact ⟨h, rfl⟩
  case h_2 w _ =>
    split at hnext
    · cases hnext; exact (closeAny_staysParked h w _).settle s .all
    · cases hnext
  all_goals cases hnext

theorem closeAck_staysParked (a : AckWindow) (dest home : BitVec 3) : s.StaysParked (s.closeAck a dest home) :=
  State.StaysParked.settle (.of_frame h (by simp) (by simp)) _ _

/-! ### The commands (R145) -/

/-- A command that ends in a follow-up of the event keeps a Parked station Parked as its own effect does. -/
theorem staysParked_of_settle {u s0 : State} {j : Judged}
    (hnext : (Host.Outcome.next (u.settle s0 j) : Host.Outcome State Fault Refusal) = .next t)
    (hmember : u.membership = s.begin.membership) (hwinner : u.bus.lastWinner = s.begin.bus.lastWinner) : s.StaysParked t := by
  cases hnext
  exact State.StaysParked.settle (.of_frame h hmember hwinner) _ _

theorem exec_staysParked {c : Instr} (hreset : c ≠ .poolReset ∧ c ≠ .powerOn ∧ c ≠ .stationReset) (hnext : exec c s = .next t) :
    s.StaysParked t := by
  have hbegin : s.begin.ctl.mode = .parked := h
  cases c with
  | poolReset | powerOn | stationReset => simp at hreset
  | localRequestAcceptance => exact staysParked_of_next hnext (acceptLocal_staysParked hbegin _ _ _ _ _)
  | join tag =>
    exact staysParked_of_next hnext (control_staysParked hbegin tag (doJoin_parked hbegin tag ▸ reply_staysParked hbegin _ _ _))
  | quiesce tag =>
    exact staysParked_of_next hnext (control_staysParked hbegin tag (doQuiesce_parked hbegin tag ▸ reply_staysParked hbegin _ _ _))
  | resume tag =>
    exact staysParked_of_next hnext (control_staysParked hbegin tag (doResume_parked hbegin tag ▸ reply_staysParked hbegin _ _ _))
  | faultLogPop tag => exact staysParked_of_next hnext (control_staysParked hbegin tag (popLog_staysParked hbegin tag))
  | clearLog tag | stationStatusRead tag | eventEnableWrite tag =>
    exact staysParked_of_next hnext (control_staysParked hbegin tag ⟨h, rfl⟩)
  | registerWrite tag o v => exact staysParked_of_next hnext (control_staysParked hbegin tag (controlWrite_staysParked hbegin tag o v))
  | contention peers own =>
    have hidle : exec (.contention peers own) s = .next s.begin := if_pos h
    exact staysParked_of_next (hidle.symm.trans hnext) ⟨h, rfl⟩
  | requestArrival => exact staysParked_of_next ((exec_requestArrival_parked h).symm.trans hnext) ⟨h, rfl⟩
  | dataMessageArrival => exact staysParked_of_next ((exec_dataArrival_parked h).symm.trans hnext) ⟨h, rfl⟩
  | answerWindowClose | announceClose | readyClose => exact closeAnswer_staysParked (s := s.begin) hbegin hnext
  | acknowledgementWindowClose dest home =>
    have hclose : execAcknowledgementWindowClose dest home s = .next t := hnext
    unfold execAcknowledgementWindowClose at hclose
    split at hclose
    · exact staysParked_of_next hclose ⟨h, rfl⟩
    · exact staysParked_of_next hclose (closeAck_staysParked hbegin _ _ _)
    all_goals cases hclose
  | enrolmentTimerExpiry => exact staysParked_of_next hnext ⟨by simp [State.expireEnrolment, h], by simp [State.expireEnrolment, h]⟩
  | quiescedEntry =>
    have hstays : s.begin.enterQuiesced = s.begin := enterQuiesced_calm _ (by simp [h])
    exact staysParked_of_next hnext (hstays.symm ▸ ⟨h, rfl⟩)
  | memoryCompletion ok => exact staysParked_of_settle h hnext (completeMemory_membership _ ok) (completeMemory_lastWinner _ ok)
  | dataTimerExpiry tag => exact staysParked_of_settle h hnext (expireData_membership _ tag) (expireData_lastWinner _ tag)
  | awaitingDataTimerExpiry l =>
    exact staysParked_of_settle h hnext (expireAwaiting_membership _ l) (congrArg (·.lastWinner) (expireAwaiting_bus _ l))
  | pinTimerExpiry l => exact staysParked_of_settle h hnext (expirePin_membership _ l) (congrArg (·.lastWinner) (expirePin_bus _ l))
  | headJudgedAgain => exact staysParked_of_settle h hnext rfl rfl
  | sqPlaceGiven => exact staysParked_of_settle h hnext (giveOne_membership _) (giveOne_lastWinner _)
  | conversionToReturn => exact staysParked_of_settle h hnext (convertOne_membership _) (convertOne_lastWinner _)
  | victimRecall => exact staysParked_of_settle h hnext (victimOne_membership _) (victimOne_lastWinner _)
  | quiesceWalk => exact staysParked_of_settle h hnext (runWalk_membership _) (runWalk_lastWinner _)

end

end

/-- Settles O9: a station reset leaves the station Parked, and every other command that is no pool reset and no power-on keeps it so. -/
theorem parkedUntilPoolReset : Obligations.ParkedUntilPoolReset := by
  unfold Obligations.ParkedUntilPoolReset
  intro c s t hparked hpool hpower hnext
  by_cases hstation : c = .stationReset
  · subst hstation
    cases hnext
    exact ⟨rfl, fun hne => absurd rfl hne⟩
  · obtain ⟨hmode, hwinner⟩ := exec_staysParked hparked ⟨hpool, hpower, hstation⟩ hnext
    exact ⟨hmode, fun _ => hwinner⟩

end Sys2Proof.Machine
end

section
/-!
PROOF. O8. The three resets: every block at its reset value, the home memory kept but for a write in progress (R107, R155, R161).
-/

namespace Sys2Proof.Machine

/-! ### The bytes of a write (R41, R103): each address once -/

theorem storesFrom_addresses (a : Nat) (bs : List Byte) : ((storesFrom a bs).map Prod.fst).Nodup := by
  have haddr : (storesFrom a bs).map Prod.fst = (List.range bs.length).map (a + ·) := by simp [storesFrom, Function.comp_def]
  rw [haddr]
  exact List.nodup_range.map (add_right_injective a)

theorem map_fst_zip_sublist {α β : Type} : ∀ (xs : List α) (ys : List β), ((xs.zip ys).map Prod.fst).Sublist xs
  | [], _ => .refl _
  | _ :: _, [] => List.nil_sublist _
  | _ :: xs, _ :: ys => (map_fst_zip_sublist xs ys).cons_cons _

theorem maskedStores_addresses (a : Nat) (mask : BitVec 64) (bs : List Byte) : ((maskedStores a mask bs).map Prod.fst).Nodup := by
  have hoffsets : ((((List.range 64).filter fun i => mask.getLsbD i).zip bs).map Prod.fst).Nodup :=
    (List.nodup_range.filter _).sublist (map_fst_zip_sublist _ _)
  have haddr : (maskedStores a mask bs).map Prod.fst =
      ((((List.range 64).filter fun i => mask.getLsbD i).zip bs).map Prod.fst).map (a + ·) := by
    simp [maskedStores, Function.comp_def]
  rw [haddr]
  exact hoffsets.map (add_right_injective a)

/-- No HWQ entry writes an address twice. -/
theorem stores_addresses (e : HwqEntry) : (e.stores.map Prod.fst).Nodup := by
  unfold HwqEntry.stores
  split
  case h_6 => exact maskedStores_addresses _ _ _
  case h_3 | h_4 | h_5 | h_8 => exact storesFrom_addresses _ _
  all_goals exact List.nodup_nil

/-- Bytes written to distinct addresses are all read back. -/
theorem Memory.read_writeAll_mem {p : Host.Cell} : ∀ (ps : List Host.Cell) {m : List Host.Cell}, Memory.wf m = true →
    (ps.map Prod.fst).Nodup → p ∈ ps → Memory.read (Memory.writeAll m ps) p.1 = p.2
  | q :: ps, m, hm, hnodup, hp => by
    obtain ⟨hq, hrest⟩ := List.nodup_cons.mp hnodup
    rcases List.mem_cons.mp hp with rfl | hmem
    · have hlater : ∀ r ∈ ps, p.1 ≠ r.1 := fun r hr heq => hq (List.mem_map.mpr ⟨r, hr, heq.symm⟩)
      exact (Memory.read_writeAll_ne ps _ hlater).trans (Memory.read_write_self p.2 m p.1 0 hm)
    · exact Memory.read_writeAll_mem ps (Memory.write_wf hm q.1 q.2) hrest hmem

/-! ### A write in progress at a reset (R107, R161) -/

section
variable {s : State} {e : HwqEntry}

/-- The bytes of a write in progress that land where memory is fitted. -/
def HwqEntry.landed (e : HwqEntry) (n fitted : Nat) : List Host.Cell := (e.landing n).filter fun p => decide (p.1 < fitted)

/-- A whole-line or masked write lands as a whole, or not at all (R107). -/
theorem landing_whole (n : Nat) (h : ∀ l tag off k bs, e.work ≠ .localWrite l tag off k bs) :
    e.landing n = if Config.resetWriteLands n then e.stores else [] := by
  unfold HwqEntry.landing
  split
  case h_1 hwork => exact absurd hwork (h _ _ _ _ _)
  all_goals rfl

/-- The bytes of a local-write land each for itself (R161). -/
theorem landing_local {l : LineNo} {tag : PTag} {off : Offset} {k : Nat} {bs : List Byte} (n : Nat)
    (h : e.work = .localWrite l tag off k bs) : e.landing n = e.stores.filter fun p => Config.resetByteLands n p.1 := by
  simp [HwqEntry.landing, h]

theorem landing_sublist (e : HwqEntry) (n : Nat) : (e.landing n).Sublist e.stores := by
  by_cases hlocal : ∃ l tag off k bs, e.work = .localWrite l tag off k bs
  · obtain ⟨_, _, _, _, _, hwork⟩ := hlocal
    rw [landing_local n hwork]
    exact List.filter_sublist
  · rw [landing_whole n fun l tag off k bs hwork => hlocal ⟨l, tag, off, k, bs, hwork⟩]
    split
    · exact .refl _
    · exact List.nil_sublist _

theorem mem_landed {p : Host.Cell} {n fitted : Nat} : p ∈ e.landed n fitted ↔ p ∈ e.landing n ∧ p.1 < fitted := by
  simp [HwqEntry.landed]

theorem memAfterReset_busy (hport : s.home.port = .busy) (he : e ∈ s.home.hwq.head?) :
    s.memAfterReset = Memory.writeAll s.home.mem (e.landed s.fresh s.home.fitted) := by
  obtain ⟨rest, hhwq⟩ : ∃ rest, s.home.hwq = e :: rest := List.head?_eq_some_iff.mp he
  simp [State.memAfterReset, hport, hhwq, HwqEntry.landed]

/-- Where no memory operation is in progress the memory is kept. -/
theorem memAfterReset_kept (h : s.home.port ≠ .busy ∨ s.home.hwq.head? = none) : s.memAfterReset = s.home.mem := by
  unfold State.memAfterReset
  split
  case h_1 hport hhwq => simp [hport, hhwq] at h
  all_goals rfl

/-- A byte that the write in progress does not name is kept. -/
theorem read_memAfterReset_other {a : Nat} (h : s.home.port = .busy → ∀ e ∈ s.home.hwq.head?, ∀ p ∈ e.stores, p.1 ≠ a) :
    Memory.read s.memAfterReset a = Memory.read s.home.mem a := by
  by_cases hport : s.home.port = .busy
  · cases hhead : s.home.hwq.head? with
    | none => rw [memAfterReset_kept (.inr hhead)]
    | some e =>
      rw [memAfterReset_busy hport hhead]
      exact Memory.read_writeAll_ne _ _ fun p hp => (h hport e hhead p ((landing_sublist e _).subset (mem_landed.mp hp).1)).symm
  · rw [memAfterReset_kept (.inl hport)]

section
variable (hport : s.home.port = .busy) (he : e ∈ s.home.hwq.head?)
include hport he

theorem read_memAfterReset_landed (hm : s.memoryCanonical = true) {p : Host.Cell} (hp : p ∈ e.landed s.fresh s.home.fitted) :
    Memory.read s.memAfterReset p.1 = p.2 := by
  have hsub : (e.landed s.fresh s.home.fitted).Sublist e.stores := List.filter_sublist.trans (landing_sublist e _)
  rw [memAfterReset_busy hport he]
  exact Memory.read_writeAll_mem _ hm ((stores_addresses e).sublist (hsub.map _)) hp

/-- Each byte of the write is old, or new where memory is fitted. -/
theorem read_memAfterReset_stores (hm : s.memoryCanonical = true) {p : Host.Cell} (hp : p ∈ e.stores) :
    Memory.read s.memAfterReset p.1 = Memory.read s.home.mem p.1 ∨
      (p.1 < s.home.fitted ∧ Memory.read s.memAfterReset p.1 = p.2) := by
  by_cases hlanded : p ∈ e.landed s.fresh s.home.fitted
  · exact .inr ⟨(mem_landed.mp hlanded).2, read_memAfterReset_landed hport he hm hlanded⟩
  · refine .inl ?_
    have hne : ∀ q ∈ e.landed s.fresh s.home.fitted, p.1 ≠ q.1 := fun q hq heq => by
      have hqs : q ∈ e.stores := (landing_sublist e _).subset (mem_landed.mp hq).1
      exact hlanded (List.inj_on_of_nodup_map (stores_addresses e) hp hqs heq ▸ hq)
    rw [memAfterReset_busy hport he]
    exact Memory.read_writeAll_ne _ _ hne

/-- The bytes of a whole-line or masked write are all old or all new. -/
theorem read_memAfterReset_whole (hm : s.memoryCanonical = true) (hwhole : ∀ l tag off k bs, e.work ≠ .localWrite l tag off k bs) :
    (∀ p ∈ e.stores, Memory.read s.memAfterReset p.1 = Memory.read s.home.mem p.1) ∨
      ∀ p ∈ e.stores, p.1 < s.home.fitted → Memory.read s.memAfterReset p.1 = p.2 := by
  have hlanding := landing_whole s.fresh hwhole
  by_cases hlands : Config.resetWriteLands s.fresh = true
  · rw [if_pos hlands] at hlanding
    exact .inr fun p hp hfitted => read_memAfterReset_landed hport he hm (mem_landed.mpr ⟨hlanding ▸ hp, hfitted⟩)
  · rw [if_neg hlands] at hlanding
    exact .inl fun p _ => by simp [memAfterReset_busy hport he, HwqEntry.landed, hlanding]

end

end

/-- Settles O8: the three resets lead to one state but for the station state, with the memory after the reset. -/
theorem resetResults : Obligations.ResetResults := by
  unfold Obligations.ResetResults
  intro s
  exact ⟨s.memAfterReset, if s.home.port = .busy then s.fresh + 1 else s.fresh, s.resetTo .dormant, rfl, rfl, rfl, rfl,
    fun _ h => read_memAfterReset_other h, fun e he hport hm =>
      ⟨fun _ hp => read_memAfterReset_stores hport he hm hp, read_memAfterReset_whole hport he hm⟩⟩

end Sys2Proof.Machine
end

section
/-!
PROOF. O23. Join (R143), from each roll state that a Dormant station can have recorded, and the Start Record checks.
-/

namespace Sys2Proof.Machine

/-! ### The Start Record checks (R143) -/

/-- The condition of two claim slots that may stand in one Start Record. -/
def ClaimSlot.apart (x y : ClaimSlot) : Prop := ¬(x.valid = true ∧ y.valid = true ∧ x.segment = y.segment)

theorem slotsCollide_iff : ∀ xs : List ClaimSlot, slotsCollide xs = true ↔ ¬ xs.Pairwise ClaimSlot.apart
  | [] => by simp [slotsCollide]
  | x :: xs => by
    simp only [slotsCollide, Bool.or_eq_true, Bool.and_eq_true, List.any_eq_true, beq_iff_eq, slotsCollide_iff xs,
      List.pairwise_cons, ClaimSlot.apart]
    constructor
    · rintro (⟨hx, y, hy, hvalid, hseg⟩ | hrest)
      · exact fun h => h.1 y hy ⟨hx, hvalid, hseg.symm⟩
      · exact fun h => hrest h.2
    · intro h
      by_cases hrest : xs.Pairwise ClaimSlot.apart
      · have hclash : ¬∀ y ∈ xs, ¬(x.valid = true ∧ y.valid = true ∧ x.segment = y.segment) := fun hall => h ⟨hall, hrest⟩
        push Not at hclash
        obtain ⟨y, hy, hx, hvalid, hseg⟩ := hclash
        exact .inl ⟨hx, y, hy, hvalid, hseg.symm⟩
      · exact .inr hrest

/-- Two valid slots name one segment. -/
theorem slotsCollide_slots (slots : Table ClaimSlot 4) : slotsCollide slots.toList = true ↔
    ∃ i j : BitVec 4, i.toNat < j.toNat ∧ (look slots i).valid = true ∧ (look slots j).valid = true ∧
      (look slots i).segment = (look slots j).segment := by
  rw [slotsCollide_iff, List.pairwise_iff_getElem]
  simp only [ClaimSlot.apart]
  push Not
  constructor
  · rintro ⟨i, j, hi, hj, hij, hclash⟩
    have hi' : i < 2 ^ 4 := by simpa using hi
    have hj' : j < 2 ^ 4 := by simpa using hj
    exact ⟨BitVec.ofNatLT i hi', BitVec.ofNatLT j hj', by simpa using hij, by simpa [look] using hclash⟩
  · rintro ⟨i, j, hij, hclash⟩
    exact ⟨i.toNat, j.toNat, by simpa using i.isLt, by simpa using j.isLt, hij, by simpa [look] using hclash⟩

/-- A valid slot has a kind that no message can carry. -/
theorem slots_kind (slots : Table ClaimSlot 4) : (slots.toList.any fun x => x.valid && 2 ≤ x.kind.toNat) = true ↔
    ∃ i : BitVec 4, (look slots i).valid = true ∧ 2 ≤ (look slots i).kind.toNat := by
  simp only [List.any_eq_true, mem_toList_iff_look, Bool.and_eq_true, decide_eq_true_eq]
  constructor
  · rintro ⟨_, ⟨i, rfl⟩, h⟩
    exact ⟨i, h⟩
  · rintro ⟨i, h⟩
    exact ⟨_, ⟨i, rfl⟩, h⟩

theorem startRecord_bad_iff (r : StartRecord) : r.bad = true ↔
    (r.expected.toNat < 1 ∨ 16 < r.expected.toNat ∨
     r.dataTimeout.toNat < 8 ∨ 2040 < r.dataTimeout.toNat ∨ r.dataTimeout.toNat % 8 ≠ 0 ∨
     r.pinLimit.toNat < 1 ∨ r.enrolLimit.toNat < 1 ∨ r.base.toNat % 2 ^ 34 ≠ 0 ∨
     (∃ i j : BitVec 4, i.toNat < j.toNat ∧ (look r.slots i).valid = true ∧ (look r.slots j).valid = true ∧
       (look r.slots i).segment = (look r.slots j).segment) ∨
     ∃ i : BitVec 4, (look r.slots i).valid = true ∧ 2 ≤ (look r.slots i).kind.toNat) := by
  have hzero : ∀ x : BitVec 8, (x == 0) = true ↔ x.toNat < 1 := fun x => by
    rw [beq_iff_eq, ← BitVec.toNat_inj, Nat.lt_one_iff]
    rfl
  have hbase : (r.base.extractLsb' 0 34 != 0) = true ↔ r.base.toNat % 2 ^ 34 ≠ 0 := by
    rw [bne_iff_ne, ne_eq, ← BitVec.toNat_inj, BitVec.extractLsb'_toNat]
    rfl
  simp only [StartRecord.bad, Bool.or_eq_true, slotsCollide_slots, slots_kind, hzero, hbase, decide_eq_true_eq, bne_iff_ne, or_assoc]

/-! ### The outcomes of Join (R143) -/

section
variable {s : State} {tag : PTag}

theorem exec_join (h : s.tagInUse tag = false) : exec (.join tag) s = .next (s.begin.doJoin tag) := by
  show Host.Outcome.next (s.begin.control tag fun s => s.doJoin tag) = _
  rw [control_free (s := s.begin) h]

theorem doJoin_wrongState (h : s.ctl.mode ≠ .dormant) : s.doJoin tag = s.reply tag .wrongState .none := if_pos h

theorem doJoin_badStart (hmode : s.ctl.mode = .dormant) (hbad : s.ctl.start.bad = true) :
    s.doJoin tag = s.reply tag .badStart .none := by simp [State.doJoin, hmode, hbad]

theorem doJoin_taken (hmode : s.ctl.mode = .dormant) (hbad : s.ctl.start.bad = false) :
    s.doJoin tag = s.joinRoll.reply tag .ok .none := by simp [State.doJoin, hmode, hbad]

theorem joinRoll_late (h : s.ctl.roll.closed = true ∨ s.ctl.roll.gap = true) : s.joinRoll = s.isolate (lateJoin none) := by
  simp [State.joinRoll, h]

section
variable (hclosed : s.ctl.roll.closed = false) (hgap : s.ctl.roll.gap = false)
include hclosed hgap

theorem joinRoll_contested
    (h : (look s.ctl.roll.announced s.number).isSome = true ∨ s.ctl.roll.contested.has s.number = true) :
    s.joinRoll = s.isolate (numberContested s.number) := by
  simp [State.joinRoll, hclosed, hgap, validSet_has, h]

theorem joinRoll_enrols (hnew : look s.ctl.roll.announced s.number = none) (hfree : s.ctl.roll.contested.has s.number = false) :
    s.joinRoll =
      { s with
        ctl.mode := .enrolling
        ctl.roll.timer := some s.ctl.start.enrolLimit
        ctl.roll.limitPassed := false
        lpu.stateChange := true
        bus.sendList := s.bus.sendList.filter (· != .announce) ++ [.announce] } := by
  have hopen : ¬(s.ctl.roll.closed || s.ctl.roll.gap) = true := by simp [hclosed, hgap]
  have hnumber : ¬(s.ctl.roll.validSet.has s.number || s.ctl.roll.contested.has s.number) = true := by
    simp [validSet_has, hnew, hfree]
  exact (if_neg hopen).trans (if_neg hnumber)

end

end

/-- Settles O23: by the station state, the Start Record and the roll recorded while Dormant, in the order of R143. -/
theorem joinOutcomes : Obligations.JoinOutcomes := by
  unfold Obligations.JoinOutcomes
  refine ⟨fun s tag htag => ⟨fun hmode => ?wrongState, fun hmode hbad => ?badStart,
    fun hmode hgood hclosed hgap hnew hfree => ?enrols, fun hmode hgood hlog hlate => ?late,
    fun hmode hgood hlog hclosed hgap htaken => ?contested⟩, startRecord_bad_iff⟩
  case wrongState =>
    rw [exec_join htag, doJoin_wrongState (s := s.begin) hmode]
    rfl
  case badStart =>
    rw [exec_join htag, doJoin_badStart (s := s.begin) hmode hbad]
    rfl
  case enrols =>
    rw [exec_join htag, doJoin_taken (s := s.begin) hmode hgood, joinRoll_enrols (s := s.begin) hclosed hgap hnew hfree]
    rfl
  case late =>
    rw [exec_join htag, doJoin_taken (s := s.begin) hmode hgood, joinRoll_late (s := s.begin) hlate, isolate_room (s := s.begin) hlog]
    rfl
  case contested =>
    rw [exec_join htag, doJoin_taken (s := s.begin) hmode hgood, joinRoll_contested (s := s.begin) hclosed hgap htaken,
      isolate_room (s := s.begin) hlog]
    rfl

end Sys2Proof.Machine
end

section
/-!
PROOF. O28. The control window (R6, R142, R162 to R164, R170): which register an offset names, the bits that a register reads as, and what a
control request at that offset does.
-/

namespace Sys2Proof.Machine

/-! ### The fields of a register (R170) -/

section
variable {w : Nat} (x : BitVec w) {p q n i : Nat}

theorem getLsbD_field : (field x p).getLsbD i = (decide (i < 64) && decide (p ≤ i) && x.getLsbD (i - p)) := by
  simp only [field, BitVec.getLsbD_shiftLeft, BitVec.getLsbD_setWidth]
  by_cases hi : i < 64
  · have hkeep : i - p < 64 := by omega
    simp only [hi, hkeep, decide_true, Bool.true_and, ← decide_not, Nat.not_lt]
  · simp [hi]

theorem extract_field (h : p + w ≤ 64) : (field x p).extractLsb' p w = x := by
  apply BitVec.eq_of_getLsbD_eq
  intro i hi
  have hin : p + i < 64 := by omega
  rw [BitVec.getLsbD_extractLsb', getLsbD_field]
  simp [hi, hin]

/-- A field says nothing about the bits below and above it. -/
theorem extract_field_apart (h : q + n ≤ p ∨ p + w ≤ q) : (field x p).extractLsb' q n = 0 := by
  apply BitVec.eq_of_getLsbD_eq
  intro i hi
  rw [BitVec.getLsbD_extractLsb', getLsbD_field]
  rcases h with hbelow | habove
  · have hlow : ¬ p ≤ q + i := by omega
    simp [hlow]
  · have hhigh : w ≤ q + i - p := by omega
    simp [BitVec.getLsbD_of_ge x _ hhigh]

end

theorem extract_bit (v : BitVec 64) (p : Nat) : v.extractLsb' p 1 = BitVec.ofBool (v.getLsbD p) := by
  apply BitVec.eq_of_getLsbD_eq
  intro i hi
  obtain rfl : i = 0 := by omega
  simp

/-- Two register values that agree in fields which cover the register are one value. -/
theorem eq_of_fields {v w : BitVec 64} (fields : List (Nat × Nat)) (hcover : ∀ i < 64, ∃ f ∈ fields, f.1 ≤ i ∧ i < f.1 + f.2)
    (h : ∀ f ∈ fields, v.extractLsb' f.1 f.2 = w.extractLsb' f.1 f.2) : v = w := by
  apply BitVec.eq_of_getLsbD_eq
  intro i hi
  obtain ⟨f, hf, hlow, hhigh⟩ := hcover i hi
  have hbit := congrArg (fun x => x.getLsbD (i - f.1)) (h f hf)
  have hin : i - f.1 < f.2 := by omega
  simpa [BitVec.getLsbD_extractLsb', hin, Nat.add_sub_cancel' hlow] using hbit

/-- R170: the fields of a mapped entry in the Segment Table view. -/
theorem segEntry_word_mapped (h : StationNo) (a : Access) (k : SegKind) (i : BitVec 4) :
    (SegEntry.mapped h a k i).word.extractLsb' 0 2 = 1 ∧ (SegEntry.mapped h a k i).word.extractLsb' 2 2 = 0 ∧
      (SegEntry.mapped h a k i).word.extractLsb' 4 4 = h ∧ (SegEntry.mapped h a k i).word.extractLsb' 8 2 = a.code ∧
      (SegEntry.mapped h a k i).word.extractLsb' 10 2 = 0 ∧
      (SegEntry.mapped h a k i).word.extractLsb' 12 1 = BitVec.ofBool k.bit ∧
      (SegEntry.mapped h a k i).word.extractLsb' 13 3 = 0 ∧ (SegEntry.mapped h a k i).word.extractLsb' 16 4 = i ∧
      (SegEntry.mapped h a k i).word.extractLsb' 20 44 = 0 := by
  refine ⟨?_, ?_, ?_, ?_, ?_, ?_, ?_, ?_, ?_⟩ <;>
    simp (disch := omega) [SegEntry.word, BitVec.extractLsb'_or, extract_field, extract_field_apart]

/-- R170: the fields of a claim slot register. -/
theorem claimSlot_word (c : ClaimSlot) :
    c.word.extractLsb' 0 8 = c.segment ∧ c.word.extractLsb' 8 2 = c.access ∧ c.word.extractLsb' 10 2 = c.kind ∧
      c.word.extractLsb' 12 3 = 0 ∧ c.word.extractLsb' 15 1 = BitVec.ofBool c.valid ∧ c.word.extractLsb' 16 48 = 0 := by
  refine ⟨?_, ?_, ?_, ?_, ?_, ?_⟩ <;>
    simp (disch := omega) [ClaimSlot.word, BitVec.extractLsb'_or, extract_field, extract_field_apart]

/-- R163: the bits of Event Enable. -/
theorem eventEnable_word (s : State) :
    s.eventEnable.extractLsb' 0 1 = BitVec.ofBool s.lpu.faultEnable ∧ s.eventEnable.extractLsb' 1 1 = BitVec.ofBool s.lpu.stateEnable ∧
      s.eventEnable.extractLsb' 2 62 = 0 := by
  refine ⟨?_, ?_, ?_⟩ <;> simp (disch := omega) [State.eventEnable, BitVec.extractLsb'_or, extract_field, extract_field_apart]

/-! ### Which register an offset names (R170) -/

/-- Where a register begins. -/
def Register.offset : Register → Nat
  | .stationStatus => 0x000
  | .command => 0x008
  | .faultLogPop => 0x010
  | .eventEnable => 0x018
  | .stationNumber => 0x040
  | .expectedCount => 0x048
  | .dataTimeout => 0x050
  | .pinLimit => 0x058
  | .enrolmentLimit => 0x060
  | .poolWindowBase => 0x068
  | .claimSlot n => 0x080 + 8 * n.toNat
  | .segmentView n => 0x800 + 8 * n.toNat

theorem registerAt_offset (x : Register) : registerAt (BitVec.ofNat 12 x.offset) = some x := by
  have hslot : ∀ n : BitVec 4, registerAt (BitVec.ofNat 12 (0x080 + 8 * n.toNat)) = some (.claimSlot n) := by decide
  have hview : ∀ n : BitVec 8, registerAt (BitVec.ofNat 12 (0x800 + 8 * n.toNat)) = some (.segmentView n) := by decide +kernel
  cases x with
  | claimSlot n => exact hslot n
  | segmentView n => exact hview n
  | _ => rfl

/-- An offset names exactly the register that begins there. -/
theorem registerAt_iff {o : BitVec 12} {x : Register} : registerAt o = some x ↔ o.toNat = x.offset := by
  constructor
  · intro h
    unfold registerAt at h
    iterate 10
      rcases ite_eq_iff.mp h with ⟨rfl, hx⟩ | ⟨_, h⟩
      · cases hx
        rfl
    have hmultiple : o.extractLsb' 0 3 = 0 → o.toNat % 8 = 0 := fun hzero => by
      have hnat := congrArg BitVec.toNat hzero
      rwa [BitVec.extractLsb'_toNat] at hnat
    rcases ite_eq_iff.mp h with ⟨⟨hzero, hlow, hhigh⟩, hx⟩ | ⟨_, h⟩
    · cases hx
      have hstep := hmultiple hzero
      rw [Register.offset, BitVec.extractLsb'_toNat]
      omega
    rcases ite_eq_iff.mp h with ⟨⟨hzero, hlow⟩, hx⟩ | ⟨_, hx⟩
    · cases hx
      have hstep := hmultiple hzero
      rw [Register.offset, BitVec.extractLsb'_toNat]
      omega
    · cases hx
  · intro h
    rw [← registerAt_offset x, ← h, BitVec.ofNat_toNat, BitVec.setWidth_eq]

/-- An offset that is no multiple of 8, or that lies in one of the three gaps, names no register. -/
theorem registerAt_none {o : BitVec 12} (h : o.toNat % 8 ≠ 0 ∨ (0x018 < o.toNat ∧ o.toNat < 0x040) ∨
    (0x068 < o.toNat ∧ o.toNat < 0x080) ∨ (0x0F8 < o.toNat ∧ o.toNat < 0x800)) : registerAt o = none := by
  cases hx : registerAt o with
  | none => rfl
  | some x =>
    have ho := registerAt_iff.mp hx
    cases x <;> simp only [Register.offset] at ho <;> omega

/-- In the upper half an offset names an entry of the Segment Table view, or nothing. -/
theorem registerAt_upper {o : BitVec 12} {x : Register} (h : 0x800 ≤ o.toNat) (hx : registerAt o = some x) :
    ∃ n, x = .segmentView n := by
  have ho := registerAt_iff.mp hx
  cases x with
  | segmentView n => exact ⟨n, rfl⟩
  | _ => simp only [Register.offset] at ho; omega

theorem registerAt_slotOffset {o : BitVec 12} (hlow : 0x080 ≤ o.toNat) (hhigh : o.toNat ≤ 0x0F8) (hstep : o.toNat % 8 = 0) :
    registerAt o = some (.claimSlot (BitVec.ofNat 4 ((o.toNat - 0x080) / 8))) := by
  rw [registerAt_iff, Register.offset, BitVec.toNat_ofNat]
  omega

/-! ### Register writes (R142, R163, R164) -/

section
variable {s : State} {tag : PTag} {o : BitVec 12} {v : BitVec 64}

theorem exec_registerWrite (h : s.tagInUse tag = false) : exec (.registerWrite tag o v) s = .next (s.begin.controlWrite tag o v) := by
  show Host.Outcome.next (s.begin.control tag fun s => s.controlWrite tag o v) = _
  rw [control_free (s := s.begin) h]

/-- The registers that are fields of the Start Record (R142). -/
def Register.inStart : Register → Bool
  | .stationNumber | .expectedCount | .dataTimeout | .pinLimit | .enrolmentLimit | .poolWindowBase | .claimSlot _ => true
  | .stationStatus | .command | .faultLogPop | .eventEnable | .segmentView _ => false

/-- The registers that can only be read (R162). -/
def Register.readOnly : Register → Bool
  | .stationStatus | .faultLogPop | .segmentView _ => true
  | .command | .eventEnable | .stationNumber | .expectedCount | .dataTimeout | .pinLimit | .enrolmentLimit | .poolWindowBase
  | .claimSlot _ => false

theorem controlWrite_inStart {x : Register} (hx : registerAt o = some x) (hstart : x.inStart = true) :
    s.controlWrite tag o v = s.writeStart tag x v := by
  unfold State.controlWrite
  rw [hx]
  cases x with
  | stationStatus | command | faultLogPop | eventEnable | segmentView => cases hstart
  | _ => rfl

theorem controlWrite_readOnly {x : Register} (hx : registerAt o = some x) (hread : x.readOnly = true) :
    s.controlWrite tag o v = s.reply tag .access .none := by
  unfold State.controlWrite
  rw [hx]
  cases x with
  | stationStatus | faultLogPop | segmentView => rfl
  | _ => cases hread

theorem controlWrite_none (h : registerAt o = none) : s.controlWrite tag o v = s.reply tag .access .none := by
  simp [State.controlWrite, h]

section
variable (htag : s.tagInUse tag = false)
include htag

theorem exec_write_dormant {x : Register} (hmode : s.ctl.mode = .dormant) (hx : registerAt o = some x) (hstart : x.inStart = true) :
    exec (.registerWrite tag o v) s =
      .next { s with ctl.start := s.ctl.start.write x v, out := oneResponse tag .ok .none } := by
  rw [exec_registerWrite htag, controlWrite_inStart hx hstart]
  exact congrArg Host.Outcome.next (if_pos hmode)

theorem exec_write_wrongState {x : Register} (hmode : s.ctl.mode ≠ .dormant) (hx : registerAt o = some x)
    (hstart : x.inStart = true) : exec (.registerWrite tag o v) s = .next { s with out := oneResponse tag .wrongState .none } := by
  rw [exec_registerWrite htag, controlWrite_inStart hx hstart]
  exact congrArg Host.Outcome.next (if_neg hmode)

theorem exec_write_access (h : ∀ x, registerAt o = some x → x.readOnly = true) :
    exec (.registerWrite tag o v) s = .next { s with out := oneResponse tag .access .none } := by
  rw [exec_registerWrite htag]
  cases hx : registerAt o with
  | none => rw [controlWrite_none hx]; rfl
  | some x => rw [controlWrite_readOnly hx (h x hx)]; rfl

end

/-- A write to Command is the command that bits 7 to 0 name (R164). -/
theorem exec_write_command (htag : s.tagInUse tag = false) :
    exec (.registerWrite tag 0x008 v) s = .next (s.begin.writeCommand tag v) := exec_registerWrite htag

end

/-! ### Control requests at the local port (R156, R162, R163) -/

section
variable {s : State} {tag : PTag} {o : BitVec 12} {code : BitVec 3} {len : BitVec 6} {data : List Byte}

theorem classify_control (base : BitVec 40) (hcode : code.toNat < 5) :
    classify base code (0xFFFFFFF000#40 + o.setWidth 40) = .control o := by
  have ho : o.toNat < 2 ^ 12 := o.isLt
  have haddr : (0xFFFFFFF000#40 + o.setWidth 40).toNat = Config.controlBase + o.toNat := by
    simp only [BitVec.toNat_add, BitVec.toNat_setWidth, BitVec.toNat_ofNat, Config.controlBase]
    omega
  have hoffset : (0xFFFFFFF000#40 + o.setWidth 40).extractLsb' 0 12 = o := by
    apply BitVec.eq_of_toNat_eq
    rw [BitVec.extractLsb'_toNat, haddr, Config.controlBase]
    omega
  rw [classify, if_neg (by omega), if_pos (by omega), hoffset]

theorem exec_controlRequest (hcode : code.toNat < 5) :
    exec (.localRequestAcceptance tag code (0xFFFFFFF000#40 + o.setWidth 40) len data) s =
      .next (s.begin.controlRequest tag code o len data) := by
  show Host.Outcome.next (s.begin.acceptLocal tag code _ len data) = _
  simp only [State.acceptLocal, classify_control _ hcode]

/-- A code that names no operation is refused before the address is looked at. -/
theorem exec_noOperation {addr : LocalAddr} (hcode : ¬ code.toNat < 5) :
    exec (.localRequestAcceptance tag code addr len data) s = .next { s with out := oneResponse tag .access .none } := by
  have hclass : classify s.ctl.start.base code addr = .noOperation := if_pos (not_lt.mp hcode)
  show Host.Outcome.next (s.begin.acceptLocal tag code addr len data) = _
  simp only [State.acceptLocal, begin_ctl, hclass]
  rfl

section
variable (htag : s.tagInUse tag = false)
include htag

theorem controlRequest_read : s.controlRequest tag 0 o 7 data = s.controlRead tag o := by
  rw [State.controlRequest, control_free htag]
  rfl

theorem controlRequest_write : s.controlRequest tag 1 o 7 data = s.controlWrite tag o (wordOfBytes (data.take 8)) := by
  rw [State.controlRequest, control_free htag]
  rfl

theorem controlRequest_access (h : len ≠ 7 ∨ (code ≠ 0 ∧ code ≠ 1)) :
    s.controlRequest tag code o len data = s.reply tag .access .none := by
  rw [State.controlRequest, control_free htag]
  show (if len ≠ 7 then _ else if code = 0 then _ else if code = 1 then _ else _) = _
  by_cases hlen : len ≠ 7
  · exact if_pos hlen
  · obtain ⟨h0, h1⟩ := h.resolve_left hlen
    rw [if_neg hlen, if_neg h0, if_neg h1]

theorem exec_controlRead :
    exec (.localRequestAcceptance tag 0 (0xFFFFFFF000#40 + o.setWidth 40) 7 data) s = .next (s.begin.controlRead tag o) := by
  rw [exec_controlRequest (by decide), controlRequest_read (s := s.begin) htag]

theorem exec_control_access (h : len ≠ 7 ∨ code = 2 ∨ code = 3 ∨ code = 4) :
    exec (.localRequestAcceptance tag code (0xFFFFFFF000#40 + o.setWidth 40) len data) s =
      .next { s with out := oneResponse tag .access .none } := by
  by_cases hcode : code.toNat < 5
  · have hno : len ≠ 7 ∨ (code ≠ 0 ∧ code ≠ 1) := h.imp_right fun hc => by rcases hc with rfl | rfl | rfl <;> decide
    rw [exec_controlRequest hcode, controlRequest_access (s := s.begin) htag hno]
    rfl
  · exact exec_noOperation hcode

end

/-! ### Register reads (R6, R162, R170) -/

/-- What a register reads as where the read has no effect of its own; none for the others. -/
def State.plainWord (s : State) : Register → Option (BitVec 64)
  | .eventEnable => some s.eventEnable
  | .stationNumber => some (s.ctl.start.station.setWidth 64)
  | .expectedCount => some (s.ctl.start.expected.setWidth 64)
  | .dataTimeout => some (s.ctl.start.dataTimeout.setWidth 64)
  | .pinLimit => some (s.ctl.start.pinLimit.setWidth 64)
  | .enrolmentLimit => some (s.ctl.start.enrolLimit.setWidth 64)
  | .poolWindowBase => some (s.ctl.start.base.setWidth 64)
  | .claimSlot n => some (look s.ctl.start.slots n).word
  | .segmentView n => some (look s.segments n).word
  | .stationStatus | .command | .faultLogPop => none

theorem controlRead_plain {x : Register} {v : BitVec 64} (hx : registerAt o = some x) (hv : s.plainWord x = some v) :
    s.controlRead tag o = s.reply tag .ok (.word v) := by
  have hfield : ∀ {w : Nat} (y : BitVec w), field y 0 = y.setWidth 64 := fun y => BitVec.shiftLeft_zero _
  unfold State.controlRead
  rw [hx]
  cases x with
  | stationStatus | command | faultLogPop => cases hv
  | _ =>
    obtain rfl := Option.some.inj hv
    simp only [hfield]

theorem exec_read_plain {x : Register} {v : BitVec 64} (htag : s.tagInUse tag = false) (hx : registerAt o = some x)
    (hv : s.plainWord x = some v) :
    exec (.localRequestAcceptance tag 0 (0xFFFFFFF000#40 + o.setWidth 40) 7 data) s =
      .next { s with out := oneResponse tag .ok (.word v) } := by
  rw [exec_controlRead htag, controlRead_plain (s := s.begin) hx hv]
  rfl

theorem exec_read_access (htag : s.tagInUse tag = false) (h : o = 0x008 ∨ registerAt o = none) :
    exec (.localRequestAcceptance tag 0 (0xFFFFFFF000#40 + o.setWidth 40) 7 data) s =
      .next { s with out := oneResponse tag .access .none } := by
  rw [exec_controlRead htag]
  rcases h with rfl | hnone
  · rfl
  · rw [State.controlRead, hnone]
    rfl

theorem plainWord_eventEnable {v : BitVec 64} (h0 : v.getLsbD 0 = s.lpu.faultEnable) (h1 : v.getLsbD 1 = s.lpu.stateEnable)
    (hrest : v.extractLsb' 2 62 = 0) : s.plainWord .eventEnable = some v := by
  obtain ⟨hfault, hstate, hzero⟩ := eventEnable_word s
  have hbit0 := (extract_bit v 0).trans (congrArg BitVec.ofBool h0)
  have hbit1 := (extract_bit v 1).trans (congrArg BitVec.ofBool h1)
  refine congrArg some (eq_of_fields [(0, 1), (1, 1), (2, 62)] (by decide) ?_)
  simp [hfault, hstate, hzero, hbit0, hbit1, hrest]

theorem claimSlot_word_eq {c : ClaimSlot} {v : BitVec 64} (hseg : v.extractLsb' 0 8 = c.segment) (haccess : v.extractLsb' 8 2 = c.access)
    (hkind : v.extractLsb' 10 2 = c.kind) (hzero : v.extractLsb' 12 3 = 0) (hvalid : v.getLsbD 15 = c.valid)
    (hrest : v.extractLsb' 16 48 = 0) : c.word = v := by
  obtain ⟨hseg', haccess', hkind', hzero', hvalid', hrest'⟩ := claimSlot_word c
  have hbit := (extract_bit v 15).trans (congrArg BitVec.ofBool hvalid)
  refine eq_of_fields [(0, 8), (8, 2), (10, 2), (12, 3), (15, 1), (16, 48)] (by decide) ?_
  simp [hseg, haccess, hkind, hzero, hrest, hseg', haccess', hkind', hzero', hvalid', hrest', hbit]

/-- The address of an entry of the Segment Table view. -/
theorem segmentView_address (n : SegNo) :
    0xFFFFFFF800#40 + 8 * n.setWidth 40 = 0xFFFFFFF000#40 + (BitVec.ofNat 12 (Register.segmentView n).offset).setWidth 40 := by
  revert n
  decide +kernel

/-! ### The bytes of a Write (log 12) -/

/-- One more byte below the bits taken so far. -/
theorem shiftIn_byte (v : BitVec 64) {p n : Nat} (h : p + 8 + n ≤ 64) :
    ((v.extractLsb' (p + 8) n).setWidth 64 <<< 8) ||| (v.extractLsb' p 8).setWidth 64 = (v.extractLsb' p (n + 8)).setWidth 64 := by
  apply BitVec.eq_of_getLsbD_eq
  intro i hi
  simp only [BitVec.getLsbD_or, BitVec.getLsbD_shiftLeft, BitVec.getLsbD_setWidth, BitVec.getLsbD_extractLsb', hi, decide_true,
    Bool.true_and]
  by_cases hlow : i < 8
  · have hin : i < n + 8 := by omega
    simp [hlow, hin]
  · have hplace : p + 8 + (i - 8) = p + i := by omega
    have hin : i - 8 < n ↔ i < n + 8 := by omega
    have hwidth : i - 8 < 64 := by omega
    simp [hlow, hplace, hin, hwidth]

/-- Eight bytes, the first the most significant, spell the value. -/
theorem wordOfBytes_eq (v : BitVec 64) :
    wordOfBytes [v.extractLsb' 56 8, v.extractLsb' 48 8, v.extractLsb' 40 8, v.extractLsb' 32 8,
      v.extractLsb' 24 8, v.extractLsb' 16 8, v.extractLsb' 8 8, v.extractLsb' 0 8] = v := by
  have hstart : (0 : BitVec 64) = (v.extractLsb' 64 0).setWidth 64 := by
    apply BitVec.eq_of_getLsbD_eq
    intro i hi
    simp
  simp only [wordOfBytes, List.foldl_cons, List.foldl_nil]
  rw [hstart, shiftIn_byte v (p := 56), shiftIn_byte v (p := 48), shiftIn_byte v (p := 40), shiftIn_byte v (p := 32),
    shiftIn_byte v (p := 24), shiftIn_byte v (p := 16), shiftIn_byte v (p := 8), shiftIn_byte v (p := 0)]
  · apply BitVec.eq_of_getLsbD_eq
    intro i hi
    simp [hi]
  all_goals omega

end

/-! ### The rows whose effect a register access has -/

section
variable {s : State} {tag : PTag} (htag : s.tagInUse tag = false)
include htag

theorem exec_statusRead : exec (.stationStatusRead tag) s = .next (s.begin.readStatus tag) :=
  congrArg Host.Outcome.next (control_free (s := s.begin) htag)

theorem exec_faultLogPop : exec (.faultLogPop tag) s = .next (s.begin.popLog tag) :=
  congrArg Host.Outcome.next (control_free (s := s.begin) htag)

theorem exec_quiesce : exec (.quiesce tag) s = .next (s.begin.doQuiesce tag) :=
  congrArg Host.Outcome.next (control_free (s := s.begin) htag)

theorem exec_resume : exec (.resume tag) s = .next (s.begin.doResume tag) :=
  congrArg Host.Outcome.next (control_free (s := s.begin) htag)

theorem exec_clearLog : exec (.clearLog tag) s = .next (s.begin.clearLog tag) :=
  congrArg Host.Outcome.next (control_free (s := s.begin) htag)

theorem exec_eventEnableWrite (v : BitVec 64) : exec (.eventEnableWrite tag v) s = .next (s.begin.writeEnables tag v) :=
  congrArg Host.Outcome.next (control_free (s := s.begin) htag)

end

/-- R164: bits 7 to 0 of a value written to Command name the command. -/
theorem writeCommand_cases (s : State) (tag : PTag) (v : BitVec 64) :
    (v.extractLsb' 0 8 = 1 → s.writeCommand tag v = s.doJoin tag) ∧
      (v.extractLsb' 0 8 = 2 → s.writeCommand tag v = s.doQuiesce tag) ∧
      (v.extractLsb' 0 8 = 3 → s.writeCommand tag v = s.doResume tag) ∧
      (v.extractLsb' 0 8 = 4 → s.writeCommand tag v = s.clearLog tag) ∧
      (v.extractLsb' 0 8 = 0 ∨ 4 < (v.extractLsb' 0 8).toNat → s.writeCommand tag v = s.reply tag .access .none) := by
  unfold State.writeCommand
  generalize v.extractLsb' 0 8 = c
  refine ⟨?_, ?_, ?_, ?_, fun h => ?_⟩
  · rintro rfl; rfl
  · rintro rfl; rfl
  · rintro rfl; rfl
  · rintro rfl; rfl
  · have hno : ∀ k : BitVec 8, k ≠ 0 → k.toNat ≤ 4 → c ≠ k := fun k hk hle hc => by
      subst hc
      rcases h with h | h
      · exact hk h
      · omega
    rw [if_neg (hno 1 (by decide) (by decide)), if_neg (hno 2 (by decide) (by decide)), if_neg (hno 3 (by decide) (by decide)),
      if_neg (hno 4 (by decide) (by decide))]

/-- The offsets whose write is answered ACCESS: each names a register that can only be read, or none. -/
theorem readOnly_of_refused {o : BitVec 12} {x : Register}
    (h : o = 0x000#12 ∨ o = 0x010#12 ∨ 0x800 ≤ o.toNat ∨ o.toNat % 8 ≠ 0 ∨ (0x018 < o.toNat ∧ o.toNat < 0x040) ∨
      (0x068 < o.toNat ∧ o.toNat < 0x080) ∨ (0x0F8 < o.toNat ∧ o.toNat < 0x800)) (hx : registerAt o = some x) :
    x.readOnly = true := by
  rcases h with rfl | rfl | hupper | hgap
  · obtain rfl := Option.some.inj ((registerAt_offset .stationStatus).symm.trans hx)
    rfl
  · obtain rfl := Option.some.inj ((registerAt_offset .faultLogPop).symm.trans hx)
    rfl
  · obtain ⟨n, rfl⟩ := registerAt_upper hupper hx
    rfl
  · rw [registerAt_none hgap] at hx
    cases hx

/-- The offsets and values that O28 lists as plain reads: the register there reads as that value. -/
theorem plainWord_of_listed {s : State} {o : BitVec 12} {v : BitVec 64} {c : ClaimSlot}
    (hc : c = look s.ctl.start.slots (BitVec.ofNat 4 ((o.toNat - 0x080) / 8)))
    (h : (o = 0x018 ∧ v.getLsbD 0 = s.lpu.faultEnable ∧ v.getLsbD 1 = s.lpu.stateEnable ∧ v.extractLsb' 2 62 = 0) ∨
      (o = 0x040 ∧ v = s.ctl.start.station.setWidth 64) ∨ (o = 0x048 ∧ v = s.ctl.start.expected.setWidth 64) ∨
      (o = 0x050 ∧ v = s.ctl.start.dataTimeout.setWidth 64) ∨ (o = 0x058 ∧ v = s.ctl.start.pinLimit.setWidth 64) ∨
      (o = 0x060 ∧ v = s.ctl.start.enrolLimit.setWidth 64) ∨ (o = 0x068 ∧ v = s.ctl.start.base.setWidth 64) ∨
      (0x080 ≤ o.toNat ∧ o.toNat ≤ 0x0F8 ∧ o.toNat % 8 = 0 ∧ v.extractLsb' 0 8 = c.segment ∧ v.extractLsb' 8 2 = c.access ∧
        v.extractLsb' 10 2 = c.kind ∧ v.extractLsb' 12 3 = 0 ∧ v.getLsbD 15 = c.valid ∧ v.extractLsb' 16 48 = 0)) :
    ∃ x, registerAt o = some x ∧ s.plainWord x = some v := by
  rcases h with ⟨rfl, hfault, hstate, hrest⟩ | ⟨rfl, rfl⟩ | ⟨rfl, rfl⟩ | ⟨rfl, rfl⟩ | ⟨rfl, rfl⟩ | ⟨rfl, rfl⟩ | ⟨rfl, rfl⟩ |
    ⟨hlow, hhigh, hstep, hseg, haccess, hkind, hzero, hvalid, hrest⟩
  · exact ⟨_, registerAt_offset .eventEnable, plainWord_eventEnable hfault hstate hrest⟩
  · exact ⟨_, registerAt_offset .stationNumber, rfl⟩
  · exact ⟨_, registerAt_offset .expectedCount, rfl⟩
  · exact ⟨_, registerAt_offset .dataTimeout, rfl⟩
  · exact ⟨_, registerAt_offset .pinLimit, rfl⟩
  · exact ⟨_, registerAt_offset .enrolmentLimit, rfl⟩
  · exact ⟨_, registerAt_offset .poolWindowBase, rfl⟩
  · refine ⟨_, registerAt_slotOffset hlow hhigh hstep, congrArg some ?_⟩
    rw [← hc]
    exact claimSlot_word_eq hseg haccess hkind hzero hvalid hrest

/-- Settles O28: register by register, from what `registerAt` says of the offset. -/
theorem registerWritesAndReads : Obligations.RegisterWritesAndReads := by
  refine ⟨fun s tag v htag => ⟨fun hmode => ?_, fun hmode => ⟨fun o ho => ?_, fun i => ?_⟩, fun o ho => ?_⟩,
    fun s tag n data htag => ?_, fun s tag data o v htag => ⟨fun c hc hlist => ?_, ?_, ?_, fun ho => ?_, ?_, fun code len h => ?_⟩,
    fun s tag v htag => ?_⟩
  case refine_1 =>
    have hwrite : ∀ x : Register, x.inStart = true → exec (.registerWrite tag (BitVec.ofNat 12 x.offset) v) s =
        .next { s with ctl.start := s.ctl.start.write x v, out := oneResponse tag .ok .none } :=
      fun x => exec_write_dormant htag hmode (registerAt_offset x)
    exact ⟨hwrite .stationNumber rfl, hwrite .expectedCount rfl, hwrite .dataTimeout rfl, hwrite .pinLimit rfl,
      hwrite .enrolmentLimit rfl, hwrite .poolWindowBase rfl, fun i => hwrite (.claimSlot i) rfl⟩
  case refine_2 =>
    have hlisted : ∀ o ∈ [0x040#12, 0x048#12, 0x050#12, 0x058#12, 0x060#12, 0x068#12],
        ∃ x, registerAt o = some x ∧ x.inStart = true := by
      decide
    obtain ⟨x, hx, hstart⟩ := hlisted o ho
    exact exec_write_wrongState htag hmode hx hstart
  case refine_3 => exact exec_write_wrongState htag hmode (registerAt_offset (.claimSlot i)) rfl
  case refine_4 => exact exec_write_access htag fun x => readOnly_of_refused ho
  case refine_5 =>
    refine ⟨(look s.segments n).word, ?_, fun hentry => ?_, fun hentry => ?_, fun h a k i hentry => ?_⟩
    · rw [segmentView_address]
      exact exec_read_plain htag (registerAt_offset (.segmentView n)) rfl
    · rw [hentry]
      rfl
    · rw [hentry]
      rfl
    · rw [hentry]
      obtain ⟨hstate, hzero, hhome, haccess, hzero', hkind, hzero'', hindex, hrest⟩ := segEntry_word_mapped h a k i
      have hbit : (SegEntry.mapped h a k i).word.getLsbD 12 = k.bit :=
        BitVec.ofBool_eq_iff_eq.mp ((extract_bit _ 12).symm.trans hkind)
      refine ⟨hstate, hzero, hhome, haccess.trans ?_, hzero', hbit.trans ?_, hzero'', hindex, hrest⟩
      · cases a <;> rfl
      · cases k <;> rfl
  case refine_6 =>
    obtain ⟨x, hx, hv⟩ := plainWord_of_listed hc hlist
    exact exec_read_plain htag hx hv
  case refine_7 =>
    rintro rfl
    rw [exec_controlRead htag, exec_statusRead htag]
    rfl
  case refine_8 =>
    rintro rfl
    rw [exec_controlRead htag, exec_faultLogPop htag]
    rfl
  case refine_9 => exact exec_read_access htag (ho.imp_right registerAt_none)
  case refine_10 =>
    rintro rfl
    rw [exec_controlRequest (by decide), controlRequest_write (s := s.begin) htag, exec_registerWrite htag]
    exact congrArg (fun w => Host.Outcome.next (s.begin.controlWrite tag o w)) (wordOfBytes_eq v)
  case refine_11 => exact exec_control_access htag h
  case refine_12 =>
    obtain ⟨hjoin, hquiesce, hresume, hclear, hother⟩ := writeCommand_cases s.begin tag v
    rw [exec_write_command htag, exec_join htag, exec_quiesce htag, exec_resume htag, exec_clearLog htag,
      exec_registerWrite htag, exec_eventEnableWrite htag]
    exact ⟨fun h => congrArg _ (hjoin h), fun h => congrArg _ (hquiesce h), fun h => congrArg _ (hresume h),
      fun h => congrArg _ (hclear h), fun h => congrArg _ (hother h), rfl⟩

end Sys2Proof.Machine
end

section
/-!
PROOF. O45, O46. The close of an Announce's and of a Ready's window (R45, R146 to R152): what it does by the station's state and by its
roll, each row of the rules an equation; and that nothing follows such a close in a station in which nothing was left to happen.
-/

namespace Sys2Proof.Machine

/-! ### What the enrolment leaves alone -/

/-- The parts of a station that its enrolment neither reads nor writes. -/
def State.work (s : State) :
    (List LocalReq × Option Decoded) × (List SqEntry × List Asker) × LineCache × RequestEngine × ReturnUnit × HomeUnit :=
  ((s.lpu.lrq, s.lpu.head), (s.bus.sq, s.bus.askers), s.cache, s.engine, s.ret, s.home)

/-- `x` has kept all of `s` that what follows an event looks at, but for a station state it may have left. -/
def State.KeepsWork (s x : State) : Prop := x.work = s.work ∧ (x.ctl.mode = .quiescing → s.ctl.mode = .quiescing)

section
variable {s x y : State}

theorem State.KeepsWork.refl (s : State) : s.KeepsWork s := ⟨rfl, id⟩

theorem State.KeepsWork.trans (h : s.KeepsWork x) (h' : x.KeepsWork y) : s.KeepsWork y := ⟨h'.1.trans h.1, h.2 ∘ h'.2⟩

theorem addFault_keepsWork (s : State) (r : FaultRecord) : s.KeepsWork (s.addFault r) := by
  unfold State.addFault
  split <;> exact ⟨rfl, id⟩

theorem notePeer_keepsWork (s : State) (n : StationNo) : s.KeepsWork (s.notePeer n) := by
  unfold State.notePeer
  split
  · exact .refl s
  · exact .trans (x := { s with bus.latePeers := s.bus.latePeers.add n }) ⟨rfl, id⟩ (addFault_keepsWork _ _)

theorem isolate_keepsWork (s : State) (r : FaultRecord) : s.KeepsWork (s.isolate r) :=
  (addFault_keepsWork s r).trans ⟨rfl, fun h => by cases h⟩

theorem queueReady_keepsWork (s : State) : s.KeepsWork s.queueReady := by
  unfold State.queueReady
  split <;> exact ⟨rfl, id⟩

theorem applyClaim_keepsWork (s : State) (n : StationNo) (i : Nat) (c : Claim) : s.KeepsWork (s.applyClaim n i c) := by
  unfold State.applyClaim
  dsimp only
  split
  · exact ⟨rfl, id⟩
  · exact .refl s
  · split
    · exact .trans (x := { s with ctl.roll.claims := put s.ctl.roll.claims c.segment .contested }) ⟨rfl, id⟩ (addFault_keepsWork _ _)
    · exact ⟨rfl, id⟩

theorem applyClaims_keepsWork (s : State) (n : StationNo) (i : Nat) (cs : List Claim) : s.KeepsWork (s.applyClaims n i cs) := by
  induction cs generalizing s i with
  | nil => exact .refl s
  | cons c cs ih => exact (applyClaim_keepsWork s n i c).trans (ih _ _)

theorem recordAnnounce_keepsWork (s : State) (n : StationNo) (f : BitVec 4) (cs : List Claim) (own : Bool) :
    s.KeepsWork (s.recordAnnounce n f cs own) := by
  have hclaims : s.KeepsWork
      (({ s with ctl.roll.announced := put s.ctl.roll.announced n (some (f.toNat + 1)) } : State).applyClaims n 0 cs) :=
    .trans ⟨rfl, id⟩ (applyClaims_keepsWork _ n 0 cs)
  cases own with
  | true => exact hclaims.trans ⟨rfl, id⟩
  | false => exact hclaims

theorem takeAnnounce_keepsWork (s : State) (n : StationNo) (f : BitVec 4) (cs : List Claim) (own : Bool) :
    s.KeepsWork (s.takeAnnounce n f cs own) := by
  unfold State.takeAnnounce
  split
  · split
    · split
      · exact notePeer_keepsWork s n
      · exact .refl s
    · split
      · exact .refl s
      · split
        · exact isolate_keepsWork s _
        · split
          · exact .trans (x := s.contestNumber n) ⟨rfl, id⟩ (queueReady_keepsWork _)
          · exact (recordAnnounce_keepsWork s n f cs own).trans (queueReady_keepsWork _)
  · exact .refl s

theorem closeRoll_keepsWork (s : State) : s.KeepsWork s.closeRoll := by
  unfold State.closeRoll
  split <;> exact ⟨rfl, id⟩

theorem countReady_keepsWork (s : State) (n : StationNo) : s.KeepsWork (s.countReady n) := by
  unfold State.countReady
  split <;> exact ⟨rfl, id⟩

theorem checkOperational_keepsWork (s : State) : s.KeepsWork s.checkOperational := by
  unfold State.checkOperational
  split
  · exact ⟨rfl, fun h => by cases h⟩
  · exact .refl s

theorem enrolReady_keepsWork (s : State) (n : StationNo) (set : StationSet) : s.KeepsWork (s.enrolReady n set) := by
  refine (closeRoll_keepsWork s).trans ?_
  unfold State.enrolReady
  dsimp only
  split
  · exact isolate_keepsWork _ _
  · split
    · exact isolate_keepsWork _ _
    · exact ((countReady_keepsWork _ n).trans (queueReady_keepsWork _)).trans (checkOperational_keepsWork _)

theorem takeReady_keepsWork (s : State) (n : StationNo) (set : StationSet) : s.KeepsWork (s.takeReady n set) := by
  unfold State.takeReady
  split
  case h_1 => exact ⟨rfl, id⟩
  case h_2 => exact enrolReady_keepsWork s n set
  all_goals exact .refl s

theorem requeueOwn_keepsWork (s : State) (own : Option SendItem) : s.KeepsWork (s.requeueOwn own) := by
  unfold State.requeueOwn
  split
  · split
    · exact ⟨rfl, id⟩
    · exact .refl s
  · exact .refl s

theorem closeAnnounce_keepsWork (s : State) (own : Option SendItem) (n : StationNo) (f : BitVec 4) (cs : List Claim) (c : AnswerCode) :
    s.KeepsWork (s.closeAnnounce own n f cs c) := by
  cases c with
  | clear => exact takeAnnounce_keepsWork s n f cs own.isSome
  | void | again => exact requeueOwn_keepsWork s own
  | shared | supply | follow => exact .refl s

theorem closeReady_keepsWork (s : State) (own : Option SendItem) (n : StationNo) (set : StationSet) (c : AnswerCode) :
    s.KeepsWork (s.closeReady own n set c) := by
  cases c with
  | clear => exact takeReady_keepsWork s n set
  | void | again => exact requeueOwn_keepsWork s own
  | shared | supply | follow => exact .refl s

/-- What follows an event does not look at what the enrolment writes. -/
theorem State.Settled.keepsWork (h : s.idle.Settled) (hx : s.KeepsWork x) : x.idle.Settled := by
  obtain ⟨hwork, hmode⟩ := hx
  simp only [State.work, Prod.mk.injEq] at hwork
  obtain ⟨⟨hlrq, hhead⟩, ⟨hsq, haskers⟩, hcache, hengine, hret, hhome⟩ := hwork
  have hplace : x.idle.sqFree = s.idle.sqFree := congrArg (fun q => decide (List.length q + 0 < Config.sqPlaces)) hsq
  have hvictim : x.idle.nextVictim = s.idle.nextVictim := by
    simp only [State.nextVictim, State.findExport, State.exportSet, State.idle, hhome]
  have htag : x.idle.freeTag = s.idle.freeTag := by simp only [State.freeTag, State.entry, State.idle, hengine]
  have hkinds : x.idle.entryKinds = s.idle.entryKinds := by simp only [State.entryKinds, State.idle, hengine]
  have htransit : ∀ l, x.idle.inTransit l = s.idle.inTransit l := fun l => by simp only [State.inTransit, State.idle, hsq]
  refine ⟨h.conv.congr hsq hret, by rw [hplace]; exact haskers ▸ h.places, by rw [hvictim, htag]; exact h.victim, ?_⟩
  by_cases hq : x.ctl.mode = .quiescing
  · have hstays : s.idle.walkStays = true := h.walk.resolve_left (not_not.mpr (hmode hq))
    exact .inr (walkStays_of_frame hstays hret hcache (hq.trans (hmode hq).symm) hkinds (fun _ hl => hl)
      (fun l hl => (htransit l).trans hl) (fun hempty => hsq ▸ hempty) fun hheld => hheld)
  · exact .inl hq

theorem settle_keepsWork (hstill : s.idle.still = true) (hx : s.KeepsWork x) (s0 : State) (j : Judged) :
    x.idle.settle s0 j = x.idle := by
  obtain ⟨hsettled, hport⟩ := settled_of_still hstill
  have hwork := hx.1
  simp only [State.work, Prod.mk.injEq] at hwork
  obtain ⟨⟨hlrq, hhead⟩, _, _, _, _, hhome⟩ := hwork
  exact settle_calm (hsettled.keepsWork hx) (hport.congr (congrArg (·.port) hhome) (congrArg (·.hwq) hhome))
    ((noRequest_of_still hstill).congr hlrq hhead) s0 j

end

/-! ### The two rows -/

section
variable {s : State} {driven : Table (BitVec 3) 4} {w : Window} {n : StationNo} (hopen : s.bus.medium = .answering w)
  (hstill : s.idle.still = true)
include hopen hstill

theorem exec_announceClose {f : BitVec 4} {cs : List Claim} (hmsg : w.msg = some (n, .announce f cs)) :
    exec (.announceClose driven) s = .next (s.begin.closeAnnounce w.own n f cs (combine driven w.drives)).idle := by
  have hkeeps : s.KeepsWork (s.begin.closeAnnounce w.own n f cs (combine driven w.drives)) :=
    .trans (x := s.begin) ⟨rfl, id⟩ (closeAnnounce_keepsWork _ _ _ _ _ _)
  have hkind : w.kind = .announce := by simp [Window.kind, hmsg]
  show s.begin.closeAnswer .announce driven = _
  simp only [State.closeAnswer, begin_bus, hopen, hkind, true_or, if_true, State.closeAny, hmsg]
  rw [settle_keepsWork hstill hkeeps]

theorem exec_readyClose {set : StationSet} (hmsg : w.msg = some (n, .ready set)) :
    exec (.readyClose driven) s = .next (s.begin.closeReady w.own n set (combine driven w.drives)).idle := by
  have hkeeps : s.KeepsWork (s.begin.closeReady w.own n set (combine driven w.drives)) :=
    .trans (x := s.begin) ⟨rfl, id⟩ (closeReady_keepsWork _ _ _ _ _)
  have hkind : w.kind = .ready := by simp [Window.kind, hmsg]
  show s.begin.closeAnswer .ready driven = _
  simp only [State.closeAnswer, begin_bus, hopen, hkind, true_or, if_true, State.closeAny, hmsg]
  rw [settle_keepsWork hstill hkeeps]

end

/-- At a close with Clear the Announce is taken. -/
theorem closeAnnounce_clear {s : State} {own : Option SendItem} {n : StationNo} {f : BitVec 4} {cs : List Claim} :
    s.closeAnnounce own n f cs .clear = s.takeAnnounce n f cs own.isSome := rfl

/-- At a close with Clear the Ready is taken. -/
theorem closeReady_clear {s : State} {own : Option SendItem} {n : StationNo} {set : StationSet} :
    s.closeReady own n set .clear = s.takeReady n set := rfl

/-! ### A cancelled window (R45, R154) -/

section
variable {s : State} {own : Option SendItem} {n : StationNo} {c : AnswerCode}

theorem closeAnnounce_cancelled {f : BitVec 4} {cs : List Claim} (hc : c = .void ∨ c = .again) :
    s.closeAnnounce own n f cs c = s.requeueOwn own := by
  rcases hc with rfl | rfl <;> rfl

theorem closeReady_cancelled {set : StationSet} (hc : c = .void ∨ c = .again) : s.closeReady own n set c = s.requeueOwn own := by
  rcases hc with rfl | rfl <;> rfl

theorem requeueOwn_enrolling (i : SendItem) (h : s.ctl.mode = .enrolling) : s.requeueOwn (some i) = s.enqueue i := if_pos h

theorem requeueOwn_stays (h : own = none ∨ s.ctl.mode ≠ .enrolling) : s.requeueOwn own = s := by
  cases own with
  | none => rfl
  | some i => exact if_neg (h.resolve_left (by simp))

end

/-! ### When the Ready is queued (R149) -/

section
variable {s : State}

/-- The trigger of R149. -/
def State.readyTrigger (s : State) : Prop :=
  s.ctl.mode = .enrolling ∧ s.ctl.roll.ownAnnounce = true ∧ s.ctl.roll.readyQueued = false ∧
    (s.targetCount ≤ s.ctl.roll.validSet.count ∨ s.ctl.roll.limitPassed = true ∨ s.ctl.roll.closed = true)

theorem queueReady_triggered (h : s.readyTrigger) : s.queueReady =
    { s with ctl.roll.readyQueued := true, bus.sendList := s.bus.sendList.filter (· != .ready) ++ [.ready] } := if_pos h

theorem queueReady_stays (h : ¬ s.readyTrigger) : s.queueReady = s := if_neg h

theorem not_readyTrigger_of_mode (h : s.ctl.mode ≠ .enrolling) : ¬ s.readyTrigger := fun htrigger => h htrigger.1

theorem queueReady_idle : s.queueReady.idle = s.idle.queueReady := by
  by_cases h : s.readyTrigger
  · rw [queueReady_triggered h, queueReady_triggered (s := s.idle) h]
    rfl
  · rw [queueReady_stays h, queueReady_stays (s := s.idle) h]

/-- The greatest of `a` and the values of `g` over a list. -/
theorem foldl_max_le_iff {α : Type} (g : α → Nat) (xs : List α) (a b : Nat) :
    xs.foldl (fun m x => max m (g x)) a ≤ b ↔ a ≤ b ∧ ∀ x ∈ xs, g x ≤ b := by
  induction xs generalizing a with
  | nil => simp
  | cons x xs ih => simp [ih, and_assoc]

theorem foldl_max_attained {α : Type} (g : α → Nat) (xs : List α) (a : Nat) :
    xs.foldl (fun m x => max m (g x)) a = a ∨ ∃ x ∈ xs, g x = xs.foldl (fun m x => max m (g x)) a := by
  induction xs generalizing a with
  | nil => exact .inl rfl
  | cons x xs ih =>
    rw [List.foldl_cons]
    rcases ih (max a (g x)) with h | ⟨y, hy, h⟩
    · rw [h]
      rcases max_choice a (g x) with hmax | hmax
      · exact .inl hmax
      · exact .inr ⟨x, List.mem_cons_self, hmax.symm⟩
    · exact .inr ⟨y, List.mem_cons_of_mem x hy, h⟩

/-- R149: nothing that the target count is the greatest of exceeds it. -/
theorem targetCount_bounds (s : State) :
    s.ctl.start.expected.toNat ≤ s.targetCount ∧ ∀ n c, look s.ctl.roll.announced n = some c → c ≤ s.targetCount := by
  obtain ⟨hexpected, hannounced⟩ := (foldl_max_le_iff (fun x : Option Nat => x.getD 0) s.ctl.roll.announced.toList
    s.ctl.start.expected.toNat s.targetCount).mp le_rfl
  exact ⟨hexpected, fun n c hn => hannounced (some c) ((mem_toList_iff_look _ _).mpr ⟨n, hn⟩)⟩

/-- R149: the target count is one of those it is the greatest of. -/
theorem targetCount_attained (s : State) :
    s.targetCount = s.ctl.start.expected.toNat ∨ ∃ n, look s.ctl.roll.announced n = some s.targetCount := by
  obtain ⟨hexpected, _⟩ := targetCount_bounds s
  rcases foldl_max_attained (fun x : Option Nat => x.getD 0) s.ctl.roll.announced.toList s.ctl.start.expected.toNat with h | ⟨x, hx, h⟩
  · exact .inl h
  · replace h : x.getD 0 = s.targetCount := h
    cases x with
    | none =>
      rw [Option.getD_none] at h
      exact .inl (by omega)
    | some c =>
      obtain ⟨n, hn⟩ := (mem_toList_iff_look _ _).mp hx
      exact .inr ⟨n, h ▸ hn⟩

end

/-! ### Claims (R148) -/

section
variable {s : State} {n h : StationNo} {i : Nat} {c : Claim} {cs : List Claim} {a : Access} {k : SegKind} {j : BitVec 4}

theorem applyClaim_unclaimed (hc : look s.ctl.roll.claims c.segment = .unclaimed) : s.applyClaim n i c =
    { s with ctl.roll.claims := put s.ctl.roll.claims c.segment (.claimed n c.access c.kind (BitVec.ofNat 4 i)) } := by
  simp [State.applyClaim, hc]

theorem applyClaim_contested (hc : look s.ctl.roll.claims c.segment = .contested) : s.applyClaim n i c = s := by
  simp [State.applyClaim, hc]

theorem applyClaim_claimed (hc : look s.ctl.roll.claims c.segment = .claimed h a k j) (hmode : s.ctl.mode ≠ .enrolling) :
    s.applyClaim n i c = { s with ctl.roll.claims := put s.ctl.roll.claims c.segment .contested } := by
  simp [State.applyClaim, hc, hmode]

/-- R148: an Enrolling station records the contest. -/
theorem applyClaim_claimed_enrolling (hc : look s.ctl.roll.claims c.segment = .claimed h a k j) (hmode : s.ctl.mode = .enrolling)
    (hlog : s.lpu.log.length < 8) : s.applyClaim n i c =
      { s with
        ctl.roll.claims := put s.ctl.roll.claims c.segment .contested
        lpu.log := s.lpu.log ++ [{ kind := .segmentContested, segment := some c.segment, peer := some n }] } := by
  simp only [State.applyClaim, hc, hmode, if_true]
  exact addFault_room _ _ hlog

theorem addFault_idle (r : FaultRecord) : (s.addFault r).idle = s.idle.addFault r := apply_ite State.idle _ _ _

theorem applyClaim_idle : (s.applyClaim n i c).idle = s.idle.applyClaim n i c := by
  unfold State.applyClaim
  dsimp only [State.idle]
  split
  · rfl
  · rfl
  · split
    · exact addFault_idle _
    · rfl

theorem applyClaims_idle (s : State) (n : StationNo) (i : Nat) (cs : List Claim) :
    (s.applyClaims n i cs).idle = s.idle.applyClaims n i cs := by
  induction cs generalizing s i with
  | nil => rfl
  | cons c cs ih =>
    show ((s.applyClaim n i c).applyClaims n (i + 1) cs).idle = (s.idle.applyClaim n i c).applyClaims n (i + 1) cs
    rw [ih, applyClaim_idle]

theorem applyClaim_ownAnnounce : (s.applyClaim n i c).ctl.roll.ownAnnounce = s.ctl.roll.ownAnnounce := by
  unfold State.applyClaim
  dsimp only
  split
  · rfl
  · rfl
  · split
    · rw [addFault_ctl]
    · rfl

theorem applyClaims_ownAnnounce (s : State) (n : StationNo) (i : Nat) (cs : List Claim) :
    (s.applyClaims n i cs).ctl.roll.ownAnnounce = s.ctl.roll.ownAnnounce := by
  induction cs generalizing s i with
  | nil => rfl
  | cons c cs ih => exact (ih _ _).trans applyClaim_ownAnnounce

end

/-! ### An Announce at a close with Clear, row by row (R57, R146, R147, R150) -/

section
variable {s : State} {n : StationNo} {f : BitVec 4} {cs : List Claim} {own : Bool}

theorem takeAnnounce_nothing
    (h : (s.ctl.mode ≠ .dormant ∧ s.ctl.mode ≠ .enrolling) ∨ (s.ctl.mode = .dormant ∧ s.ctl.roll.closed = true) ∨
      (s.ctl.mode = .enrolling ∧ s.ctl.roll.closed = true ∧ s.bus.latePeers.has n = true) ∨
      (s.ctl.roll.closed = false ∧ s.ctl.roll.contested.has n = true)) : s.takeAnnounce n f cs own = s := by
  rcases h with ⟨hdormant, henrolling⟩ | ⟨hmode, hclosed⟩ | ⟨hmode, hclosed, hknown⟩ | ⟨hclosed, hcontested⟩
  · simp [State.takeAnnounce, hdormant, henrolling]
  · simp [State.takeAnnounce, hmode, hclosed]
  · simp [State.takeAnnounce, hmode, hclosed, State.notePeer, hknown]
  · simp [State.takeAnnounce, hclosed, hcontested]

theorem takeAnnounce_late (hmode : s.ctl.mode = .enrolling) (hclosed : s.ctl.roll.closed = true) (hnew : s.bus.latePeers.has n = false)
    (hlog : s.lpu.log.length < 8) : s.takeAnnounce n f cs own =
      { s with
        bus.latePeers := s.bus.latePeers.add n
        lpu.log := s.lpu.log ++ [{ kind := .latePeer, peer := some n }] } := by
  simp only [State.takeAnnounce, hmode, hclosed, or_true, if_true, State.notePeer, hnew, Bool.false_eq_true, if_false]
  exact addFault_room _ _ hlog

section
variable (hclosed : s.ctl.roll.closed = false) (hcontested : s.ctl.roll.contested.has n = false)
include hclosed hcontested

theorem takeAnnounce_ownNumber (hmode : s.ctl.mode = .enrolling) (hn : n = s.number) (hown : own = false) :
    s.takeAnnounce n f cs own = s.isolate (numberContested n) := by
  simp [State.takeAnnounce, hmode, hclosed, hcontested, ← hn, hown]

variable (hmode : s.ctl.mode = .dormant ∨ (s.ctl.mode = .enrolling ∧ ¬(n = s.number ∧ own = false)))
include hmode

theorem takeAnnounce_open : s.takeAnnounce n f cs own =
    if (look s.ctl.roll.announced n).isSome then (s.contestNumber n).queueReady
    else (s.recordAnnounce n f cs own).queueReady := by
  rcases hmode with hmode | ⟨hmode, hpeer⟩
  · simp [State.takeAnnounce, hmode, hclosed, hcontested]
  · simp only [State.takeAnnounce, hmode, hclosed, hcontested, hpeer, or_true, and_false, if_true, Bool.false_eq_true, if_false]

theorem takeAnnounce_twice (hn : look s.ctl.roll.announced n ≠ none) : s.takeAnnounce n f cs own = (s.contestNumber n).queueReady := by
  rw [takeAnnounce_open hclosed hcontested hmode, if_pos (Option.isSome_iff_ne_none.mpr hn)]

theorem takeAnnounce_records (hn : look s.ctl.roll.announced n = none) :
    s.takeAnnounce n f cs own = (s.recordAnnounce n f cs own).queueReady := by
  rw [takeAnnounce_open hclosed hcontested hmode, if_neg (by simp [hn])]

end

theorem recordAnnounce_eq (s : State) (n : StationNo) (f : BitVec 4) (cs : List Claim) (own : Bool) : s.recordAnnounce n f cs own =
    { ({ s with ctl.roll.announced := put s.ctl.roll.announced n (some (f.toNat + 1)) } : State).applyClaims n 0 cs with
      ctl.roll.ownAnnounce := s.ctl.roll.ownAnnounce || own } := by
  let t : State := ({ s with ctl.roll.announced := put s.ctl.roll.announced n (some (f.toNat + 1)) } : State).applyClaims n 0 cs
  have hown : t.ctl.roll.ownAnnounce = s.ctl.roll.ownAnnounce := applyClaims_ownAnnounce _ n 0 cs
  cases own with
  | true => rw [Bool.or_true]; rfl
  | false =>
    rw [Bool.or_false]
    exact congrArg (fun b => ({ t with ctl.roll.ownAnnounce := b } : State)) hown

/-- A peer's Announce of one claim, of a segment that nobody has claimed. -/
theorem recordAnnounce_single {c : Claim} (hfree : look s.ctl.roll.claims c.segment = .unclaimed) : s.recordAnnounce n f [c] false =
    { s with
      ctl.roll.announced := put s.ctl.roll.announced n (some (f.toNat + 1))
      ctl.roll.claims := put s.ctl.roll.claims c.segment (.claimed n c.access c.kind 0) } :=
  applyClaim_unclaimed (s := { s with ctl.roll.announced := put s.ctl.roll.announced n (some (f.toNat + 1)) }) hfree

theorem recordAnnounce_idle (s : State) (n : StationNo) (f : BitVec 4) (cs : List Claim) (own : Bool) :
    (s.recordAnnounce n f cs own).idle = s.idle.recordAnnounce n f cs own := by
  have hclaims := applyClaims_idle { s with ctl.roll.announced := put s.ctl.roll.announced n (some (f.toNat + 1)) } n 0 cs
  rw [recordAnnounce_eq, recordAnnounce_eq]
  exact congrArg (fun t : State => { t with ctl.roll.ownAnnounce := s.ctl.roll.ownAnnounce || own }) hclaims

end

/-- Settles O45: each row from the equation of `takeAnnounce` for it, as nothing follows such a close. -/
theorem announceCloseRecords : Obligations.AnnounceCloseRecords := by
  refine ⟨fun s driven w n f c hopen hown hmsg hclear hmode hclosed hcontested hnew hfree hstill => ?single,
    fun s driven w n f cs hopen hmsg hstill => ⟨fun hc => ⟨fun i hown hmode => ?requeued, fun hstays => ?cancelled⟩,
      fun hclear => ⟨fun h => ?nothing, fun hmode hclosed hnew hlog => ?late, fun hclosed hcontested =>
        ⟨fun hmode hn hown hlog => ?ownNumber, fun hmode => ⟨fun hn => ?twice, fun hn t ht => ?recorded⟩⟩⟩⟩,
    fun s n i c cs => ⟨rfl, fun hc => ?unclaimed, fun hc => ?contested, fun h a k j hc =>
      ⟨fun hmode => ?claimed, fun hmode hlog => ?claimedEnrolling⟩⟩,
    fun s trigger htrigger => ⟨fun h => queueReady_triggered (htrigger.mp h), fun h => queueReady_stays (h ∘ htrigger.mpr),
      (targetCount_bounds s).1, (targetCount_bounds s).2, targetCount_attained s⟩⟩
  case single =>
    rw [exec_announceClose hopen hstill hmsg, hclear, hown, closeAnnounce_clear,
      takeAnnounce_records (s := s.begin) hclosed hcontested (.inl hmode) hnew, Option.isSome_none,
      recordAnnounce_single (s := s.begin) hfree, queueReady_stays (not_readyTrigger_of_mode (by simp [hmode]))]
    rfl
  case requeued =>
    rw [exec_announceClose hopen hstill hmsg, closeAnnounce_cancelled hc, hown, requeueOwn_enrolling (s := s.begin) i hmode]
    rfl
  case cancelled =>
    rw [exec_announceClose hopen hstill hmsg, closeAnnounce_cancelled hc, requeueOwn_stays (s := s.begin) hstays]
    rfl
  case nothing =>
    rw [exec_announceClose hopen hstill hmsg, hclear, closeAnnounce_clear, takeAnnounce_nothing (s := s.begin) h]
    rfl
  case late =>
    rw [exec_announceClose hopen hstill hmsg, hclear, closeAnnounce_clear, takeAnnounce_late (s := s.begin) hmode hclosed hnew hlog]
    rfl
  case ownNumber =>
    rw [exec_announceClose hopen hstill hmsg, hclear, closeAnnounce_clear,
      takeAnnounce_ownNumber (s := s.begin) hclosed hcontested hmode hn (by rw [hown]; rfl), isolate_room (s := s.begin) hlog]
    rfl
  case twice =>
    rw [← Option.isSome_eq_false_iff.trans Option.isNone_iff_eq_none] at hmode
    rw [exec_announceClose hopen hstill hmsg, hclear, closeAnnounce_clear,
      takeAnnounce_twice (s := s.begin) hclosed hcontested hmode hn, queueReady_idle]
    rfl
  case recorded =>
    rw [← Option.isSome_eq_false_iff.trans Option.isNone_iff_eq_none] at hmode
    rw [exec_announceClose hopen hstill hmsg, hclear, closeAnnounce_clear,
      takeAnnounce_records (s := s.begin) hclosed hcontested hmode hn, queueReady_idle, recordAnnounce_idle,
      recordAnnounce_eq, ht]
    rfl
  case unclaimed => exact congrArg (·.applyClaims n (i + 1) cs) (applyClaim_unclaimed hc)
  case contested => exact congrArg (·.applyClaims n (i + 1) cs) (applyClaim_contested hc)
  case claimed => exact congrArg (·.applyClaims n (i + 1) cs) (applyClaim_claimed hc hmode)
  case claimedEnrolling => exact congrArg (·.applyClaims n (i + 1) cs) (applyClaim_claimed_enrolling hc hmode hlog)

/-! ### A Ready at a close with Clear, in the steps of R150 -/

section
variable {s : State} {n : StationNo} {set : StationSet}

theorem takeReady_outside (hdormant : s.ctl.mode ≠ .dormant) (henrolling : s.ctl.mode ≠ .enrolling) : s.takeReady n set = s := by
  unfold State.takeReady
  split
  case h_1 h => exact absurd h hdormant
  case h_2 h => exact absurd h henrolling
  all_goals rfl

theorem takeReady_dormant (h : s.ctl.mode = .dormant) : s.takeReady n set = { s with ctl.roll.closed := true } := by
  simp only [State.takeReady, h]

theorem takeReady_enrolling (h : s.ctl.mode = .enrolling) : s.takeReady n set = s.enrolReady n set := by
  simp only [State.takeReady, h]

theorem closeRoll_eq (s : State) : s.closeRoll =
    { s with
      ctl.roll.closed := true
      ctl.roll.timer := if s.ctl.roll.closed then s.ctl.roll.timer else some s.ctl.start.enrolLimit } := by
  unfold State.closeRoll
  split
  case isTrue h => exact congrArg (fun b => ({ s with ctl.roll.closed := b } : State)) h
  case isFalse => rfl

theorem countReady_eq (s : State) (n : StationNo) : s.countReady n =
    { s with
      ctl.roll.readySet := if s.ctl.roll.validSet.has n then s.ctl.roll.readySet.add n else s.ctl.roll.readySet } := by
  unfold State.countReady
  split <;> rfl

/-- R149: once the roll is closed, the Ready waits only for the own Announce. -/
theorem queueReady_closed (hmode : s.ctl.mode = .enrolling) (hclosed : s.ctl.roll.closed = true) : s.queueReady =
    { s with
      ctl.roll.readyQueued := s.ctl.roll.readyQueued || s.ctl.roll.ownAnnounce
      bus.sendList := if s.ctl.roll.ownAnnounce = true ∧ s.ctl.roll.readyQueued = false then
          s.bus.sendList.filter (· != .ready) ++ [.ready] else s.bus.sendList } := by
  by_cases h : s.ctl.roll.ownAnnounce = true ∧ s.ctl.roll.readyQueued = false
  · obtain ⟨hown, hqueued⟩ := h
    rw [queueReady_triggered ⟨hmode, hown, hqueued, .inr (.inr hclosed)⟩, if_pos ⟨hown, hqueued⟩, hown, Bool.or_true]
  · have hsame : s.ctl.roll.readyQueued = (s.ctl.roll.readyQueued || s.ctl.roll.ownAnnounce) := by
      cases hqueued : s.ctl.roll.readyQueued with
      | true => rfl
      | false => simpa [hqueued] using h
    rw [queueReady_stays fun htrigger => h ⟨htrigger.2.1, htrigger.2.2.1⟩, if_neg h]
    exact congrArg (fun b => ({ s with ctl.roll.readyQueued := b } : State)) hsame

/-- Steps 1, 3 and 4 of R150 upon a Ready of number N whose flags are the valid set. -/
def State.withReady (s : State) (n : StationNo) (set : StationSet) : State :=
  { s with
    ctl.roll :=
      { s.ctl.roll with
        closed := true
        timer := if s.ctl.roll.closed then s.ctl.roll.timer else some s.ctl.start.enrolLimit
        readySet := if set.has n then s.ctl.roll.readySet.add n else s.ctl.roll.readySet
        readyQueued := s.ctl.roll.readyQueued || s.ctl.roll.ownAnnounce }
    bus.sendList := if s.ctl.roll.ownAnnounce = true ∧ s.ctl.roll.readyQueued = false then
        s.bus.sendList.filter (· != .ready) ++ [.ready] else s.bus.sendList }

/-- The station becomes Isolated out of a roll that this Ready has closed. -/
theorem closeRoll_isolate (hlog : s.lpu.log.length < 8) (r : FaultRecord) : s.closeRoll.isolate r =
    { s with
      ctl := { s.ctl with mode := .isolated, roll := { s.ctl.roll with closed := true, timer := none } }
      lpu := { s.lpu with stateChange := true, log := s.lpu.log ++ [r] }
      bus.sendList := (s.bus.sendList.filter (· != .announce)).filter (· != .ready) } := by
  rw [closeRoll_eq]
  exact isolate_room hlog

theorem enrolReady_late (hclosed : s.ctl.roll.closed = false) (hown : s.ctl.roll.ownAnnounce = false) :
    s.enrolReady n set = s.closeRoll.isolate (lateJoin (some n)) := by
  unfold State.enrolReady
  rw [closeRoll_eq]
  exact if_pos ⟨hclosed, hown⟩

section
variable (htimely : s.ctl.roll.closed = true ∨ s.ctl.roll.ownAnnounce = true)
include htimely

theorem enrolReady_mismatch (hset : set ≠ s.ctl.roll.validSet) :
    s.enrolReady n set = s.closeRoll.isolate { kind := .enrolMismatch, peer := some n } := by
  have hlate : ¬ (s.ctl.roll.closed = false ∧ s.ctl.roll.ownAnnounce = false) := by simpa [imp_iff_not_or] using htimely
  unfold State.enrolReady
  rw [closeRoll_eq]
  exact (if_neg hlate).trans (if_pos hset)

theorem enrolReady_counts (hmode : s.ctl.mode = .enrolling) (hset : set = s.ctl.roll.validSet) :
    s.enrolReady n set = (s.withReady n set).checkOperational := by
  subst hset
  have hlate : ¬ (s.ctl.roll.closed = false ∧ s.ctl.roll.ownAnnounce = false) := by simpa [imp_iff_not_or] using htimely
  have hmode' : (s.closeRoll.countReady n).ctl.mode = .enrolling := by
    rw [countReady_eq, closeRoll_eq]
    exact hmode
  have hclosed : (s.closeRoll.countReady n).ctl.roll.closed = true := by rw [countReady_eq, closeRoll_eq]
  have hqueue : (s.closeRoll.countReady n).queueReady = s.withReady n s.ctl.roll.validSet := by
    rw [queueReady_closed hmode' hclosed, countReady_eq, closeRoll_eq]
    rfl
  have hsteps : s.enrolReady n s.ctl.roll.validSet = (s.closeRoll.countReady n).queueReady.checkOperational := by
    unfold State.enrolReady
    rw [closeRoll_eq]
    exact (if_neg hlate).trans (if_neg (not_not.mpr rfl))
  rw [hsteps, hqueue]

end

theorem checkOperational_waits (h : s.ctl.roll.readySet ≠ s.ctl.roll.validSet) : s.checkOperational = s :=
  if_neg fun hready => h hready.2

/-- R151, R152: with all Readies of a closed roll counted the station is in the pool. -/
theorem checkOperational_enters (hclosed : s.ctl.roll.closed = true) (h : s.ctl.roll.readySet = s.ctl.roll.validSet) :
    s.checkOperational =
      { s with
        ctl.mode := .operational
        ctl.enrolled := s.ctl.roll.validSet
        ctl.roll.timer := none
        segments := s.ctl.roll.claims.map (ClaimState.segEntry s.ctl.roll.validSet)
        lpu.stateChange := true } := if_pos ⟨hclosed, h⟩

end

/-- Settles O46: each row from the equation of `takeReady` for it, as nothing follows such a close. -/
theorem readyCloseOutcomes : Obligations.ReadyCloseOutcomes := by
  refine fun s driven w n set hopen hmsg hstill => ⟨fun hc => ⟨fun i hown hmode => ?requeued, fun hstays => ?cancelled⟩,
    fun hclear => ⟨fun hdormant henrolling => ?outside, fun hmode => ?dormant, fun hmode =>
      ⟨fun record hlog hrecord => ?isolated, fun htimely hset ready items hready hitems =>
        ⟨fun hmore => ?waits, fun hall => ?enters⟩⟩⟩⟩
  case requeued =>
    rw [exec_readyClose hopen hstill hmsg, closeReady_cancelled hc, hown, requeueOwn_enrolling (s := s.begin) i hmode]
    rfl
  case cancelled =>
    rw [exec_readyClose hopen hstill hmsg, closeReady_cancelled hc, requeueOwn_stays (s := s.begin) hstays]
    rfl
  case outside =>
    rw [exec_readyClose hopen hstill hmsg, hclear, closeReady_clear, takeReady_outside (s := s.begin) hdormant henrolling]
    rfl
  case dormant =>
    rw [exec_readyClose hopen hstill hmsg, hclear, closeReady_clear, takeReady_dormant (s := s.begin) hmode]
    rfl
  case isolated =>
    have hisolates : s.begin.enrolReady n set = s.begin.closeRoll.isolate record := by
      rcases hrecord with ⟨hclosed, hown, rfl⟩ | ⟨htimely, hset, rfl⟩
      · exact enrolReady_late (s := s.begin) hclosed hown
      · exact enrolReady_mismatch (s := s.begin) htimely hset
    rw [exec_readyClose hopen hstill hmsg, hclear, closeReady_clear, takeReady_enrolling (s := s.begin) hmode, hisolates,
      closeRoll_isolate (s := s.begin) hlog]
    rfl
  case waits =>
    have hnot : (s.begin.withReady n set).ctl.roll.readySet ≠ (s.begin.withReady n set).ctl.roll.validSet :=
      fun h => hmore (hready.trans (h.trans hset.symm))
    rw [exec_readyClose hopen hstill hmsg, hclear, closeReady_clear, takeReady_enrolling (s := s.begin) hmode,
      enrolReady_counts (s := s.begin) htimely hmode hset, checkOperational_waits hnot, hready, hitems]
    rfl
  case enters =>
    have hcounted : (s.begin.withReady n set).ctl.roll.readySet = set := hready.symm.trans hall
    have hvalid : (s.begin.withReady n set).ctl.roll.validSet = set := hset.symm
    have hfull : s.begin.withReady n set = { s.begin.withReady n set with ctl.roll.readySet := set } :=
      congrArg (fun r => ({ s.begin.withReady n set with ctl.roll.readySet := r } : State)) hcounted
    rw [exec_readyClose hopen hstill hmsg, hclear, closeReady_clear, takeReady_enrolling (s := s.begin) hmode,
      enrolReady_counts (s := s.begin) htimely hmode hset, checkOperational_enters rfl (hcounted.trans hvalid.symm), hvalid,
      hitems, hfull]
    rfl

end Sys2Proof.Machine
end

section
/-!
PROOF. O4. The LRQ and the Fault Log stay within 8 places each (R159, R165), the RQ within 4 entries, the Pin Table within 2 and every waiting
list within 4 (R120, R133, R61): each of them grows in one update alone, and each use of that update is behind a check for room.
-/

namespace Sys2Proof.Machine

/-! ### The two bounds as one predicate -/

/-- The LRQ and the Fault Log are within their places (R159, R165). -/
structure PortFits (lrq : List LocalReq) (log : List FaultRecord) : Prop where
  lrq : lrq.length ≤ 8
  log : log.length ≤ 8

/-- The RQ, the Pin Table and the waiting lists of the PRT are within their capacities (R120, R133, R61). -/
structure TablesFit (rq : List RqEntry) (pins : List PinEntry) (prt : Table PrtSlot 3) : Prop where
  rq    : rq.length ≤ 4
  pins  : pins.length ≤ 2
  lists : ∀ x e, (look prt x).entry = some e → e.waiting.length ≤ 4

/-- The first bound where `port` holds, and the second where `tables` does: the two are kept apart from each other, and by the same
updates. It reads the bounded lists alone, so an update of anything else keeps it by definition. -/
def State.Within (s : State) (port tables : Prop) : Prop :=
  (port → PortFits s.lpu.lrq s.lpu.log) ∧ (tables → TablesFit s.ret.rq s.cache.pins s.engine.prt)

variable {s t u : State} {port tables : Prop}

theorem portBounded_iff_within : s.portBounded = true ↔ s.Within True False := by
  unfold State.portBounded State.Within
  simp only [Bool.and_eq_true, decide_eq_true_eq]
  exact ⟨fun ⟨hlrq, hlog⟩ => ⟨fun _ => ⟨hlrq, hlog⟩, nofun⟩, fun ⟨hport, _⟩ => ⟨(hport trivial).lrq, (hport trivial).log⟩⟩

/-- A table holds what it shows at its indices. -/
theorem forall_mem_table {α : Type} {n : Nat} {tb : Table α n} {P : α → Prop} : (∀ x ∈ tb.toList, P x) ↔ ∀ i, P (look tb i) := by
  refine ⟨fun h i => h _ (look_mem_toList tb i), fun h x hx => ?_⟩
  obtain ⟨j, hj, rfl⟩ := List.getElem_of_mem hx
  have hlt : j < 2 ^ n := by simpa using hj
  simpa [look, Nat.mod_eq_of_lt hlt] using h (BitVec.ofNat n j)

theorem tablesBounded_iff_within : s.tablesBounded = true ↔ s.Within False True := by
  unfold State.tablesBounded State.Within
  simp only [Bool.and_eq_true, decide_eq_true_eq, List.all_eq_true, forall_mem_table]
  refine ⟨fun ⟨⟨hrq, hpins⟩, hslots⟩ => ⟨nofun, fun _ => ⟨hrq, hpins, fun x e he => ?_⟩⟩, fun ⟨_, htables⟩ => ?_⟩
  · have hslot := hslots x
    rw [he] at hslot
    simpa using hslot
  · obtain ⟨hrq, hpins, hlists⟩ := htables trivial
    refine ⟨⟨hrq, hpins⟩, fun x => ?_⟩
    split
    case h_1 e he => exact decide_eq_true (hlists x e he)
    case h_2 => rfl

namespace State.Within

/-- The waiting list of an entry in use. -/
theorem waiting {x : ReqTag} {e : PrtEntry} (h : s.Within port tables) (he : s.entry x = some e) : tables → e.waiting.length ≤ 4 :=
  fun htables => (h.2 htables).lists x e he

/-- What an operation keeps, it keeps over a list. -/
theorem foldl {α : Type} {f : State → α → State} (hf : ∀ s a, s.Within port tables → (f s a).Within port tables) (h : s.Within port tables)
    (as : List α) : (as.foldl f s).Within port tables := by
  induction as generalizing s with
  | nil => exact h
  | cons a as ih => exact ih (hf s a h)

/-! ### The updates by which a bounded list changes -/

section
variable (h : s.Within port tables)
include h

/-- R165: a record that finds no room is dropped. -/
theorem addFault (r : FaultRecord) : (s.addFault r).Within port tables :=
  ⟨fun hport => ⟨by simpa using (h.1 hport).lrq, addFault_bounded s r (h.1 hport).log⟩, by simpa using h.2⟩

theorem popHead : s.popHead.Within port tables := by
  refine ⟨fun hport => { h.1 hport with lrq := ?_ }, h.2⟩
  have htail : s.popHead.lpu.lrq.length = s.lpu.lrq.length - 1 := List.length_tail
  have hlrq := (h.1 hport).lrq
  omega

theorem joinLrq (r : LocalReq) (hroom : s.lpu.lrq.length < 8) : (s.joinLrq r).Within port tables :=
  ⟨fun hport => { h.1 hport with lrq := by simpa [State.joinLrq] using hroom }, h.2⟩

theorem addRq (l : LineNo) (d : LineData) (ts : List PTag) (hroom : s.rqFree = true) : (s.addRq l d ts).Within port tables := by
  have hlt : s.ret.rq.length < 4 := of_decide_eq_true hroom
  exact ⟨h.1, fun htables => { h.2 htables with rq := by simpa using hlt }⟩

theorem addPin (p : PinEntry) (hroom : s.cache.pins.length < 2) : (s.addPin p).Within port tables :=
  ⟨h.1, fun htables => { h.2 htables with pins := by simpa [State.addPin] using hroom }⟩

theorem removePin (l : LineNo) : (s.removePin l).Within port tables :=
  ⟨h.1, fun htables => { h.2 htables with pins := (List.length_filter_le _ _).trans (h.2 htables).pins }⟩

theorem holdPin (l : LineNo) : (s.holdPin l).Within port tables :=
  ⟨h.1, fun htables => { h.2 htables with pins := (List.length_map _).le.trans (h.2 htables).pins }⟩

theorem setEntry (x : ReqTag) {e : PrtEntry} (he : tables → e.waiting.length ≤ 4) : (s.setEntry x e).Within port tables := by
  refine ⟨h.1, fun htables => { h.2 htables with lists := fun y f hf => ?_ }⟩
  rw [prt_setEntry] at hf
  split at hf
  · cases hf; exact he htables
  · exact h.waiting hf htables

theorem freeEntry (x : ReqTag) : (s.freeEntry x).Within port tables := by
  refine ⟨h.1, fun htables => { h.2 htables with lists := fun y f hf => ?_ }⟩
  rw [prt_freeEntry] at hf
  split at hf
  · cases hf
  · exact h.waiting hf htables

/-! ### The other named operations (Machine/Ops.lean) -/

theorem answerFlushes (ts : List PTag) : (s.answerFlushes ts).Within port tables := h.foldl (fun _ _ h => by exact h) ts

theorem removeRq (l : LineNo) : (s.removeRq l).Within port tables := by
  unfold State.removeRq
  split
  · refine answerFlushes ?_ _
    exact ⟨h.1, fun htables => { h.2 htables with rq := (List.length_filter_le _ _).trans (h.2 htables).rq }⟩
  · exact h

theorem idle : s.idle.Within port tables := h

theorem startPort : s.startPort.Within port tables := by unfold State.startPort; split <;> exact h

theorem createOrSet (l : LineNo) (c : ExportClass) : (s.createOrSet l c).Within port tables := by
  unfold State.createOrSet; split <;> exact h

end

/-! ### Enrolment (Machine/Roll.lean) -/

section
variable (h : s.Within port tables)
include h

theorem notePeer (n : StationNo) : (s.notePeer n).Within port tables := by
  unfold State.notePeer
  split
  · exact h
  · exact addFault (s := { s with bus.latePeers := s.bus.latePeers.add n }) h _

theorem isolate (r : FaultRecord) : (s.isolate r).Within port tables := h.addFault r

theorem joinRoll : s.joinRoll.Within port tables := by
  unfold State.joinRoll
  split
  · exact h.isolate _
  · split
    · exact h.isolate _
    · exact h

theorem queueReady : s.queueReady.Within port tables := by unfold State.queueReady; split <;> exact h

theorem applyClaim (n : StationNo) (i : Nat) (c : Claim) : (s.applyClaim n i c).Within port tables := by
  unfold State.applyClaim
  dsimp only
  split
  · exact h
  · exact h
  · split
    · refine addFault ?_ _
      exact h
    · exact h

theorem applyClaims (n : StationNo) (i : Nat) (cs : List Claim) : (s.applyClaims n i cs).Within port tables := by
  induction cs generalizing s i with
  | nil => exact h
  | cons c cs ih => exact ih (h.applyClaim n i c) (i + 1)

theorem recordAnnounce (n : StationNo) (f : BitVec 4) (cs : List Claim) (own : Bool) :
    (s.recordAnnounce n f cs own).Within port tables := by
  unfold State.recordAnnounce
  have hclaims := applyClaims (s := { s with ctl.roll.announced := put s.ctl.roll.announced n (some (f.toNat + 1)) }) h n 0 cs
  dsimp only
  split <;> exact hclaims

theorem takeAnnounce (n : StationNo) (f : BitVec 4) (cs : List Claim) (own : Bool) : (s.takeAnnounce n f cs own).Within port tables := by
  unfold State.takeAnnounce
  split
  case isFalse => exact h
  split
  · split
    · exact h.notePeer n
    · exact h
  split
  · exact h
  split
  · exact h.isolate _
  split
  · exact queueReady (s := s.contestNumber n) h
  · exact (h.recordAnnounce n f cs own).queueReady

theorem checkOperational : s.checkOperational.Within port tables := by unfold State.checkOperational; split <;> exact h

theorem enrolReady (n : StationNo) (set : StationSet) : (s.enrolReady n set).Within port tables := by
  have hclosed : s.closeRoll.Within port tables := by unfold State.closeRoll; split <;> exact h
  have hcounted : (s.closeRoll.countReady n).Within port tables := by unfold State.countReady; split <;> exact hclosed
  unfold State.enrolReady
  dsimp only
  split
  · exact hclosed.isolate _
  · split
    · exact hclosed.isolate _
    · exact hcounted.queueReady.checkOperational

theorem takeReady (n : StationNo) (set : StationSet) : (s.takeReady n set).Within port tables := by
  unfold State.takeReady
  split
  case h_2 => exact h.enrolReady n set
  all_goals exact h

theorem expireEnrolment : s.expireEnrolment.Within port tables := by
  unfold State.expireEnrolment
  split
  · split
    · exact h.isolate _
    · exact queueReady (s := { s with ctl.roll.limitPassed := true, ctl.roll.timer := none }) h
  · exact h

end

end State.Within

/-! ### What a judgement finds room for (R24, R64, R114, R127, R134, R136) -/

/-- The Pin Table has room for the pin that a Pinned Read makes. -/
def State.PinRoom (s : State) (d : Decoded) : Prop := d.item.op = .pinnedRead → s.cache.pins.length < 2

/-- The waiting list of an entry has room for one more request. -/
def State.ListRoom (s : State) (x : ReqTag) : Prop := ∀ e, s.entry x = some e → e.waiting.length < 4

/-- There is room for what an action of the head adds to. -/
def State.RoomFor (s : State) (d : Decoded) : HeadAction → Prop
  | .pinnedHit _ => s.PinRoom d
  | .makePromote _ => s.PinRoom d
  | .pinnedHomeRead => s.PinRoom d
  | .attach x => s.PinRoom d ∧ s.ListRoom x
  | .attachRecall x => s.ListRoom x
  | .makeMiss _ w => s.PinRoom d ∧ ((∃ k x, s.wayAt d.line w = .holding k .altered x) → s.rqFree = true)
  | .flushAltered _ _ => s.rqFree = true
  | .waits | .refuse _ | .readHit _ | .writeHit _ | .pinRelease _ | .makeDirect _ | .homeWork | .pinReleaseHome | .recall | .pinRecall
  | .flushJoin | .flushDrop _ | .flushNothing => True

section
variable {d : Decoded}

theorem pinRoom_of_op (h : d.item.op ≠ .pinnedRead) : s.PinRoom d := fun hop => absurd hop h

theorem listRoom_of_attaches {x : ReqTag} {e : PrtEntry} {op : LocalOp} (he : s.entry x = some e) (h : s.attaches e op = true) :
    s.ListRoom x := by
  intro f hf
  obtain rfl := Option.some.inj (he.symm.trans hf)
  simp only [State.attaches, Bool.and_eq_true, decide_eq_true_eq] at h
  obtain ⟨⟨⟨⟨_, hlen⟩, _⟩, _⟩, _⟩ := h
  exact hlen

theorem judgeMiss_roomFor (kind : PrtKind) (hpin : s.PinRoom d) : s.RoomFor d (s.judgeMiss d.line kind) := by
  unfold State.judgeMiss
  split
  · trivial
  · split
    · split
      · exact ⟨hpin, fun _ => ‹_›⟩
      · trivial
    all_goals
      refine ⟨hpin, fun ⟨k, x, hway⟩ => ?_⟩
      simp_all

theorem judgeCached_roomFor (write : Bool) {hit : WayNo → HeadAction} (hpin : s.PinRoom d) (hhit : ∀ w, s.RoomFor d (hit w)) :
    s.RoomFor d (s.judgeCached d write hit) := by
  unfold State.judgeCached
  split
  · split
    · split
      · exact ⟨hpin, listRoom_of_attaches ‹_› ‹_›⟩
      · trivial
    · trivial
  · split
    · trivial
    split
    · trivial
    split
    · split
      · exact hpin
      · trivial
    · split
      · exact hhit _
      · trivial
    · split
      · exact hhit _
      · trivial
    · exact judgeMiss_roomFor _ hpin

theorem judgePinnedRead_roomFor : s.RoomFor d (s.judgePinnedRead d) := by
  unfold State.judgePinnedRead
  split
  · trivial
  split
  · trivial
  case isFalse hpins =>
    have hroom : s.PinRoom d := fun _ => not_le.mp hpins
    split
    · trivial
    · exact judgeCached_roomFor true hroom fun _ => hroom

theorem judgePinnedWrite_roomFor (hop : d.item.op = .pinnedWrite) : s.RoomFor d (s.judgePinnedWrite d) := by
  have hpin : s.PinRoom d := pinRoom_of_op (by simp [hop])
  unfold State.judgePinnedWrite
  split
  · trivial
  split
  · trivial
  split
  · split
    · trivial
    · split <;> trivial
  · split
    · split
      · split
        · exact ⟨hpin, listRoom_of_attaches ‹_› ‹_›⟩
        · trivial
      · trivial
    · trivial

theorem judgeFlush_roomFor : s.RoomFor d (s.judgeFlush d) := by
  unfold State.judgeFlush
  iterate 5
    split
    · trivial
  split
  · split
    · exact ‹s.rqFree = true›
    · trivial
  all_goals trivial

theorem judgeRemote_roomFor : s.RoomFor d (s.judgeRemote d) := by
  unfold State.judgeRemote
  split
  case h_1 hop =>
    split
    · trivial
    · exact judgeCached_roomFor false (pinRoom_of_op (by simp [hop])) fun _ => trivial
  case h_2 hop =>
    split
    · trivial
    · exact judgeCached_roomFor true (pinRoom_of_op (by simp [hop])) fun _ => trivial
  case h_3 => exact judgePinnedRead_roomFor
  case h_4 hop => exact judgePinnedWrite_roomFor hop
  case h_5 => exact judgeFlush_roomFor

theorem judgeAttachRecall_roomFor (l : LineNo) : s.RoomFor d (s.judgeAttachRecall l) := by
  unfold State.judgeAttachRecall
  split
  · split
    case h_1 x _ e he =>
      split
      case isTrue hroom =>
        intro f hf
        obtain rfl := Option.some.inj (he.symm.trans hf)
        exact hroom.2.1
      · trivial
    · trivial
  · trivial

theorem judgeHomePlain_roomFor : s.RoomFor d (s.judgeHomePlain d) := by
  have hwork : s.RoomFor d s.judgeHomeWork := by unfold State.judgeHomeWork; split <;> trivial
  have hrecall : s.RoomFor d s.judgeRecall := by unfold State.judgeRecall; split <;> trivial
  unfold State.judgeHomePlain
  split
  · trivial
  split
  · exact hwork
  split
  · trivial
  split
  · split
    · exact hwork
    · exact hrecall
  · exact hrecall
  · exact judgeAttachRecall_roomFor _

theorem judgeHomePinnedRead_roomFor : s.RoomFor d (s.judgeHomePinnedRead d) := by
  unfold State.judgeHomePinnedRead
  split
  · trivial
  split
  · trivial
  case isFalse hpins =>
    split
    · trivial
    split
    · split
      · exact fun _ => not_le.mp hpins
      · trivial
    · split <;> trivial

theorem judgeHomePinnedWrite_roomFor : s.RoomFor d (s.judgeHomePinnedWrite d) := by
  unfold State.judgeHomePinnedWrite
  (repeat' split) <;> trivial

/-- A head is started only where there is room for what its action adds. -/
theorem judgeHead_roomFor (s : State) (d : Decoded) : s.RoomFor d (s.judgeHead d) := by
  unfold State.judgeHead
  split
  · exact judgeRemote_roomFor
  · unfold State.judgeDirect
    (repeat' split) <;> trivial
  · unfold State.judgeHome
    split
    · exact judgeHomePlain_roomFor
    · exact judgeHomePlain_roomFor
    · exact judgeHomePinnedRead_roomFor
    · exact judgeHomePinnedWrite_roomFor
    · trivial

end

namespace State.Within

/-! ### The LRQ head (Machine/Head.lean) -/

section
variable (h : s.Within port tables)
include h

theorem pendPin {d : Decoded} (l : LineNo) (path : PinPath) (hroom : s.PinRoom d) : (s.pendPin d.item l path).Within port tables := by
  unfold State.pendPin
  split
  case isTrue hop => exact h.addPin _ (hroom hop)
  case isFalse => exact h

theorem attachItem {x : ReqTag} (i : Item) (hroom : s.ListRoom x) : (s.attachItem x i).Within port tables := by
  unfold State.attachItem
  split
  case h_1 e he => exact h.setEntry x fun _ => by simpa using hroom e he
  case h_2 => exact h

/-- A new entry's list holds the request that made it, or none (R62). -/
theorem makeAtFree (kind : PrtKind) (l : LineNo) (w : Option WayNo) (is : List Item) (o : Origin) (his : is.length ≤ 4) :
    (s.makeAtFree (.fresh kind l w is o)).Within port tables := by
  unfold State.makeAtFree
  split
  case h_1 x _ => exact h.setEntry x (e := .fresh kind l w is o) fun _ => his
  case h_2 => exact h

theorem evict (l : LineNo) (w : WayNo) (hroom : (∃ k x, s.wayAt l w = .holding k .altered x) → s.rqFree = true) :
    (s.evict l w).Within port tables := by
  unfold State.evict
  dsimp only
  split
  case h_1 k x hway => exact h.addRq k x [] (hroom ⟨k, x, hway⟩)
  all_goals exact h

theorem actHead {d : Decoded} {a : HeadAction} (hroom : s.RoomFor d a) : (s.actHead d a).Within port tables := by
  cases a with
  | waits | refuse | readHit | writeHit | homeWork | flushDrop | flushNothing => exact h
  | pinnedHit w => exact (pendPin (s := s.serveRead d.line w d.item) h d.line .remote hroom).holdPin d.line
  | pinRelease w => exact removePin (s := s.mergeWay d.line w d.item) h d.line
  | attach x =>
    obtain ⟨hpin, hlist⟩ := hroom
    refine (h.attachItem d.item hlist).pendPin d.line .remote fun hop => ?_
    unfold State.attachItem
    split <;> exact hpin hop
  | makePromote w =>
    refine pendPin (s := (s.makeAtFree _).touch d.line w) (h.makeAtFree .promote d.line (some w) [d.item] .request (by simp)) d.line .remote
      fun hop => ?_
    unfold State.makeAtFree
    split <;> exact hroom hop
  | makeMiss kind w =>
    obtain ⟨hpin, hrq⟩ := hroom
    refine ((h.evict d.line w hrq).makeAtFree kind d.line (some w) [d.item] .request (by simp)).pendPin d.line .remote fun hop => ?_
    unfold State.makeAtFree State.evict
    split <;> dsimp only <;> split <;> exact hpin hop
  | makeDirect kind => exact h.makeAtFree kind d.line none [d.item] .request (by simp)
  | pinnedHomeRead => exact pendPin (s := s.addItemWork d.line d.item) h d.line .home hroom
  | pinReleaseHome => exact removePin (s := s.addItemWork d.line d.item) h d.line
  | pinRecall => exact h.makeAtFree .recall d.line none [] .pin (by simp)
  | attachRecall x => exact h.attachItem d.item hroom
  | flushJoin => exact ⟨h.1, fun htables => { h.2 htables with rq := (List.length_map _).le.trans (h.2 htables).rq }⟩
  | flushAltered w x => exact addRq (s := s.setWay d.line w .empty) h d.line x [d.item.tag] hroom
  | _ => -- `HeadAction.recall`, whose bare name is a keyword of Mathlib
    exact h.makeAtFree .recall d.line none [d.item] .request (by simp)

theorem startHead (d : Decoded) : (s.startHead d).1.Within port tables := by
  have hacted := h.actHead (judgeHead_roomFor s d)
  unfold State.startHead
  dsimp only
  split
  · exact h
  · split
    · exact hacted.popHead
    · exact hacted

theorem refuseDecode (r : LocalReq) (st : Status) (p : Payload) : (s.refuseDecode r st p).Within port tables := by
  unfold State.refuseDecode
  split
  · exact h.addFault r.unmappedRecord
  · exact h

theorem headOnce : s.headOnce.1.Within port tables := by
  unfold State.headOnce
  split
  · exact h
  case h_2 r _ _ =>
    split
    case h_1 d _ => exact h.startHead d
    case h_2 =>
      split
      case h_1 st p _ => exact (h.refuseDecode r st p).popHead
      case h_2 => exact h.popHead
      case h_3 d _ => exact startHead (s := { s with lpu.head := some d }) h d

theorem recheckHead : s.recheckHead.Within port tables := by
  unfold State.recheckHead
  split
  · exact h.popHead
  · exact h

/-! ### What follows in the same event (Machine/Settle.lean) -/

theorem placeAbandoned (x : ReqTag) {e : PrtEntry} (f : Follower) (he : tables → e.waiting.length ≤ 4) :
    (s.placeAbandoned x e f).Within port tables := by
  have hplaced : (s.addSq (abandonedMsg e.line f) false).Within port tables := h
  unfold State.placeAbandoned
  dsimp only
  split
  · exact hplaced.freeEntry x
  · exact hplaced.setEntry x (e := { e with follower := none, owes := .nothing }) he

theorem handOff (x : ReqTag) (e : PrtEntry) (f : Follower) (w : WayNo) : (s.handOff x e f w).Within port tables :=
  freeEntry (s := State.setWay _ e.line w _) h x

theorem placePrt (x : ReqTag) : (s.placePrt x).Within port tables := by
  unfold State.placePrt
  split
  · exact h
  case h_2 e he =>
    split
    · exact h.handOff x e _ _
    · exact h
    · exact h.placeAbandoned x _ (h.waiting he)
    · exact h
    · exact h

theorem popHwq : s.popHwq.Within port tables := by rw [popHwq_eq]; exact h

theorem placeHome : s.placeHome.Within port tables := by
  unfold State.placeHome
  split
  · split
    case h_1 m _ => exact popHwq (s := s.addSq m false) h
    case h_2 => exact h
  all_goals exact h

theorem giveOne : s.giveOne.Within port tables := by
  unfold State.giveOne
  split
  · exact h
  case h_2 a rest _ =>
    have hrest : ({ s with bus.askers := rest } : State).Within port tables := h
    split
    · cases a with
      | prt x => exact hrest.placePrt x
      | home => exact hrest.placeHome
    · exact h

theorem givePlaces (n : Nat) : (State.givePlaces n s).Within port tables := by
  induction n generalizing s with
  | zero => exact h
  | succ n ih =>
    unfold State.givePlaces
    split
    · exact h
    · exact ih h.giveOne

theorem emptyCopy (l : LineNo) : (s.emptyCopy l).Within port tables := by unfold State.emptyCopy; split <;> exact h

theorem convertOne : s.convertOne.Within port tables := by
  unfold State.convertOne
  split
  case h_1 e _ =>
    split
    case isTrue hroom =>
      have hmoved := (h.addRq e.msg.line (e.msg.data.getD (fill 6 0)) [] hroom).emptyCopy e.msg.line
      refine addFault ?_ _
      exact hmoved
    case isFalse => exact h
  case h_2 => exact h

theorem convertAll (n : Nat) : (State.convertAll n s).Within port tables := by
  induction n generalizing s with
  | zero => exact h
  | succ n ih =>
    unfold State.convertAll
    split
    · exact ih h.convertOne
    · exact h

theorem victimOne : s.victimOne.Within port tables := by
  unfold State.victimOne
  split
  case h_1 l _ _ _ => exact h.makeAtFree .recall l none [] .victim (by simp)
  all_goals exact h

theorem allocate (n : Nat) (headWaits victimWaits judge : Bool) : (s.allocate n headWaits victimWaits judge).Within port tables := by
  induction n generalizing s headWaits victimWaits judge with
  | zero => exact h
  | succ n ih =>
    unfold State.allocate
    split
    · split
      · split
        · split
          · exact ih (s := State.setTurn _ .victim) h.headOnce _ _ _
          · exact ih (s := State.setTurn _ .lrq) h.victimOne _ _ _
        · exact ih h.headOnce _ _ _
      · exact ih h.victimOne _ _ _
    · split
      · split
        · exact ih h.headOnce _ _ _
        · exact h.headOnce
      · exact h

theorem walkFrom (n p : Nat) : (s.walkFrom n p).Within port tables := by
  induction n generalizing s p with
  | zero => exact h
  | succ n ih =>
    have hemptied : (s.walkEmpty p).Within port tables := h
    unfold State.walkFrom
    split
    · exact ih h _
    · exact h
    · split
      · exact h
      split
      · exact ih hemptied _
      · exact ih hemptied _
      · split
        case isTrue hroom => exact ih (hemptied.addRq _ _ [] hroom) _
        case isFalse => exact h

theorem runWalk : s.runWalk.Within port tables := by
  unfold State.runWalk
  split
  · split
    · split
      · exact h.walkFrom 2048 0
      · exact h
    · exact h.walkFrom _ _
    · exact h
  · exact h

theorem enterQuiesced : s.enterQuiesced.Within port tables := by unfold State.enterQuiesced; split <;> exact h

theorem settle (s0 : State) (j : Judged) : (s.settle s0 j).Within port tables :=
  ((((h.convertAll _).givePlaces _).startPort.allocate _ _ _ _).runWalk).startPort.enterQuiesced

/-! ### The Request Engine (Machine/Engine.lean) -/

theorem serve (l : LineNo) (w : WayNo) (is : List Item) : (s.serve l w is).Within port tables := by
  refine h.foldl (fun s i h => ?_) is
  unfold State.serveItem
  split
  case h_3 => exact holdPin (s := s.serveRead l w i) h l
  case h_4 =>
    split
    · split
      · exact removePin (s := s.mergeWay l w i) h l
      · exact h
    · exact h
  all_goals exact h

theorem answerAll (is : List Item) (st : Status) : (s.answerAll is st).Within port tables := h.foldl (fun _ _ h => by exact h) is

theorem dropPendingPin (e : PrtEntry) : (s.dropPendingPin e).Within port tables := by
  unfold State.dropPendingPin
  split
  · exact h.removePin e.line
  · exact h

theorem emptyReserved (e : PrtEntry) : (s.emptyReserved e).Within port tables := by unfold State.emptyReserved; split <;> exact h

theorem recallFails (x : ReqTag) (e : PrtEntry) (st : Status) : (s.recallFails x e st).Within port tables := by
  unfold State.recallFails
  split
  · have hnone : (s.changeExport e.line fun y => { y with state := .none }).Within port tables := h
    dsimp only
    split
    · split
      · exact hnone.popHead
      · exact hnone
    · exact hnone
  · exact h

theorem abandonOrFree (x : ReqTag) (e : PrtEntry) : (s.abandonOrFree x e).Within port tables := by
  cases hf : e.follower with
  | some f =>
    rw [abandonOrFree_some hf]
    exact h.setEntry x (e := e.ended) fun _ => Nat.zero_le 4
  | none =>
    rw [State.abandonOrFree, hf]
    exact h.freeEntry x

theorem endEntry (x : ReqTag) (e : PrtEntry) (st : Status) : (s.endEntry x e st).Within port tables :=
  ((((h.answerAll e.waiting st).dropPendingPin e).emptyReserved e).recallFails x e st).abandonOrFree x e

theorem exhaust (x : ReqTag) (e : PrtEntry) : (s.exhaust x e).Within port tables := (h.addFault _).endEntry x e _

theorem timeOut (x : ReqTag) (e : PrtEntry) : (s.timeOut x e).Within port tables := (h.addFault _).endEntry x e _

theorem completePromote (x : ReqTag) (e : PrtEntry) (w : WayNo) : (s.completePromote x e w).Within port tables := by
  refine (serve ?_ e.line w e.waiting).freeEntry x
  exact h

theorem completeRecall (x : ReqTag) (e : PrtEntry) : (s.completeRecall x e).Within port tables := by
  have hworks : (e.waiting.foldl (fun s i => s.addItemWork e.line i) (s.removeExport e.line)).Within port tables :=
    foldl (fun _ _ h => by exact h) (s := s.removeExport e.line) h e.waiting
  unfold State.completeRecall
  dsimp only
  split
  · refine freeEntry ?_ x
    exact hworks
  · exact hworks.freeEntry x

theorem afterServing (x : ReqTag) (e : PrtEntry) (w : WayNo) (fromHome : Bool) : (s.afterServing x e w fromHome).Within port tables := by
  have hdropped : (if e.dropAfterUse then s.setWay e.line w .empty else s).Within port tables := by split <;> exact h
  unfold State.afterServing
  dsimp only
  split
  · exact hdropped.setEntry x fun _ => Nat.zero_le 4
  · exact hdropped.freeEntry x

theorem takeLine (x : ReqTag) (e : PrtEntry) (g : Grant) (d : LineData) (sender : StationNo) :
    (s.takeLine x e g d sender).Within port tables := by
  unfold State.takeLine
  split
  case h_1 st w _ _ =>
    refine (serve ?_ e.line w e.waiting).afterServing x e w _
    exact h
  all_goals exact h.endEntry x e _

theorem takeDirect (x : ReqTag) (e : PrtEntry) (d : LineData) : (s.takeDirect x e d).Within port tables :=
  (h.foldl (fun _ _ h => by exact h) e.waiting).freeEntry x

theorem takeRecall (x : ReqTag) (e : PrtEntry) (d : LineData) : (s.takeRecall x e d).Within port tables :=
  completeRecall (s := s.addLineWork (.recallWrite e.line d)) h x e

end

/-! What an entry's own window and its data come to: the entry keeps its list, or ends. -/

section
variable (h : s.Within port tables) (x : ReqTag) {e : PrtEntry} (he : tables → e.waiting.length ≤ 4)
include h he

theorem cancelEntry : (s.cancelEntry x e).Within port tables := by
  unfold State.cancelEntry
  dsimp only
  split
  · exact h.exhaust x _
  · exact h.setEntry x he

theorem awaitData (g : Grant) : (s.awaitData x e g).Within port tables := h.setEntry x he

theorem ownResult (c : AnswerCode) : (s.ownResult x e c).Within port tables := by
  unfold State.ownResult
  split
  · exact h.awaitData x he _
  · exact h.awaitData x he _
  · split
    case h_1 w _ =>
      split
      · exact h.completePromote x e w
      · exact awaitData (s := s.setWay e.line w (.reserved e.line)) h x (e := { e with kind := .claim }) he .sole
    case h_2 => exact h
  · exact (h.answerAll e.waiting .ok).freeEntry x
  · exact h.awaitData x he _
  · split
    · exact h.completeRecall x e
    · exact h.awaitData x he _

theorem takeAbandoned : (s.takeAbandoned x e).Within port tables := by
  unfold State.takeAbandoned
  dsimp only
  split
  · exact h.exhaust x _
  · split <;> exact h.setEntry x he

theorem takeMessage (m : DataMsg) (sender : StationNo) : (s.takeMessage x e m sender).Within port tables := by
  unfold State.takeMessage
  split
  · exact h.takeAbandoned x he
  · split
    · exact h
    · exact h.endEntry x e _
  · dsimp only
    split
    · exact h.takeLine x e _ _ _
    · exact h.takeLine x e _ _ _
    · exact h.takeLine x e _ _ _
    · exact h.takeDirect x e _
    · exact h.takeDirect x e _
    · exact h.takeRecall x e _

end

section
variable (h : s.Within port tables)
include h

theorem destinationTakes (sender : StationNo) (m : DataMsg) : (s.destinationTakes sender m).2.Within port tables := by
  have hstray := h.addFault (strayRecord m.line sender)
  unfold State.destinationTakes
  dsimp only
  split
  · exact hstray
  split
  · exact hstray
  case h_2 e he =>
    split
    · split
      · split
        · exact h
        · exact h.takeMessage m.tag (h.waiting he) m sender
      · split
        · exact h
        · exact hstray
      · exact hstray
    · exact hstray

theorem expireData (x : ReqTag) : (s.expireData x).Within port tables := by
  unfold State.expireData
  split
  · exact h
  case h_2 e he =>
    split
    · split
      · have hlist := h.waiting he
        exact h.setEntry x hlist
      · exact h.timeOut x e
    · exact h

theorem takeHeldExpiries : s.takeHeldExpiries.Within port tables := by
  refine h.foldl (fun s x h => ?_) allTags
  unfold State.takeHeldExpiry
  split
  · split
    · exact h.timeOut x _
    · exact h
  · exact h

/-! ### The close of an answer window (Machine/Snoop.lean, Machine/BusEvents.lean) -/

theorem closeCache (rec : Recorded) (k : LineKind) (dest : StationNo) (x : ReqTag) (g : Gen) (l : LineNo) :
    (s.closeCache rec k dest x g l).Within port tables := by
  unfold State.closeCache
  split
  · exact h
  · dsimp only
    split <;> split <;> exact h

theorem closeTakeover (rec : Recorded) (k : LineKind) (dest : StationNo) (x : ReqTag) (g : Gen) (l : LineNo) :
    (s.closeTakeover rec k dest x g l).Within port tables := by
  unfold State.closeTakeover
  split
  · split
    · exact removeRq (s := s.addSq _ true) h l
    · exact h
  · exact h

theorem changeEntry (x : ReqTag) {f : PrtEntry → PrtEntry} (hf : ∀ e, (f e).waiting = e.waiting) :
    (s.changeEntry x f).Within port tables := by
  unfold State.changeEntry
  split
  case h_1 e he => exact h.setEntry x (by rw [hf e]; exact h.waiting he)
  case h_2 => exact h

theorem convertPromote (x : ReqTag) : (s.convertPromote x).Within port tables := by
  unfold State.convertPromote
  split
  case h_1 e he =>
    have hlist := h.waiting he
    have hclaim : (s.setEntry x { e with kind := .claim }).Within port tables := h.setEntry x hlist
    dsimp only
    split <;> exact hclaim
  case h_2 => exact h

theorem closeEngine (rec : Recorded) (c : AnswerCode) (k : LineKind) (sender : StationNo) (x : ReqTag) (g : Gen) :
    (s.closeEngine rec c k sender x g).Within port tables := by
  unfold State.closeEngine
  split
  · exact h
  · exact h.changeEntry _ fun _ => rfl
  · exact h.changeEntry _ fun _ => rfl
  · exact h.convertPromote _
  · split
    · exact h.changeEntry _ fun _ => rfl
    · exact h

theorem homeChange (sender : StationNo) (r : Request) (c : AnswerCode) : (s.homeChange sender r c).Within port tables := by
  unfold State.homeChange
  split
  · split <;> exact h.createOrSet _ _
  · split <;> exact h.createOrSet _ _
  · exact h.createOrSet _ _
  · exact h
  · unfold State.returnSettles
    (repeat' split) <;> exact h
  all_goals exact h

theorem applyPeer (sender : StationNo) (r : Request) (rec : Recorded) (c : AnswerCode) :
    (s.applyPeer sender r rec c).Within port tables := by
  have hhome : ∀ u : State, u.Within port tables → (if rec.home then u.homeChange sender r c else u).Within port tables := fun u hu => by
    split
    · exact hu.homeChange sender r c
    · exact hu
  refine hhome _ ?_
  split
  · exact ((h.closeCache rec _ sender _ _ _).closeTakeover rec _ sender _ _ _).closeEngine rec c _ sender _ _
  all_goals exact h

theorem applyOwn (item : SendItem) (c : AnswerCode) : (s.applyOwn item c).Within port tables := by
  unfold State.applyOwn
  split
  · split
    case h_1 x _ e he =>
      split
      · exact h.cancelEntry x (h.waiting he)
      · exact h.ownResult x (h.waiting he) c
    case h_2 => exact h
  · split
    · split <;> exact h
    · exact h.removeRq _
  all_goals exact h

theorem closeWindow (w : Window) (c : AnswerCode) : (s.closeWindow w c).Within port tables := by
  unfold State.closeWindow
  refine (takeHeldExpiries ?_).idle
  split
  · exact h.applyOwn _ c
  · split
    · exact h
    · exact h.applyPeer _ _ _ c
  · exact h

theorem requeueOwn (own : Option SendItem) : (s.requeueOwn own).Within port tables := by
  unfold State.requeueOwn; (repeat' split) <;> exact h

theorem closeAny (w : Window) (c : AnswerCode) : (s.closeAny w c).Within port tables := by
  unfold State.closeAny
  split
  case h_1 n f cs _ =>
    cases c with
    | clear => exact h.takeAnnounce n f cs w.own.isSome
    | void | again => exact h.requeueOwn w.own
    | shared | supply | follow => exact h
  case h_2 n set _ =>
    cases c with
    | clear => exact h.takeReady n set
    | void | again => exact h.requeueOwn w.own
    | shared | supply | follow => exact h
  all_goals exact h.closeWindow w c

theorem closeAnswer {kind : WindowKind} {driven : Table (BitVec 3) 4} (hnext : s.closeAnswer kind driven = .next t) :
    t.Within port tables := by
  unfold State.closeAnswer at hnext
  split at hnext
  case h_1 => cases hnext; exact h
  case h_2 w _ =>
    split at hnext
    · cases hnext; exact (h.closeAny w _).settle s .all
    · cases hnext
  all_goals cases hnext

/-! ### Sending, arrivals and acknowledgements (Machine/Bus.lean) -/

theorem send (c : ContenderClass) : (s.send c).Within port tables := by
  unfold State.send State.sendData State.sendRequest
  (repeat' split) <;> exact h

theorem contend (peers : List Contender) (d : Declared) : (s.contend peers d).Within port tables := by
  unfold State.contend
  dsimp only
  split
  · exact h
  case h_2 w _ =>
    split
    · exact send (s := { s with bus.lastWinner := w.number }) h w.cls
    · exact h

theorem markForRequest (r : Request) : (s.markForRequest r).Within port tables := by
  have hmark : ∀ l, (s.markVictim l).Within port tables := fun l => by unfold State.markVictim; split <;> exact h
  unfold State.markForRequest
  split
  case h_1 | h_2 | h_3 =>
    split
    · exact hmark _
    · exact h
  all_goals exact h

theorem memberArrival (sender : StationNo) (r : Request) : (s.memberArrival sender r).Within port tables := by
  unfold State.memberArrival
  split
  · exact h.notePeer sender
  · unfold State.judgeArrival
    split
    · exact h.markForRequest r
    · exact h

theorem peerArrival (msg : Option (StationNo × Request)) : (s.peerArrival msg).Within port tables := by
  unfold State.peerArrival
  split
  · exact h
  · split
    · exact h
    · split <;> exact h
  · split
    · exact h
    · split
      · exact h
      · exact h.isolate _
  · exact h
  all_goals
    split
    · exact h
    · exact h.memberArrival _ _

theorem homePart (sender : StationNo) (m : DataMsg) : (s.homePart sender m).2.Within port tables := by
  unfold State.homePart State.homeTakes State.abandonedAtHome
  dsimp only
  (repeat' split) <;> exact h

theorem destPart (sender : StationNo) (m : DataMsg) : (s.destPart sender m).2.Within port tables := by
  unfold State.destPart
  split
  · exact h.destinationTakes sender m
  · exact h

theorem peerData (msg : Option (StationNo × DataMsg)) : (s.peerData msg).Within port tables := by
  have hmember : ∀ n m, (s.memberData n m).Within port tables := fun n m =>
    settle (s := State.openAck _ _ _ _ _) ((h.destPart n m).homePart n m) _ _
  unfold State.peerData
  split
  · exact h
  · exact h
  · split
    · exact h
    · exact h.isolate _
  · exact h
  all_goals
    split
    · exact h
    · exact hmember _ _

theorem failedRecords (e : SqEntry) : (s.failedRecords e).Within port tables := by
  have hrecord : ∀ u : State, ∀ (b : Prop) [Decidable b], ∀ r, u.Within port tables → (if b then u.addFault r else u).Within port tables :=
    fun u b _ r hu => by
      split
      · exact hu.addFault r
      · exact hu
  exact hrecord _ _ _ (hrecord s _ _ h)

theorem senderAck (read : Option SqEntry) : (s.senderAck read).1.Within port tables := by
  unfold State.senderAck State.endDelivery
  split
  · exact h
  · split
    · split
      · split <;> exact h
      · exact failedRecords (s := s.dropSqHead) h _
    · exact h

theorem closeAck (a : AckWindow) (dest home : BitVec 3) : (s.closeAck a dest home).Within port tables :=
  settle (s := State.idle _) (h.senderAck _) _ _

/-! ### The control window and the local port (Machine/Registers.lean, Machine/LocalPort.lean) -/

theorem popLog (tag : PTag) : (s.popLog tag).Within port tables := by
  unfold State.popLog
  split
  case h_1 r rest hlog =>
    refine ⟨fun hport => { h.1 hport with log := ?_ }, h.2⟩
    have hlen := (h.1 hport).log
    rw [hlog] at hlen
    exact (Nat.le_succ _).trans hlen
  case h_2 => exact h

theorem clearLog (tag : PTag) : (s.clearLog tag).Within port tables :=
  ⟨fun hport => { h.1 hport with log := Nat.zero_le 8 }, h.2⟩

theorem doJoin (tag : PTag) : (s.doJoin tag).Within port tables := by
  unfold State.doJoin
  split
  · exact h
  · split
    · exact h
    · exact h.joinRoll

theorem doQuiesce (tag : PTag) : (s.doQuiesce tag).Within port tables := by
  unfold State.doQuiesce
  split
  · exact (recheckHead (s := (s.enterMode .quiescing).reply tag .ok .none) h).settle s .byChange
  · exact h

theorem doResume (tag : PTag) : (s.doResume tag).Within port tables := by unfold State.doResume; split <;> exact h

theorem writeCommand (tag : PTag) (v : BitVec 64) : (s.writeCommand tag v).Within port tables := by
  unfold State.writeCommand
  split
  · exact h.doJoin tag
  split
  · exact h.doQuiesce tag
  split
  · exact h.doResume tag
  split
  · exact h.clearLog tag
  · exact h

theorem controlWrite (tag : PTag) (o : BitVec 12) (v : BitVec 64) : (s.controlWrite tag o v).Within port tables := by
  have hstart : ∀ x, (s.writeStart tag x v).Within port tables := fun x => by unfold State.writeStart; split <;> exact h
  unfold State.controlWrite
  split
  case h_1 | h_2 | h_4 | h_5 | h_13 => exact h
  case h_3 => exact h.writeCommand tag v
  all_goals exact hstart _

theorem controlRead (tag : PTag) (o : BitVec 12) : (s.controlRead tag o).Within port tables := by
  unfold State.controlRead
  split
  case h_4 => exact h.popLog tag
  all_goals exact h

theorem control (tag : PTag) {effect : State → State} (heffect : (effect s).Within port tables) :
    (s.control tag effect).Within port tables := by
  unfold State.control
  split
  · exact h
  · exact heffect

theorem controlRequest (tag : PTag) (code : BitVec 3) (o : BitVec 12) (len : BitVec 6) (data : List Byte) :
    (s.controlRequest tag code o len data).Within port tables := by
  refine h.control tag ?_
  split
  · exact h
  split
  · exact h.controlRead tag o
  split
  · exact h.controlWrite tag o _
  · exact h

/-- R157: the fourth check of acceptance is the room of the LRQ. -/
theorem acceptPool (r : LocalReq) : (s.acceptPool r).Within port tables := by
  unfold State.acceptPool
  split
  · exact h
  case h_2 hnone =>
    have hroom : s.lpu.lrq.length < 8 := by
      by_contra hfull
      have hplaces : Config.lrqPlaces ≤ s.lpu.lrq.length := not_lt.mp hfull
      unfold State.acceptRefusal at hnone
      rw [if_pos hplaces] at hnone
      (repeat' split at hnone) <;> cases hnone
    have hjoined := h.joinLrq r hroom
    split
    · exact hjoined.settle s .all
    · exact hjoined

theorem acceptLocal (tag : PTag) (code : BitVec 3) (addr : LocalAddr) (len : BitVec 6) (data : List Byte) :
    (s.acceptLocal tag code addr len data).Within port tables := by
  unfold State.acceptLocal
  split
  · exact h.controlRequest tag code _ len data
  · exact h.acceptPool _
  all_goals exact h

/-! ### The memory port and the timers (Machine/Home.lean, Machine/Timers.lean) -/

theorem pinCompletes (l : LineNo) (tag : PTag) : (s.pinCompletes l tag).Within port tables := by
  unfold State.pinCompletes
  split
  · exact h.holdPin l
  · exact h

theorem pinFails (l : LineNo) (tag : PTag) : (s.pinFails l tag).Within port tables := by
  unfold State.pinFails
  split
  · exact h.removePin l
  · exact h

theorem memorySuccess (e : HwqEntry) : (s.memorySuccess e).Within port tables := by
  unfold State.memorySuccess
  split
  · exact h
  · exact h
  · exact (pinCompletes (s := State.answer s _ _ _) h _ _).popHwq
  · exact popHwq (s := State.answer _ _ _ _) h
  all_goals exact popHwq (s := State.writeHome _ _) h

theorem memoryError (e : HwqEntry) : (s.memoryError e).Within port tables := by
  have hlogged := h.addFault e.work.errorRecord
  unfold State.memoryError State.errorEffect
  split
  · exact hlogged
  · exact hlogged
  · exact (pinFails (s := State.answer _ _ _ _) hlogged _ _).popHwq
  · exact popHwq (s := State.answer _ _ _ _) hlogged
  all_goals exact popHwq (s := State.failWrite _ _) hlogged

theorem completeMemory (ok : Bool) : (s.completeMemory ok).Within port tables := by
  unfold State.completeMemory
  split
  · split
    · exact h.memorySuccess _
    · exact h.memoryError _
  all_goals exact h

theorem expireAwaiting (l : LineNo) : (s.expireAwaiting l).Within port tables := by
  unfold State.expireAwaiting
  split
  · exact addFault (s := s.clearAwaiting l) h _
  · exact h

theorem expirePin (l : LineNo) : (s.expirePin l).Within port tables := by
  unfold State.expirePin
  split
  · split
    · exact (h.removePin l).addFault _
    · exact h
  · exact h

/-! ### The commands (Machine/Dispatch.lean) -/

theorem execContention {peers : List Contender} {own : Declared} (hnext : execContention peers own s = .next t) :
    t.Within port tables := by
  unfold Machine.execContention at hnext
  split at hnext
  · cases hnext; exact h
  · split at hnext
    · cases hnext; exact contend (s := s.begin) h peers own
    · cases hnext

theorem execRequestArrival {bytes : List Byte} (hnext : execRequestArrival bytes s = .next t) : t.Within port tables := by
  unfold Machine.execRequestArrival at hnext
  split at hnext
  · cases hnext; exact h
  · split at hnext
    case h_1 => cases hnext; exact h
    case h_2 => cases hnext; exact (peerArrival (s := s.begin) h _).settle _ _
    all_goals cases hnext

theorem execDataMessageArrival {bytes : List Byte} (hnext : execDataMessageArrival bytes s = .next t) : t.Within port tables := by
  unfold Machine.execDataMessageArrival at hnext
  split at hnext
  · cases hnext; exact h
  · split at hnext
    case h_1 => cases hnext; exact h
    case h_2 => cases hnext; exact peerData (s := s.begin) h _
    all_goals cases hnext

theorem execAcknowledgementWindowClose {dest home : BitVec 3} (hnext : execAcknowledgementWindowClose dest home s = .next t) :
    t.Within port tables := by
  unfold Machine.execAcknowledgementWindowClose at hnext
  split at hnext
  case h_1 => cases hnext; exact h
  case h_2 => cases hnext; exact closeAck (s := s.begin) h _ _ _
  all_goals cases hnext

/-- A command whose arm is always a next state. -/
theorem of_next (hnext : (Host.Outcome.next u : Host.Outcome State Fault Refusal) = .next t)
    (hu : s.begin.Within port tables → u.Within port tables) : t.Within port tables := by
  cases hnext; exact hu h

end

/-- R17, R59, R120, R133, R159, R165: a reset empties them all. -/
theorem resetTo (s : State) (m : Mode) : (s.resetTo m).Within port tables := by
  refine ⟨fun _ => ⟨Nat.zero_le 8, Nat.zero_le 8⟩, fun _ => ⟨Nat.zero_le 4, Nat.zero_le 2, fun x e he => ?_⟩⟩
  have hfree : (look (s.resetTo m).engine.prt x).entry = none := by simp [State.resetTo, State.reset, RequestEngine.reset, look, fill]
  rw [hfree] at he
  cases he

theorem exec {c : Instr} (h : s.Within port tables) (hnext : exec c s = .next t) : t.Within port tables := by
  cases c with
  | poolReset | powerOn => cases hnext; exact resetTo s .dormant
  | stationReset => cases hnext; exact resetTo s .parked
  | localRequestAcceptance tag code addr len data => exact h.of_next hnext fun h => h.acceptLocal tag code addr len data
  | join tag => exact h.of_next hnext fun h => h.control tag (h.doJoin tag)
  | quiesce tag => exact h.of_next hnext fun h => h.control tag (h.doQuiesce tag)
  | resume tag => exact h.of_next hnext fun h => h.control tag (h.doResume tag)
  | clearLog tag => exact h.of_next hnext fun h => h.control tag (h.clearLog tag)
  | faultLogPop tag => exact h.of_next hnext fun h => h.control tag (h.popLog tag)
  | stationStatusRead tag | eventEnableWrite tag => exact h.of_next hnext fun h => h.control tag h
  | registerWrite tag o v => exact h.of_next hnext fun h => h.control tag (h.controlWrite tag o v)
  | contention => exact h.execContention hnext
  | requestArrival => exact h.execRequestArrival hnext
  | answerWindowClose | announceClose | readyClose => exact closeAnswer (s := s.begin) h hnext
  | dataMessageArrival => exact h.execDataMessageArrival hnext
  | acknowledgementWindowClose => exact h.execAcknowledgementWindowClose hnext
  | memoryCompletion ok => exact h.of_next hnext fun h => (h.completeMemory ok).settle _ _
  | dataTimerExpiry x => exact h.of_next hnext fun h => (h.expireData x).settle _ _
  | awaitingDataTimerExpiry l => exact h.of_next hnext fun h => (h.expireAwaiting l).settle _ _
  | pinTimerExpiry l => exact h.of_next hnext fun h => (h.expirePin l).settle _ _
  | enrolmentTimerExpiry => exact h.of_next hnext fun h => h.expireEnrolment
  | headJudgedAgain => exact h.of_next hnext fun h => h.settle _ _
  | sqPlaceGiven => exact h.of_next hnext fun h => h.giveOne.settle _ _
  | conversionToReturn => exact h.of_next hnext fun h => h.convertOne.settle _ _
  | victimRecall => exact h.of_next hnext fun h => h.victimOne.settle _ _
  | quiesceWalk => exact h.of_next hnext fun h => h.runWalk.settle _ _
  | quiescedEntry => exact h.of_next hnext fun h => h.enterQuiesced

/-- A step runs the front command on the queue's rest, which the bounds do not read. -/
theorem step (h : s.Within port tables) (hnext : step s = .next t) : t.Within port tables := by
  unfold Machine.step at hnext
  split at hnext
  case h_1 => cases hnext; exact h
  case h_2 c rest _ => exact exec (s := { s with pending := rest }) h hnext

end State.Within

/-- Settles O4: each of the two bounds is one half of what every step keeps. -/
theorem stepKeepsTablesBounded : Obligations.StepKeepsTablesBounded := by
  refine ⟨fun s t hs h => ?_, fun s t hs h => ?_⟩
  · rw [portBounded_iff_within] at hs ⊢
    exact hs.step h
  · rw [tablesBounded_iff_within] at hs ⊢
    exact hs.step h

end Sys2Proof.Machine
end

section
/-!
PROOF. O11 and O12. A local request at the port: how its address is split and classified (R1, R2, R156), what it carries once it has passed the
checks of its decode (R7, R13), and what the checks of acceptance make of it (R157, R158, R162).
-/

namespace Sys2Proof.Machine

/-! ### The split of a pool address (R1) -/

section
variable (a : PoolAddr)

theorem toNat_offsetOfAddr : (offsetOfAddr a).toNat = a.toNat % 64 := by simp [offsetOfAddr]

theorem toNat_lineOfAddr : (lineOfAddr a).toNat = a.toNat / 64 := by
  have ha : a.toNat < 2 ^ 34 := a.isLt
  rw [lineOfAddr, BitVec.extractLsb'_toNat, Nat.shiftRight_eq_div_pow]
  omega

theorem toNat_segmentOf (l : LineNo) : (segmentOf l).toNat = l.toNat / 2 ^ 20 := by
  have hl : l.toNat < 2 ^ 28 := l.isLt
  rw [segmentOf, BitVec.extractLsb'_toNat, Nat.shiftRight_eq_div_pow]
  omega

theorem toNat_lineInSegment (l : LineNo) : (lineInSegment l).toNat = l.toNat % 2 ^ 20 := by simp [lineInSegment]

/-- R5: the home memory address of a pool address's byte. -/
theorem toNat_homeAddr_split (i : BitVec 4) :
    (homeAddr i (lineOfAddr a) (offsetOfAddr a)).toNat = i.toNat * 2 ^ 26 + a.toNat % 2 ^ 26 := by
  rw [toNat_homeAddr, toNat_lineOfAddr, toNat_offsetOfAddr]
  omega

end

/-! ### The classification (R2, R156) -/

section
variable {base : BitVec 40} {code : BitVec 3} {addr : LocalAddr}

theorem classify_noOperation (hcode : 5 ≤ code.toNat) : classify base code addr = .noOperation := if_pos hcode

theorem classify_inControl (hcode : code.toNat < 5) (haddr : 0xFFFFFFF000 ≤ addr.toNat) :
    classify base code addr = .control (addr.extractLsb' 0 12) := by
  rw [classify, if_neg (not_le.mpr hcode)]
  exact if_pos haddr

/-- What the address comes to below the control window. -/
theorem classify_below (hcode : code.toNat < 5) (haddr : addr.toNat < 0xFFFFFFF000) :
    classify base code addr =
      if base.toNat ≤ addr.toNat ∧ addr.toNat < base.toNat + 2 ^ 34 then .pool ((addr - base).extractLsb' 0 34) else .neither := by
  have hbelow : ¬ Config.controlBase ≤ addr.toNat := not_le.mpr haddr
  rw [classify, if_neg (not_le.mpr hcode), if_neg hbelow]
  rfl

/-- R156: the offset of a control request is the address's distance from the control window's base. -/
theorem toNat_controlOffset (haddr : 0xFFFFFFF000 ≤ addr.toNat) : (addr.extractLsb' 0 12).toNat = addr.toNat - 0xFFFFFFF000 := by
  have hlt : addr.toNat < 2 ^ 40 := addr.isLt
  rw [BitVec.extractLsb'_toNat]
  omega

/-- R2: the pool address of a request in the pool window is the address's distance from the window's base. -/
theorem toNat_poolAddr (hlow : base.toNat ≤ addr.toNat) (hhigh : addr.toNat < base.toNat + 2 ^ 34) :
    ((addr - base).extractLsb' 0 34).toNat = addr.toNat - base.toNat := by
  rw [BitVec.extractLsb'_toNat, BitVec.toNat_sub_of_le hlow]
  omega

theorem code_of_classify_pool {a : PoolAddr} (h : classify base code addr = .pool a) : code.toNat < 5 := by
  by_contra hcode
  rw [classify_noOperation (not_lt.mp hcode)] at h
  cases h

/-- The operations of codes 0 to 4 (11 section 11.3). -/
theorem ofCode_eq (hcode : code.toNat < 5) :
    LocalOp.ofCode code =
      some (if code = 0 then .read else if code = 1 then .write else if code = 2 then .pinnedRead
        else if code = 3 then .pinnedWrite else .flushLine) := by
  revert code
  decide

variable {s : State} {tag : PTag} {len : BitVec 6} {data : List Byte}

theorem poolRequest_eq {a : PoolAddr} (h : classify base code addr = .pool a) :
    poolRequest base tag code addr len data =
      some
        { tag := tag, addr := a, len := len.toNat + 1, data := data
          op := if code = 0 then .read else if code = 1 then .write else if code = 2 then .pinnedRead
            else if code = 3 then .pinnedWrite else .flushLine } := by
  simp only [poolRequest, h, ofCode_eq (code_of_classify_pool h)]

/-- R156: what is in neither window, or names no operation, is refused before the station's state is looked at. -/
theorem exec_local_access
    (h : classify s.ctl.start.base code addr = .noOperation ∨ classify s.ctl.start.base code addr = .neither) :
    exec (.localRequestAcceptance tag code addr len data) s = .next { s with out := oneResponse tag .access .none } := by
  show Host.Outcome.next (s.begin.acceptLocal tag code addr len data) = _
  rcases h with h | h <;> (simp only [State.acceptLocal, begin_ctl, h]; rfl)

end

/-! ### The decode of a request that no check of R7 refuses -/

section
variable {s : State} {r : LocalReq} {home : StationNo} {acc : Access} {k : SegKind} {i : BitVec 4}

/-- R13: the path of a request. -/
theorem pathOf_eq (own : StationNo) : pathOf own home k = if home = own then .home else if k = .cached then .cached else .direct := by
  cases k <;> rfl

theorem decode_checked (hal : misaligned r = false) (hseg : s.segmentEntry (lineOfAddr r.addr) = .mapped home acc k i)
    (hperm : acc.permits r.op = true) (hpin : ¬(r.op.isPinned = true ∧ k = .direct))
    (hstate : s.stateRefusal r.op home (lineOfAddr r.addr) = none) :
    s.decode r =
      if r.op = .flushLine ∧ pathOf s.number home k ≠ .cached then .flushOk
      else .pass
        { item := r.item, line := lineOfAddr r.addr, segment := segmentOf (lineOfAddr r.addr), home := home, kind := k,
          path := pathOf s.number home k, memAddr := homeAddr i (lineOfAddr r.addr) (offsetOfAddr r.addr) } := by
  simp only [State.decode, hal, hseg, hperm, hpin, hstate, Bool.and_eq_true, beq_iff_eq, Bool.false_eq_true, Bool.true_eq_false,
    if_false]

/-- The head not yet decoded, answered OK at decode, leaves the LRQ (R13). -/
theorem headOnce_flushOk {rest : List LocalReq} (hq : s.lpu.lrq = r :: rest) (hhead : s.lpu.head = none)
    (hdec : s.decode r = .flushOk) : s.headOnce = ((s.answer r.tag .ok .none).popHead, true) := by
  simp only [State.headOnce, hq, hhead, hdec]

/-- R13: a Flush Line that has nothing to act on is answered in the event of its acceptance, and the station is otherwise as it was. -/
theorem exec_flushOk {tag : PTag} {code : BitVec 3} {addr : LocalAddr} {len : BitVec 6} {data : List Byte}
    (h : s.accepts tag code addr len data r = true) (hdec : s.decode r = .flushOk) :
    exec (.localRequestAcceptance tag code addr len data) s = .next { s with out := oneResponse tag .ok .none } := by
  obtain ⟨hstill, htakes, hreq⟩ := accepts_iff.mp h
  obtain ⟨hcalm, hq, hhead, hrecall⟩ := still_iff.mp hstill
  obtain ⟨_, _, htag⟩ := takesPool_iff.mp htakes
  obtain rfl := tag_of_poolRequest hreq
  have hjoined : (s.begin.joinLrq r).lpu.lrq = [r] := by simp [State.joinLrq, hq]
  have hdec' : (s.begin.joinLrq r).decode r = .flushOk := hdec
  have hleft : ((s.begin.joinLrq r).answer r.tag .ok .none).popHead = { s with out := oneResponse r.tag .ok .none } := by
    have htags := free_use_tag s r.tag htag
    have hlpu : ({ s.lpu with lrq := [], head := none, pinRecall := none } : LocalPort) = s.lpu := by rw [← hq, ← hhead, ← hrecall]
    simpa [State.popHead, State.answer, State.reply, State.freeProcessorTag, State.joinLrq, State.useTag, State.begin, oneResponse, hq,
      htags] using hlpu
  rw [exec_accepted_started h (headOnce_flushOk hjoined hhead hdec') hcalm (by rw [hleft]; exact hq), hleft]

end

/-- Settles O11: the classification by its three comparisons, the decode by the checks that do not refuse, and the split by division. -/
theorem localRequestClassifiedAndDecoded : Obligations.LocalRequestClassifiedAndDecoded := by
  refine ⟨fun base code addr =>
      ⟨classify_noOperation, fun hcode haddr => ?_, fun hcode haddr hlow hhigh => ?_, fun hcode haddr hout => ?_⟩,
    fun s tag code addr len data h => exec_local_access h, fun base tag code addr len data a h => poolRequest_eq h, ?_, fun a => ?_⟩
  · exact ⟨_, classify_inControl hcode haddr, toNat_controlOffset haddr⟩
  · rw [classify_below hcode haddr, if_pos ⟨hlow, hhigh⟩]
    exact ⟨_, rfl, toNat_poolAddr hlow hhigh⟩
  · rw [classify_below hcode haddr, if_neg (by omega)]
  · intro s r home acc k i path m hal hseg hperm hpin hstate hpath hm
    have hdec := decode_checked (misaligned_eq_false_iff.mpr hal) hseg hperm (by rwa [isPinned_iff]) (stateRefusal_none hstate.symm)
    rw [pathOf_eq, ← hpath] at hdec
    have haddr : homeAddr i (lineOfAddr r.addr) (offsetOfAddr r.addr) = m :=
      BitVec.eq_of_toNat_eq ((toNat_homeAddr_split r.addr i).trans hm.symm)
    refine ⟨fun hpass => ?_, fun hop hcached => ?_⟩
    · rw [hdec, if_neg (by tauto), haddr]
      rfl
    · rw [if_pos ⟨hop, hcached⟩] at hdec
      exact ⟨hdec, fun tag code addr len data hacc => exec_flushOk hacc hdec⟩
  · have hoff := toNat_offsetOfAddr a
    have hline := toNat_lineOfAddr a
    have hseg := toNat_segmentOf (lineOfAddr a)
    have hin := toNat_lineInSegment (lineOfAddr a)
    refine ⟨hoff, hline, ?_, hseg, hin, ?_, by simp [rlcIndex], by simp [exportIndex]⟩ <;> omega

/-! ### The checks of acceptance (R157) -/

section
variable {s : State} {tag : PTag}

theorem acceptRefusal_parked (h : s.ctl.mode = .parked) : s.acceptRefusal tag = some .wrongState := if_pos h

theorem acceptRefusal_isolated (h : s.ctl.mode = .isolated) : s.acceptRefusal tag = some .isolated := by
  simp [State.acceptRefusal, h]

theorem acceptRefusal_tagInUse (hparked : s.ctl.mode ≠ .parked) (hisolated : s.ctl.mode ≠ .isolated) (h : s.tagInUse tag = true) :
    s.acceptRefusal tag = some .tagInUse := by
  simp [State.acceptRefusal, hparked, hisolated, h]

/-- Past the first three checks the fourth is the room of the LRQ (R159). -/
theorem acceptRefusal_takesPool (h : s.takesPool tag = true) :
    s.acceptRefusal tag = if 8 ≤ s.lpu.lrq.length then some .full else none := by
  obtain ⟨hparked, hisolated, htag⟩ := takesPool_iff.mp h
  rw [State.acceptRefusal, if_neg hparked, if_neg hisolated, if_neg (by simp [htag])]
  rfl

variable {code : BitVec 3} {addr : LocalAddr} {len : BitVec 6} {data : List Byte}

theorem exec_poolRequest {r : LocalReq} (h : poolRequest s.ctl.start.base tag code addr len data = some r) :
    exec (.localRequestAcceptance tag code addr len data) s = .next (s.begin.acceptPool r) :=
  congrArg Host.Outcome.next (acceptLocal_of_poolRequest (s := s.begin) h)

theorem exec_pool_refused {a : PoolAddr} {st : Status} (h : classify s.ctl.start.base code addr = .pool a)
    (hst : s.acceptRefusal tag = some st) :
    exec (.localRequestAcceptance tag code addr len data) s = .next { s with out := oneResponse tag st .none } := by
  have hst' : s.begin.acceptRefusal tag = some st := hst
  rw [exec_poolRequest (poolRequest_eq h), State.acceptPool, hst']
  rfl

theorem exec_pool_queued {r : LocalReq} (h : poolRequest s.ctl.start.base tag code addr len data = some r)
    (hnone : s.acceptRefusal tag = none) (hq : s.lpu.lrq ≠ []) :
    exec (.localRequestAcceptance tag code addr len data) s = .next
      { s with lpu := { s.lpu with lrq := s.lpu.lrq ++ [r], tags := s.tagsWith tag }, out := noOutput } := by
  obtain rfl := tag_of_poolRequest h
  have hnone' : s.begin.acceptRefusal r.tag = none := hnone
  have hq' : s.begin.lpu.lrq ≠ [] := hq
  rw [exec_poolRequest h, State.acceptPool, hnone']
  exact congrArg Host.Outcome.next (if_neg hq')

/-! ### A control request whose tag is in use (R162) -/

theorem control_tagInUse (h : s.tagInUse tag = true) (effect : State → State) :
    s.begin.control tag effect = { s with out := oneResponse tag .tagInUse .none } := if_pos h

theorem exec_control_tagInUse {o : BitVec 12} (h : s.tagInUse tag = true) (hclass : classify s.ctl.start.base code addr = .control o) :
    exec (.localRequestAcceptance tag code addr len data) s = .next { s with out := oneResponse tag .tagInUse .none } := by
  show Host.Outcome.next (s.begin.acceptLocal tag code addr len data) = _
  simp only [State.acceptLocal, begin_ctl, hclass]
  exact congrArg Host.Outcome.next (control_tagInUse h _)

end

/-- Settles O12: a pool request by the check of R157 that it meets; every control command and control request goes through the one check of
R162. -/
theorem acceptanceOutcomes : Obligations.AcceptanceOutcomes := by
  refine ⟨fun s tag code addr len data a hclass =>
      ⟨fun hmode => ?_, fun hmode => ?_, fun hparked hisolated htag => ?_, fun htakes hfull => ?_⟩,
    fun s tag code addr len data r hreq htakes hq hroom => ?_, fun s tag htag => ⟨fun c hc => ?_, fun v => ?_, fun o v => ?_, ?_⟩⟩
  · exact exec_pool_refused hclass (acceptRefusal_parked hmode)
  · exact exec_pool_refused hclass (acceptRefusal_isolated hmode)
  · exact exec_pool_refused hclass (acceptRefusal_tagInUse hparked hisolated htag)
  · exact exec_pool_refused hclass (by rw [acceptRefusal_takesPool htakes, if_pos hfull])
  · exact exec_pool_queued hreq (by rw [acceptRefusal_takesPool htakes, if_neg (not_le.mpr hroom)]) hq
  · simp only [List.mem_cons, List.not_mem_nil, or_false] at hc
    rcases hc with rfl | rfl | rfl | rfl | rfl | rfl
    all_goals exact congrArg Host.Outcome.next (control_tagInUse htag _)
  · exact congrArg Host.Outcome.next (control_tagInUse htag _)
  · exact congrArg Host.Outcome.next (control_tagInUse htag _)
  · exact fun code addr len data o hclass => exec_control_tagInUse htag hclass

end Sys2Proof.Machine
end

section
/-!
PROOF. O26 and O27. The Fault Log as the processor reads and clears it (R164, R166, R171), and Station Status, Event Enable and the event line
(R163, R167, R170).
-/

namespace Sys2Proof.Machine

/-! ### The Fault Log (R164, R166, R171) -/

/-- A field of one bit, at its bit. -/
theorem getLsbD_of_extract_bit {v : BitVec 64} {p : Nat} {b : Bool} (h : v.extractLsb' p 1 = BitVec.ofBool b) : v.getLsbD p = b :=
  BitVec.ofBool_eq_iff_eq.mp ((extract_bit v p).symm.trans h)

/-- R171: the fields of a record. -/
theorem faultRecord_word (r : FaultRecord) :
    r.word.extractLsb' 56 8 = r.kind.code ∧ r.word.extractLsb' 55 1 = BitVec.ofBool r.tag.isSome ∧
      r.word.extractLsb' 54 1 = BitVec.ofBool r.peer.isSome ∧ r.word.extractLsb' 53 1 = BitVec.ofBool r.segment.isSome ∧
      r.word.extractLsb' 52 1 = BitVec.ofBool r.line.isSome ∧ r.word.extractLsb' 48 4 = r.peer.getD 0 ∧
      r.word.extractLsb' 40 8 = r.segment.getD 0 ∧ r.word.extractLsb' 37 3 = 0 ∧ r.word.extractLsb' 32 5 = r.tag.getD 0 ∧
      r.word.extractLsb' 28 4 = 0 ∧ r.word.extractLsb' 0 28 = r.line.getD 0 := by
  refine ⟨?_, ?_, ?_, ?_, ?_, ?_, ?_, ?_, ?_, ?_, ?_⟩ <;>
    simp (disch := omega) [FaultRecord.word, BitVec.extractLsb'_or, extract_field, extract_field_apart]

theorem popLog_cons {s : State} {tag : PTag} {r : FaultRecord} {rest : List FaultRecord} (h : s.lpu.log = r :: rest) :
    s.popLog tag = ({ s with lpu.log := rest } : State).reply tag .ok (.word r.word) := by simp only [State.popLog, h]

theorem popLog_nil {s : State} {tag : PTag} (h : s.lpu.log = []) : s.popLog tag = s.reply tag .ok (.word 0) := by
  simp only [State.popLog, h]

/-- Settles O26: the pop by what the log holds, the clear by its definition, and the layout by the fields of the word. -/
theorem faultLogPopAndClear : Obligations.FaultLogPopAndClear := by
  refine ⟨fun s tag htag => ⟨fun r rest hlog => ?_, fun hlog => ?_, exec_clearLog htag⟩, fun r => ?_⟩
  · rw [exec_faultLogPop htag, popLog_cons (s := s.begin) hlog]
    rfl
  · rw [exec_faultLogPop htag, popLog_nil (s := s.begin) hlog]
    rfl
  · obtain ⟨hkind, htag, hpeer, hsegment, hline, hrest⟩ := faultRecord_word r
    refine ⟨hkind.trans ?_, getLsbD_of_extract_bit htag, getLsbD_of_extract_bit hpeer, getLsbD_of_extract_bit hsegment,
      getLsbD_of_extract_bit hline, hrest⟩
    cases r.kind <;> rfl

/-! ### Station Status, Event Enable and the event line (R163, R167, R170) -/

/-- R170: the fields of Station Status. -/
theorem stationStatus_word (s : State) :
    s.stationStatus.extractLsb' 0 3 = s.ctl.mode.code ∧ s.stationStatus.extractLsb' 3 5 = 0 ∧
      s.stationStatus.extractLsb' 8 4 = s.number ∧ s.stationStatus.extractLsb' 12 4 = 0 ∧
      s.stationStatus.extractLsb' 16 16 = s.ctl.enrolled ∧ s.stationStatus.extractLsb' 32 4 = BitVec.ofNat 4 s.lpu.log.length ∧
      s.stationStatus.extractLsb' 36 1 = BitVec.ofBool s.lpu.overflow ∧ s.stationStatus.extractLsb' 37 27 = 0 := by
  refine ⟨?_, ?_, ?_, ?_, ?_, ?_, ?_, ?_⟩ <;>
    simp (disch := omega) [State.stationStatus, BitVec.extractLsb'_or, extract_field, extract_field_apart]

/-- R167: the event line is asserted by an enabled log that is not empty, or by an enabled change of state. -/
theorem eventLine_iff (s : State) : s.eventLine = true ↔
    (s.lpu.faultEnable = true ∧ s.lpu.log ≠ []) ∨ (s.lpu.stateEnable = true ∧ s.lpu.stateChange = true) := by
  simp [State.eventLine]

/-- Settles O27: the log's count fits its four bits while the log is within its 8 places (R165). -/
theorem statusReadAndEventEnableWrite : Obligations.StatusReadAndEventEnableWrite := by
  refine ⟨fun s tag htag hlog => ⟨s.stationStatus, exec_statusRead htag, ?_⟩,
    fun s tag v htag => ⟨exec_eventEnableWrite htag v, fun t ht => ?_⟩⟩
  · obtain ⟨hmode, hzero, hnumber, hzero', henrolled, hcount, hoverflow, hrest⟩ := stationStatus_word s
    refine ⟨hmode.trans ?_, hzero, hnumber, hzero', henrolled, ?_, getLsbD_of_extract_bit hoverflow, hrest⟩
    · cases s.ctl.mode <;> rfl
    · rw [hcount, BitVec.toNat_ofNat]
      omega
  · rw [exec_eventEnableWrite htag v] at ht
    cases ht
    exact eventLine_iff _

end Sys2Proof.Machine
end

section
/-!
PROOF. O2. A step by what stands in the queue: the front command run on the queue's rest, or idling (log 3).
-/

namespace Sys2Proof.Machine

variable {s : State}

theorem step_of_pending_cons {c : Instr} {rest : List Instr} (h : s.pending = c :: rest) :
    step s = exec c { s with pending := rest } := by simp only [step, h]

theorem step_of_pending_nil (h : s.pending = []) : step s = .next s := by simp only [step, h]

/-- Settles O2: the two cases of the queue; the rest set over the whole queue is the rest set in the state itself. -/
theorem stepRunsFrontCommand : Obligations.StepRunsFrontCommand :=
  ⟨fun _ _ _ => step_of_pending_cons rfl, fun _ => step_of_pending_nil rfl⟩

end Sys2Proof.Machine
end

section
/-!
PROOF. O3 and O6. The home memory stays canonical (R103), since bytes are written to it one at a time and by no other update; and HWQ entries
and held places together stay within 16 (R103), since work joins the HWQ, and a place is held, only where one is free or where a place that
was held for it is given up.
-/

namespace Sys2Proof.Machine

/-! ### The places held (R98, R100, R113) -/

/-- The HWQ places that the waiting list of a PRT entry holds. -/
def PrtEntry.hwqHeld (e : PrtEntry) : Nat := if e.kind = .recall then e.waiting.length else 0

/-- The HWQ places that the Recall entries hold. -/
def prtHeld (prt : Table PrtSlot 3) : Nat := (prt.toList.map PrtSlot.hwqHeld).sum

/-- The HWQ places that an open window holds. -/
def Medium.hwqHeld : Medium → Nat
  | .answering w => w.record.homeHold.toNat
  | .idle | .sent _ | .acking _ => 0

/-- An open window holds the place that its close may fill. -/
def Medium.homeHolds : Medium → Bool
  | .answering w => w.homeHolds
  | .idle | .sent _ | .acking _ => true

variable {s t u : State}

/-- How many HWQ entries and places held by Recall entries there are. -/
def State.hwqLoad (s : State) : Nat := s.home.hwq.length + prtHeld s.engine.prt

theorem hwqHeld_eq : s.hwqHeld = s.bus.medium.hwqHeld + prtHeld s.engine.prt := by
  unfold State.hwqHeld Medium.hwqHeld
  cases s.bus.medium <;> rfl

theorem hwqFree_iff : s.hwqFree = true ↔ s.hwqLoad + s.bus.medium.hwqHeld < 16 := by
  unfold State.hwqFree State.hwqLoad
  rw [decide_eq_true_iff, hwqHeld_eq, Config.hwqPlaces]
  omega

theorem hwqBounded_iff : s.hwqBounded = true ↔ s.hwqLoad + s.bus.medium.hwqHeld ≤ 16 ∧ s.bus.medium.homeHolds = true := by
  have hsplit : s.hwqBounded = (decide (s.home.hwq.length + s.hwqHeld ≤ 16) && s.bus.medium.homeHolds) := by
    unfold State.hwqBounded Medium.homeHolds
    cases s.bus.medium <;> rfl
  rw [hsplit, Bool.and_eq_true, decide_eq_true_iff, hwqHeld_eq, State.hwqLoad, Nat.add_comm s.bus.medium.hwqHeld, ← Nat.add_assoc]

theorem held_of_entry {x : ReqTag} {e : PrtEntry} (he : s.entry x = some e) : e.hwqHeld = (look s.engine.prt x).hwqHeld := by
  have he' : (look s.engine.prt x).entry = some e := he
  simp [PrtSlot.hwqHeld, he', PrtEntry.hwqHeld]

/-- A Recall entry holds a place for each request of its list (R113). -/
theorem list_held {x : ReqTag} {e : PrtEntry} (he : s.entry x = some e) (hkind : e.kind = .recall) :
    e.waiting.length ≤ (look s.engine.prt x).hwqHeld := by
  rw [← held_of_entry he, PrtEntry.hwqHeld, if_pos hkind]

theorem held_of_kind {e : PrtEntry} (h : e.kind ≠ .recall) : e.hwqHeld = 0 := if_neg h

/-- What one place of the PRT holds is counted once. -/
theorem prtHeld_put (prt : Table PrtSlot 3) (x : ReqTag) (y : PrtSlot) :
    prtHeld (put prt x y) + (look prt x).hwqHeld = prtHeld prt + y.hwqHeld := by
  have hset : (put prt x y).toList.map PrtSlot.hwqHeld = (prt.toList.map PrtSlot.hwqHeld).set x.toNat y.hwqHeld := by
    simp [put, Vector.toList_set, List.map_set]
  have hlen : x.toNat < (prt.toList.map PrtSlot.hwqHeld).length := by simpa using x.isLt
  have hold : (prt.toList.map PrtSlot.hwqHeld)[x.toNat] = (look prt x).hwqHeld := by simp [look]
  have hsplit := List.sum_take_add_sum_drop (prt.toList.map PrtSlot.hwqHeld) x.toNat
  rw [List.drop_eq_getElem_cons hlen, List.sum_cons, hold] at hsplit
  unfold prtHeld
  rw [hset, List.sum_set, if_pos hlen]
  omega

/-! ### The two invariants as one predicate -/

/-- What is kept along a command: the canonical form where `canonical` holds, and the places where `bounded` does, with this medium and
with so many beyond 16 as are about to be given up. -/
structure Keeping where
  canonical : Prop
  bounded   : Prop
  medium    : Medium
  extra     : Nat

/-- The home memory is canonical, and HWQ entries and held places are within their number: the two are kept apart from each other, and along
the same updates. It reads the memory, the HWQ, the PRT and the medium alone, so an update of anything else keeps it by definition. -/
def State.HomeFits (s : State) (k : Keeping) : Prop :=
  (k.canonical → Memory.wf s.home.mem = true) ∧
    (k.bounded → s.bus.medium = k.medium ∧ s.hwqLoad + k.medium.hwqHeld ≤ 16 + k.extra)

variable {k : Keeping}

namespace State.HomeFits

/-- What an operation keeps, it keeps over a list. -/
theorem foldl {α : Type} {f : State → α → State} (hf : ∀ s a, s.HomeFits k → (f s a).HomeFits k) (h : s.HomeFits k) (as : List α) :
    (as.foldl f s).HomeFits k := by
  induction as generalizing s with
  | nil => exact h
  | cons a as ih => exact ih (hf s a h)

section
variable (h : s.HomeFits k)
include h

theorem mono {n : Nat} (hn : k.extra ≤ n) : s.HomeFits { k with extra := n } :=
  ⟨h.1, fun hb => ⟨(h.2 hb).1, (h.2 hb).2.trans (Nat.add_le_add_left hn 16)⟩⟩

/-! ### The updates by which the memory, the HWQ, the PRT or the medium changes -/

theorem writeHome (ps : List Host.Cell) : (s.writeHome ps).HomeFits k := ⟨fun hc => Memory.writeAll_wf ps (h.1 hc), h.2⟩

/-- One more, for which room has been made. -/
theorem of_extra (hmem : u.home.mem = s.home.mem) (hmedium : u.bus.medium = s.bus.medium) {n : Nat} (hload : u.hwqLoad ≤ s.hwqLoad + n) :
    u.HomeFits { k with extra := k.extra + n } := by
  refine ⟨fun hc => hmem ▸ h.1 hc, fun hb => ?_⟩
  obtain ⟨hm, hle⟩ := h.2 hb
  refine ⟨hmedium.trans hm, ?_⟩
  dsimp only
  omega

theorem of_le (hmem : u.home.mem = s.home.mem) (hmedium : u.bus.medium = s.bus.medium) (hload : u.hwqLoad ≤ s.hwqLoad) :
    u.HomeFits k := h.of_extra hmem hmedium (n := 0) hload

/-- A free place may be filled or held. -/
theorem of_free (hfree : s.hwqFree = true) (hmem : u.home.mem = s.home.mem) (hmedium : u.bus.medium = s.bus.medium)
    (hload : u.hwqLoad ≤ s.hwqLoad + 1) : u.HomeFits k := by
  refine ⟨fun hc => hmem ▸ h.1 hc, fun hb => ?_⟩
  obtain ⟨hm, _⟩ := h.2 hb
  rw [hwqFree_iff, hm] at hfree
  exact ⟨hmedium.trans hm, by omega⟩

theorem addHwq_extra (e : HwqEntry) : (s.addHwq e).HomeFits { k with extra := k.extra + 1 } :=
  h.of_extra (u := s.addHwq e) rfl rfl (n := 1) (by simp [State.hwqLoad]; omega)

theorem addHwq (e : HwqEntry) (hfree : s.hwqFree = true) : (s.addHwq e).HomeFits k :=
  h.of_free hfree rfl rfl (by simp [State.hwqLoad]; omega)

theorem popHwq : s.popHwq.HomeFits k := by
  refine h.of_le (by simp [popHwq_eq]) (by simp [popHwq_eq]) ?_
  rw [popHwq_eq]
  exact Nat.add_le_add_right (List.length_tail ▸ Nat.sub_le _ 1) _

theorem setEntry (x : ReqTag) {e : PrtEntry} (he : e.hwqHeld ≤ (look s.engine.prt x).hwqHeld) : (s.setEntry x e).HomeFits k := by
  have hsum : prtHeld (s.setEntry x e).engine.prt + _ = _ + e.hwqHeld := prtHeld_put s.engine.prt x _
  refine h.of_le rfl rfl ?_
  unfold State.hwqLoad
  simp only [setEntry_home]
  omega

/-- A request joins a Recall entry's list with a place of its own (R113, R114). -/
theorem setEntry_free (x : ReqTag) {e : PrtEntry} (he : e.hwqHeld ≤ (look s.engine.prt x).hwqHeld + 1) (hfree : s.hwqFree = true) :
    (s.setEntry x e).HomeFits k := by
  have hsum : prtHeld (s.setEntry x e).engine.prt + _ = _ + e.hwqHeld := prtHeld_put s.engine.prt x _
  refine h.of_free hfree rfl rfl ?_
  unfold State.hwqLoad
  simp only [setEntry_home]
  omega

theorem freeEntry (x : ReqTag) : (s.freeEntry x).HomeFits k := by
  have hsum : prtHeld (s.freeEntry x).engine.prt + _ = _ + 0 := prtHeld_put s.engine.prt x _
  refine h.of_le rfl rfl ?_
  unfold State.hwqLoad
  simp only [freeEntry_home]
  omega

/-! ### The other named operations (Machine/Flags.lean, Machine/Ops.lean) -/

theorem addFault (r : FaultRecord) : (s.addFault r).HomeFits k := by unfold State.addFault; split <;> exact h

theorem answerFlushes (ts : List PTag) : (s.answerFlushes ts).HomeFits k := h.foldl (fun _ _ h => by exact h) ts

theorem removeRq (l : LineNo) : (s.removeRq l).HomeFits k := by
  unfold State.removeRq
  split
  · refine answerFlushes ?_ _
    exact h
  · exact h

theorem startPort : s.startPort.HomeFits k := by unfold State.startPort; split <;> exact h

theorem createOrSet (l : LineNo) (c : ExportClass) : (s.createOrSet l c).HomeFits k := by
  unfold State.createOrSet; split <;> exact h

end

/-- A freed entry gives its places up. -/
theorem freeEntry_given {n : Nat} (h : s.HomeFits { k with extra := k.extra + n }) (x : ReqTag)
    (hx : n ≤ (look s.engine.prt x).hwqHeld) : (s.freeEntry x).HomeFits k := by
  have hsum : prtHeld (s.freeEntry x).engine.prt + _ = _ + 0 := prtHeld_put s.engine.prt x _
  refine ⟨h.1, fun hb => ?_⟩
  obtain ⟨hm, hle⟩ := h.2 hb
  refine ⟨hm, ?_⟩
  unfold State.hwqLoad at hle ⊢
  simp only [freeEntry_home] at hle ⊢
  omega

/-! ### Enrolment (Machine/Roll.lean) -/

section
variable (h : s.HomeFits k)
include h

theorem notePeer (n : StationNo) : (s.notePeer n).HomeFits k := by
  unfold State.notePeer
  split
  · exact h
  · exact addFault (s := { s with bus.latePeers := s.bus.latePeers.add n }) h _

theorem isolate (r : FaultRecord) : (s.isolate r).HomeFits k := h.addFault r

theorem joinRoll : s.joinRoll.HomeFits k := by
  unfold State.joinRoll
  split
  · exact h.isolate _
  · split
    · exact h.isolate _
    · exact h

theorem queueReady : s.queueReady.HomeFits k := by unfold State.queueReady; split <;> exact h

theorem applyClaim (n : StationNo) (i : Nat) (c : Claim) : (s.applyClaim n i c).HomeFits k := by
  unfold State.applyClaim
  dsimp only
  split
  · exact h
  · exact h
  · split
    · refine addFault ?_ _
      exact h
    · exact h

theorem applyClaims (n : StationNo) (i : Nat) (cs : List Claim) : (s.applyClaims n i cs).HomeFits k := by
  induction cs generalizing s i with
  | nil => exact h
  | cons c cs ih => exact ih (h.applyClaim n i c) (i + 1)

theorem recordAnnounce (n : StationNo) (f : BitVec 4) (cs : List Claim) (own : Bool) : (s.recordAnnounce n f cs own).HomeFits k := by
  unfold State.recordAnnounce
  have hclaims := applyClaims (s := { s with ctl.roll.announced := put s.ctl.roll.announced n (some (f.toNat + 1)) }) h n 0 cs
  dsimp only
  split <;> exact hclaims

theorem takeAnnounce (n : StationNo) (f : BitVec 4) (cs : List Claim) (own : Bool) : (s.takeAnnounce n f cs own).HomeFits k := by
  unfold State.takeAnnounce
  split
  case isFalse => exact h
  split
  · split
    · exact h.notePeer n
    · exact h
  split
  · exact h
  split
  · exact h.isolate _
  split
  · exact queueReady (s := s.contestNumber n) h
  · exact (h.recordAnnounce n f cs own).queueReady

theorem enrolReady (n : StationNo) (set : StationSet) : (s.enrolReady n set).HomeFits k := by
  have hclosed : s.closeRoll.HomeFits k := by unfold State.closeRoll; split <;> exact h
  have hcounted : (s.closeRoll.countReady n).HomeFits k := by unfold State.countReady; split <;> exact hclosed
  have hqueued := hcounted.queueReady
  unfold State.enrolReady State.checkOperational
  dsimp only
  split
  · exact hclosed.isolate _
  · split
    · exact hclosed.isolate _
    · split <;> exact hqueued

theorem takeReady (n : StationNo) (set : StationSet) : (s.takeReady n set).HomeFits k := by
  unfold State.takeReady
  split
  case h_2 => exact h.enrolReady n set
  all_goals exact h

theorem expireEnrolment : s.expireEnrolment.HomeFits k := by
  unfold State.expireEnrolment
  split
  · split
    · exact h.isolate _
    · exact queueReady (s := { s with ctl.roll.limitPassed := true, ctl.roll.timer := none }) h
  · exact h

end

end State.HomeFits

/-! ### What a judgement finds a place for (R98, R100, R112 to R114, R136, R139) -/

/-- An action of the head that adds to the HWQ, or to the places held, finds a free one; any other takes none. -/
def State.PlaceFor (s : State) : HeadAction → Prop
  | .homeWork | .pinnedHomeRead | .pinReleaseHome | .recall | .attachRecall _ => s.hwqFree = true
  | .attach x => ∀ e, s.entry x = some e → e.kind ≠ .recall
  | .makeMiss kind _ | .makeDirect kind => kind ≠ .recall
  | .waits | .refuse _ | .readHit _ | .writeHit _ | .pinnedHit _ | .pinRelease _ | .makePromote _ | .pinRecall | .flushJoin
  | .flushAltered _ _ | .flushDrop _ | .flushNothing => True

section
variable {d : Decoded}

theorem kind_of_attaches {x : ReqTag} {e : PrtEntry} {op : LocalOp} (he : s.entry x = some e) (h : s.attaches e op = true) :
    s.PlaceFor (.attach x) := by
  intro f hf hkind
  obtain rfl := Option.some.inj (he.symm.trans hf)
  simp [State.attaches, hkind, PrtKind.suits] at h

theorem judgeMiss_placeFor (l : LineNo) {kind : PrtKind} (hkind : kind ≠ .recall) : s.PlaceFor (s.judgeMiss l kind) := by
  unfold State.judgeMiss
  split
  · trivial
  · split
    · split
      · exact hkind
      · trivial
    all_goals exact hkind

theorem judgeCached_placeFor (write : Bool) {hit : WayNo → HeadAction} (hhit : ∀ w, s.PlaceFor (hit w)) :
    s.PlaceFor (s.judgeCached d write hit) := by
  unfold State.judgeCached
  split
  · split
    · split
      · exact kind_of_attaches ‹_› ‹_›
      · trivial
    · trivial
  · split
    · trivial
    split
    · trivial
    split
    · split <;> trivial
    · split
      · exact hhit _
      · trivial
    · split
      · exact hhit _
      · trivial
    · exact judgeMiss_placeFor _ (by cases write <;> simp)

theorem judgePinnedWrite_placeFor : s.PlaceFor (s.judgePinnedWrite d) := by
  unfold State.judgePinnedWrite
  split
  · trivial
  split
  · trivial
  split
  · split
    · trivial
    · split <;> trivial
  · split
    · split
      · split
        · exact kind_of_attaches ‹_› ‹_›
        · trivial
      · trivial
    · trivial

theorem judgeRemote_placeFor : s.PlaceFor (s.judgeRemote d) := by
  unfold State.judgeRemote
  split
  · split
    · trivial
    · exact judgeCached_placeFor false fun _ => trivial
  · split
    · trivial
    · exact judgeCached_placeFor true fun _ => trivial
  · unfold State.judgePinnedRead
    iterate 3
      split
      · trivial
    exact judgeCached_placeFor true fun _ => trivial
  · exact judgePinnedWrite_placeFor
  · unfold State.judgeFlush
    (repeat' split) <;> trivial

theorem judgeDirect_placeFor : s.PlaceFor (s.judgeDirect d) := by
  unfold State.judgeDirect
  split
  · trivial
  split
  · trivial
  · show (if d.item.op.isRead then PrtKind.directRead else .directWrite) ≠ .recall
    split <;> decide

theorem judgeAttachRecall_placeFor (l : LineNo) : s.PlaceFor (s.judgeAttachRecall l) := by
  unfold State.judgeAttachRecall
  split
  · split
    · split
      case isTrue hroom => exact hroom.2.2
      · trivial
    · trivial
  · trivial

theorem judgeHomePlain_placeFor : s.PlaceFor (s.judgeHomePlain d) := by
  have hwork : s.PlaceFor s.judgeHomeWork := by
    unfold State.judgeHomeWork
    split
    · exact ‹s.hwqFree = true›
    · trivial
  have hrecall : s.PlaceFor s.judgeRecall := by
    unfold State.judgeRecall
    split
    · exact ‹s.hwqFree = true›
    · trivial
  unfold State.judgeHomePlain
  split
  · trivial
  split
  · exact hwork
  split
  · trivial
  split
  · split
    · exact hwork
    · exact hrecall
  · exact hrecall
  · exact judgeAttachRecall_placeFor _

theorem judgeHome_placeFor : s.PlaceFor (s.judgeHome d) := by
  unfold State.judgeHome
  split
  · exact judgeHomePlain_placeFor
  · exact judgeHomePlain_placeFor
  · unfold State.judgeHomePinnedRead
    iterate 3
      split
      · trivial
    split
    · split
      · exact ‹s.hwqFree = true›
      · trivial
    · split <;> trivial
  · unfold State.judgeHomePinnedWrite
    split
    · trivial
    iterate 2
      split
      · trivial
    split
    · exact ‹s.hwqFree = true›
    · trivial
  · trivial

/-- A head is started only where there is a place for what its action adds. -/
theorem judgeHead_placeFor (s : State) (d : Decoded) : s.PlaceFor (s.judgeHead d) := by
  unfold State.judgeHead
  split
  · exact judgeRemote_placeFor
  · exact judgeDirect_placeFor
  · exact judgeHome_placeFor

end

namespace State.HomeFits

/-! ### The LRQ head (Machine/Head.lean) -/

section
variable (h : s.HomeFits k)
include h

theorem pendPin (i : Item) (l : LineNo) (path : PinPath) : (s.pendPin i l path).HomeFits k := by
  unfold State.pendPin; split <;> exact h

theorem addItemWork (l : LineNo) (i : Item) (hfree : s.hwqFree = true) : (s.addItemWork l i).HomeFits k := h.addHwq _ hfree

/-- A request that joins a Recall entry's list holds a place. -/
theorem attachItem (x : ReqTag) (i : Item) (hplace : (∀ e, s.entry x = some e → e.kind ≠ .recall) ∨ s.hwqFree = true) :
    (s.attachItem x i).HomeFits k := by
  unfold State.attachItem
  split
  case h_2 => exact h
  case h_1 e he =>
    have hheld := held_of_entry he
    rcases hplace with hkind | hfree
    · have hnone : PrtEntry.hwqHeld { e with waiting := e.waiting ++ [i] } = 0 := held_of_kind (hkind e he)
      exact h.setEntry x (hnone.trans_le (Nat.zero_le _))
    · refine h.setEntry_free x ?_ hfree
      rw [← hheld]
      unfold PrtEntry.hwqHeld
      split <;> simp

/-- So does the request of a new Recall entry (R62, R113). -/
theorem makeAtFree {e : PrtEntry} (he : e.hwqHeld = 0 ∨ e.hwqHeld ≤ 1 ∧ s.hwqFree = true) : (s.makeAtFree e).HomeFits k := by
  unfold State.makeAtFree
  split
  case h_1 x _ =>
    rcases he with hnone | ⟨hone, hfree⟩
    · exact h.setEntry x (hnone.trans_le (Nat.zero_le _))
    · exact h.setEntry_free x (hone.trans (Nat.le_add_left 1 _)) hfree
  case h_2 => exact h

theorem evict (l : LineNo) (w : WayNo) : (s.evict l w).HomeFits k := by
  unfold State.evict
  dsimp only
  split <;> exact h

theorem actHead {d : Decoded} {a : HeadAction} (hplace : s.PlaceFor a) : (s.actHead d a).HomeFits k := by
  cases a with
  | waits | refuse | readHit | writeHit | pinRelease | flushJoin | flushAltered | flushDrop | flushNothing => exact h
  | pinnedHit w => exact pendPin (s := s.serveRead d.line w d.item) h _ _ _
  | attach x => exact (h.attachItem x d.item (.inl hplace)).pendPin _ _ _
  | makePromote w =>
    refine pendPin (s := (s.makeAtFree _).touch d.line w) ?_ _ _ _
    exact h.makeAtFree (.inl rfl)
  | makeMiss kind w =>
    exact ((h.evict d.line w).makeAtFree (e := .fresh kind d.line (some w) [d.item] .request) (.inl (held_of_kind hplace))).pendPin _ _ _
  | makeDirect kind => exact h.makeAtFree (e := .fresh kind d.line none [d.item] .request) (.inl (held_of_kind hplace))
  | homeWork => exact h.addItemWork d.line d.item hplace
  | pinnedHomeRead => exact (h.addItemWork d.line d.item hplace).pendPin _ _ _
  | pinReleaseHome => exact h.addItemWork d.line d.item hplace
  | pinRecall => exact h.makeAtFree (e := .fresh .recall d.line none [] .pin) (.inl rfl)
  | attachRecall x => exact h.attachItem x d.item (.inr hplace)
  | _ => -- `HeadAction.recall`, whose bare name is a keyword of Mathlib
    exact h.makeAtFree (e := .fresh .recall d.line none [d.item] .request) (.inr ⟨le_rfl, hplace⟩)

theorem startHead (d : Decoded) : (s.startHead d).1.HomeFits k := by
  have hacted := h.actHead (d := d) (judgeHead_placeFor s d)
  unfold State.startHead
  dsimp only
  split
  · exact h
  · split <;> exact hacted

theorem refuseDecode (r : LocalReq) (st : Status) (p : Payload) : (s.refuseDecode r st p).HomeFits k := by
  unfold State.refuseDecode
  split
  · exact h.addFault r.unmappedRecord
  · exact h

theorem headOnce : s.headOnce.1.HomeFits k := by
  unfold State.headOnce
  split
  · exact h
  case h_2 r _ _ =>
    split
    case h_1 d _ => exact h.startHead d
    case h_2 =>
      split
      case h_1 st p _ => exact h.refuseDecode r st p
      case h_2 => exact h
      case h_3 d _ => exact startHead (s := { s with lpu.head := some d }) h d

/-! ### What follows in the same event (Machine/Settle.lean) -/

theorem handOff (x : ReqTag) (e : PrtEntry) (f : Follower) (w : WayNo) : (s.handOff x e f w).HomeFits k :=
  freeEntry (s := State.setWay _ e.line w (if f.kind = .fetch then .holding e.line .copy (s.wayAt e.line w).data else .empty)) h x

theorem placePrt (x : ReqTag) : (s.placePrt x).HomeFits k := by
  unfold State.placePrt
  split
  · exact h
  case h_2 e he =>
    have hheld := (held_of_entry he).le
    split
    · exact h.handOff x e _ _
    · exact h
    · unfold State.placeAbandoned
      dsimp only
      split
      · exact freeEntry (s := s.addSq _ false) h x
      · exact setEntry (s := s.addSq _ false) h x hheld
    · exact h
    · exact h

theorem placeHome : s.placeHome.HomeFits k := by
  unfold State.placeHome
  split
  · split
    case h_1 m _ => exact popHwq (s := s.addSq m false) h
    case h_2 => exact h
  all_goals exact h

theorem giveOne : s.giveOne.HomeFits k := by
  unfold State.giveOne
  split
  · exact h
  case h_2 a rest _ =>
    have hrest : ({ s with bus.askers := rest } : State).HomeFits k := h
    split
    · cases a with
      | prt x => exact hrest.placePrt x
      | home => exact hrest.placeHome
    · exact h

theorem givePlaces (n : Nat) : (State.givePlaces n s).HomeFits k := by
  induction n generalizing s with
  | zero => exact h
  | succ n ih =>
    unfold State.givePlaces
    split
    · exact h
    · exact ih h.giveOne

theorem convertOne : s.convertOne.HomeFits k := by
  unfold State.convertOne
  split
  case h_1 e _ =>
    split
    · refine addFault ?_ _
      unfold State.emptyCopy
      split <;> exact h
    · exact h
  case h_2 => exact h

theorem convertAll (n : Nat) : (State.convertAll n s).HomeFits k := by
  induction n generalizing s with
  | zero => exact h
  | succ n ih =>
    unfold State.convertAll
    split
    · exact ih h.convertOne
    · exact h

theorem victimOne : s.victimOne.HomeFits k := by
  unfold State.victimOne
  split
  case h_1 l _ _ _ => exact h.makeAtFree (e := .fresh .recall l none [] .victim) (.inl rfl)
  all_goals exact h

theorem allocate (n : Nat) (headWaits victimWaits judge : Bool) : (s.allocate n headWaits victimWaits judge).HomeFits k := by
  induction n generalizing s headWaits victimWaits judge with
  | zero => exact h
  | succ n ih =>
    unfold State.allocate
    split
    · split
      · split
        · split
          · exact ih (s := State.setTurn _ .victim) h.headOnce _ _ _
          · exact ih (s := State.setTurn _ .lrq) h.victimOne _ _ _
        · exact ih h.headOnce _ _ _
      · exact ih h.victimOne _ _ _
    · split
      · split
        · exact ih h.headOnce _ _ _
        · exact h.headOnce
      · exact h

theorem runWalk : s.runWalk.HomeFits k := by
  obtain ⟨hbeside, _⟩ := runWalk_keeps (s := s)
  simp only [State.besideWalk, Prod.mk.injEq] at hbeside
  obtain ⟨_, hhome, _, _, hmedium, _⟩ := hbeside
  refine h.of_le (congrArg HomeUnit.mem hhome) hmedium (le_of_eq ?_)
  simp only [State.hwqLoad, hhome, runWalk_engine]

theorem enterQuiesced : s.enterQuiesced.HomeFits k := by unfold State.enterQuiesced; split <;> exact h

theorem settle (s0 : State) (j : Judged) : (s.settle s0 j).HomeFits k :=
  ((((h.convertAll _).givePlaces _).startPort.allocate _ _ _ _).runWalk).startPort.enterQuiesced

/-! ### The Request Engine (Machine/Engine.lean) -/

theorem serve (l : LineNo) (w : WayNo) (is : List Item) : (s.serve l w is).HomeFits k := by
  refine h.foldl (fun s i h => ?_) is
  unfold State.serveItem
  (repeat' split) <;> exact h

theorem answerAll (is : List Item) (st : Status) : (s.answerAll is st).HomeFits k := h.foldl (fun _ _ h => by exact h) is

/-- An entry that ends gives up the places of its list (R65, R90). -/
theorem abandonOrFree (x : ReqTag) (e : PrtEntry) : (s.abandonOrFree x e).HomeFits k := by
  cases hf : e.follower with
  | some f =>
    have hended : e.ended.hwqHeld = 0 := ite_self 0
    rw [abandonOrFree_some hf]
    exact h.setEntry x (e := e.ended) (hended.trans_le (Nat.zero_le _))
  | none =>
    rw [abandonOrFree_none hf]
    exact h.freeEntry x

theorem recallFails (x : ReqTag) (e : PrtEntry) (st : Status) : (s.recallFails x e st).HomeFits k := by
  unfold State.recallFails
  dsimp only
  (repeat' split) <;> exact h

theorem endEntry (x : ReqTag) (e : PrtEntry) (st : Status) : (s.endEntry x e st).HomeFits k := by
  have hanswered := h.answerAll e.waiting st
  have hdropped : ((s.answerAll e.waiting st).dropPendingPin e).HomeFits k := by unfold State.dropPendingPin; split <;> exact hanswered
  have hemptied : (((s.answerAll e.waiting st).dropPendingPin e).emptyReserved e).HomeFits k := by
    unfold State.emptyReserved; split <;> exact hdropped
  exact (hemptied.recallFails x e st).abandonOrFree x e

theorem exhaust (x : ReqTag) (e : PrtEntry) : (s.exhaust x e).HomeFits k := (h.addFault _).endEntry x e _

theorem timeOut (x : ReqTag) (e : PrtEntry) : (s.timeOut x e).HomeFits k := (h.addFault _).endEntry x e _

theorem completePromote (x : ReqTag) (e : PrtEntry) (w : WayNo) : (s.completePromote x e w).HomeFits k := by
  refine (serve ?_ e.line w e.waiting).freeEntry x
  exact h

theorem promoteToClaim (x : ReqTag) (e : PrtEntry) (w : WayNo) : (s.promoteToClaim x e w).HomeFits k :=
  setEntry (s := s.setWay e.line w (.reserved e.line)) h x (Nat.zero_le _)

theorem afterServing (x : ReqTag) (e : PrtEntry) (w : WayNo) (fromHome : Bool) : (s.afterServing x e w fromHome).HomeFits k := by
  have hdropped : (if e.dropAfterUse then s.setWay e.line w .empty else s).HomeFits k := by split <;> exact h
  unfold State.afterServing
  dsimp only
  split
  · exact hdropped.setEntry x (by simp [PrtEntry.hwqHeld])
  · exact hdropped.freeEntry x

theorem takeLine (x : ReqTag) (e : PrtEntry) (g : Grant) (d : LineData) (sender : StationNo) :
    (s.takeLine x e g d sender).HomeFits k := by
  unfold State.takeLine
  split
  case h_1 st w _ _ =>
    refine (serve ?_ e.line w e.waiting).afterServing x e w _
    exact h
  all_goals exact h.endEntry x e _

theorem takeDirect (x : ReqTag) (e : PrtEntry) (d : LineData) : (s.takeDirect x e d).HomeFits k :=
  (h.foldl (fun _ _ h => by exact h) e.waiting).freeEntry x

/-- Work for a whole list joins the HWQ, in places that are then given up. -/
theorem addItemWorks (l : LineNo) (is : List Item) :
    (is.foldl (fun s i => s.addItemWork l i) s).HomeFits { k with extra := k.extra + is.length } ∧
      (is.foldl (fun s i => s.addItemWork l i) s).engine = s.engine := by
  induction is generalizing s k with
  | nil => exact ⟨h, rfl⟩
  | cons i is ih =>
    have hadded : (s.addItemWork l i).HomeFits { k with extra := k.extra + 1 } := h.addHwq_extra _
    obtain ⟨hfits, hengine⟩ := ih hadded
    rw [List.length_cons, Nat.add_comm is.length 1, ← Nat.add_assoc]
    exact ⟨hfits, hengine⟩

/-- R115, R116: the places that the list of a recall held become its work. -/
theorem completeRecall (x : ReqTag) {e : PrtEntry} (hx : e.waiting.length ≤ (look s.engine.prt x).hwqHeld) :
    (s.completeRecall x e).HomeFits k := by
  obtain ⟨hworks, hengine⟩ := addItemWorks (s := s.removeExport e.line) h e.line e.waiting
  have hx' : e.waiting.length ≤
      (look (e.waiting.foldl (fun s i => s.addItemWork e.line i) (s.removeExport e.line)).engine.prt x).hwqHeld := by
    rw [hengine]
    exact hx
  unfold State.completeRecall
  dsimp only
  split
  · exact freeEntry_given (s := { e.waiting.foldl (fun s i => s.addItemWork e.line i) (s.removeExport e.line) with lpu.pinRecall := none })
      hworks x hx'
  · exact hworks.freeEntry_given x hx'

end

/-! What an entry's own window and its data come to: the entry keeps its list, or ends. -/

section
variable (h : s.HomeFits k) (x : ReqTag) {e : PrtEntry} (he : s.entry x = some e)
include h he

/-- The entry in use is written with the kind and the list that it has. -/
theorem setEntry_same {f : PrtEntry} (hkind : f.kind = e.kind) (hwaiting : f.waiting = e.waiting) : (s.setEntry x f).HomeFits k := by
  refine h.setEntry x (le_of_eq ?_)
  rw [← held_of_entry he, PrtEntry.hwqHeld, hkind, hwaiting, PrtEntry.hwqHeld]

theorem cancelEntry : (s.cancelEntry x e).HomeFits k := by
  unfold State.cancelEntry
  dsimp only
  split
  · exact h.exhaust x _
  · exact h.setEntry_same x he rfl rfl

theorem awaitData (g : Grant) : (s.awaitData x e g).HomeFits k := h.setEntry_same x he rfl rfl

theorem ownResult (c : AnswerCode) : (s.ownResult x e c).HomeFits k := by
  unfold State.ownResult
  split
  · exact h.awaitData x he _
  · exact h.awaitData x he _
  · split
    case h_1 w _ =>
      split
      · exact h.completePromote x e w
      · exact h.promoteToClaim x e w
    case h_2 => exact h
  · exact (h.answerAll e.waiting .ok).freeEntry x
  · exact h.awaitData x he _
  case h_6 hkind =>
    split
    · exact h.completeRecall x (list_held he hkind)
    · exact h.awaitData x he _

theorem takeAbandoned : (s.takeAbandoned x e).HomeFits k := by
  unfold State.takeAbandoned
  dsimp only
  split
  · exact h.exhaust x _
  · split <;> exact h.setEntry_same x he rfl rfl

/-- R116: the recall-write of a recall's data takes a free place. -/
theorem takeMessage (m : DataMsg) (sender : StationNo) (hplace : s.refusesData e m = false) :
    (s.takeMessage x e m sender).HomeFits k := by
  unfold State.takeMessage
  split
  · exact h.takeAbandoned x he
  · split
    · exact h
    · exact h.endEntry x e _
  case h_3 hgood =>
    dsimp only
    split
    · exact h.takeLine x e _ _ _
    · exact h.takeLine x e _ _ _
    · exact h.takeLine x e _ _ _
    · exact h.takeDirect x e _
    · exact h.takeDirect x e _
    case h_6 hkind =>
      have hfree : s.hwqFree = true := by simpa [State.refusesData, hkind, hgood] using hplace
      exact completeRecall (s := s.addLineWork _) (h.addHwq _ hfree) x (list_held he hkind)

end

section
variable (h : s.HomeFits k)
include h

theorem destinationTakes (sender : StationNo) (m : DataMsg) : (s.destinationTakes sender m).2.HomeFits k := by
  have hstray := h.addFault (strayRecord m.line sender)
  unfold State.destinationTakes
  dsimp only
  split
  · exact hstray
  split
  · exact hstray
  case h_2 e he =>
    split
    · split
      · split
        · exact h
        case isFalse hplace => exact h.takeMessage m.tag he m sender (Bool.not_eq_true _ ▸ hplace)
      · split
        · exact h
        · exact hstray
      · exact hstray
    · exact hstray

theorem expireData (x : ReqTag) : (s.expireData x).HomeFits k := by
  unfold State.expireData
  split
  · exact h
  case h_2 e he =>
    split
    · split
      · exact h.setEntry_same x he rfl rfl
      · exact h.timeOut x e
    · exact h

theorem takeHeldExpiries : s.takeHeldExpiries.HomeFits k := by
  refine h.foldl (fun s x h => ?_) allTags
  unfold State.takeHeldExpiry
  split
  · split
    · exact h.timeOut x _
    · exact h
  · exact h

/-! ### The close of an answer window (Machine/Snoop.lean, Machine/BusEvents.lean) -/

theorem closeCache (rec : Recorded) (q : LineKind) (dest : StationNo) (x : ReqTag) (g : Gen) (l : LineNo) :
    (s.closeCache rec q dest x g l).HomeFits k := by
  unfold State.closeCache
  split
  · exact h
  · dsimp only
    split <;> split <;> exact h

theorem closeTakeover (rec : Recorded) (q : LineKind) (dest : StationNo) (x : ReqTag) (g : Gen) (l : LineNo) :
    (s.closeTakeover rec q dest x g l).HomeFits k := by
  unfold State.closeTakeover
  split
  · split
    · exact removeRq (s := s.addSq _ true) h l
    · exact h
  · exact h

theorem changeEntry (x : ReqTag) {f : PrtEntry → PrtEntry} (hf : ∀ e, (f e).kind = e.kind ∧ (f e).waiting = e.waiting) :
    (s.changeEntry x f).HomeFits k := by
  unfold State.changeEntry
  split
  case h_1 e he => exact h.setEntry_same x he (hf e).1 (hf e).2
  case h_2 => exact h

theorem convertPromote (x : ReqTag) : (s.convertPromote x).HomeFits k := by
  unfold State.convertPromote
  split
  case h_1 e _ =>
    have hnone : PrtEntry.hwqHeld { e with kind := .claim } = 0 := held_of_kind nofun
    have hclaim : (s.setEntry x { e with kind := .claim }).HomeFits k := h.setEntry x (hnone.trans_le (Nat.zero_le _))
    dsimp only
    split <;> exact hclaim
  case h_2 => exact h

theorem closeEngine (rec : Recorded) (c : AnswerCode) (q : LineKind) (sender : StationNo) (x : ReqTag) (g : Gen) :
    (s.closeEngine rec c q sender x g).HomeFits k := by
  unfold State.closeEngine
  split
  · exact h
  · exact h.changeEntry _ fun _ => ⟨rfl, rfl⟩
  · exact h.changeEntry _ fun _ => ⟨rfl, rfl⟩
  · exact h.convertPromote _
  · split
    · exact h.changeEntry _ fun _ => ⟨rfl, rfl⟩
    · exact h

theorem applyOwn (item : SendItem) (c : AnswerCode) : (s.applyOwn item c).HomeFits k := by
  unfold State.applyOwn
  split
  · split
    case h_1 x _ e he =>
      split
      · exact h.cancelEntry x he
      · exact h.ownResult x he c
    case h_2 => exact h
  · split
    · split <;> exact h
    · exact h.removeRq _
  all_goals exact h

end
end State.HomeFits

/-- Does the home's change at the close of this request queue work? (R101, R102, R104) -/
def Request.queuesWork : Request → Bool
  | .line .fetch _ _ _ | .line .claim _ _ _ | .giveBack _ _ | .directRead _ _ _ _ _ | .directWrite _ _ _ _ _ => true
  | .line .promote _ _ _ | .line .recall _ _ _ | .announce _ _ | .ready _ => false

/-- An open window holds a place wherever its close may queue work. -/
theorem homeHolds_of_msg {w : Window} {n : StationNo} {r : Request} (hmsg : w.msg = some (n, r)) :
    w.homeHolds = (!(r.queuesWork && w.record.home) || w.record.homeHold) := by
  unfold Window.homeHolds
  rw [hmsg]
  cases r with
  | line q => cases q <;> simp [Request.queuesWork]
  | _ => simp [Request.queuesWork]

/-- R98, R100: so the work finds that place. -/
theorem homeHold_of_homeHolds {w : Window} {n : StationNo} {r : Request} (h : w.homeHolds = true) (hmsg : w.msg = some (n, r)) :
    (w.record.home && r.queuesWork).toNat ≤ w.record.homeHold.toNat := by
  rw [homeHolds_of_msg hmsg] at h
  refine Bool.toNat_le_toNat fun hwork => ?_
  simpa [Bool.and_comm, hwork] using h

namespace State.HomeFits

/-- R101, R102: the home's change queues one piece of work at most. -/
theorem homeChange (h : s.HomeFits k) (sender : StationNo) (r : Request) (c : AnswerCode) :
    (s.homeChange sender r c).HomeFits { k with extra := k.extra + r.queuesWork.toNat } := by
  have hone : k.extra ≤ k.extra + 1 := Nat.le_add_right _ _
  unfold State.homeChange
  split
  · split
    case h_1 | h_2 => exact (h.createOrSet _ _).addHwq_extra _
    all_goals exact (h.createOrSet _ .sharedOut).mono hone
  · split
    case h_1 | h_2 => exact (h.createOrSet _ _).addHwq_extra _
    all_goals exact (h.createOrSet _ .soleOut).mono hone
  · exact h.createOrSet _ _
  · exact h
  case h_5 l d =>
    have hadded : (s.addLineWork (.returnWrite l sender d)).HomeFits { k with extra := k.extra + 1 } := h.addHwq_extra _
    unfold State.returnSettles
    (repeat' split) <;> exact hadded
  · exact h.addHwq_extra _
  · exact h.addHwq_extra _
  · exact h
  · exact h

theorem applyPeer (h : s.HomeFits k) (sender : StationNo) (r : Request) (rec : Recorded) (c : AnswerCode) :
    (s.applyPeer sender r rec c).HomeFits { k with extra := k.extra + (rec.home && r.queuesWork).toNat } := by
  have hhome : ∀ u : State, u.HomeFits k → (if rec.home then u.homeChange sender r c else u).HomeFits
      { k with extra := k.extra + (rec.home && r.queuesWork).toNat } := fun u hu => by
    cases rec.home with
    | true => exact hu.homeChange sender r c
    | false => exact hu
  refine hhome _ ?_
  split
  · exact ((h.closeCache rec _ sender _ _ _).closeTakeover rec _ sender _ _ _).closeEngine rec c _ sender _ _
  all_goals exact h

end State.HomeFits

/-! ### Between two commands: what an open window holds, it gives up when it closes -/

/-- What `State.HomeFits` keeps, with the medium as it is and nothing beyond 16; and an open window holds its place. -/
def State.HomeKept (s : State) (canonical bounded : Prop) : Prop :=
  s.HomeFits ⟨canonical, bounded, s.bus.medium, 0⟩ ∧ (bounded → s.bus.medium.homeHolds = true)

variable {canonical bounded : Prop}

theorem memoryCanonical_iff_kept : s.memoryCanonical = true ↔ s.HomeKept True False :=
  ⟨fun h => ⟨⟨fun _ => h, nofun⟩, nofun⟩, fun h => h.1.1 trivial⟩

theorem hwqBounded_iff_kept : s.hwqBounded = true ↔ s.HomeKept False True := by
  rw [hwqBounded_iff]
  exact ⟨fun ⟨hle, hholds⟩ => ⟨⟨nofun, fun _ => ⟨rfl, hle⟩⟩, fun _ => hholds⟩,
    fun ⟨hfits, hholds⟩ => ⟨(hfits.2 trivial).2, hholds trivial⟩⟩

/-- The medium holds no place for the home. -/
def Medium.HoldsNothing (m : Medium) : Prop := m.hwqHeld = 0 ∧ m.homeHolds = true

theorem holdsNothing_idle : Medium.idle.HoldsNothing := ⟨rfl, rfl⟩
theorem holdsNothing_sent (x : OwnUnit) : (Medium.sent x).HoldsNothing := ⟨rfl, rfl⟩
theorem holdsNothing_acking (a : AckWindow) : (Medium.acking a).HoldsNothing := ⟨rfl, rfl⟩

namespace State.HomeKept

/-- What keeps `State.HomeFits` with whatever medium there is. -/
theorem of_fits (h : s.HomeKept canonical bounded)
    (hfits : s.HomeFits ⟨canonical, bounded, s.bus.medium, 0⟩ → t.HomeFits ⟨canonical, bounded, s.bus.medium, 0⟩) :
    t.HomeKept canonical bounded := by
  obtain ⟨hmem, hload⟩ := hfits h.1
  exact ⟨⟨hmem, fun hb => ⟨rfl, (hload hb).1 ▸ (hload hb).2⟩⟩, fun hb => (hload hb).1 ▸ h.2 hb⟩

/-- The medium comes to hold nothing, and gives up what it held. -/
theorem of_holdsNothing {m : Medium} {n : Nat} (h : s.HomeFits ⟨canonical, bounded, m, n⟩) (hn : bounded → n ≤ m.hwqHeld)
    (hmem : t.home.mem = s.home.mem) (hload : t.hwqLoad ≤ s.hwqLoad) (hmedium : t.bus.medium.HoldsNothing) :
    t.HomeKept canonical bounded := by
  obtain ⟨hheld, hholds⟩ := hmedium
  refine ⟨⟨fun hc => hmem ▸ h.1 hc, fun hb => ⟨rfl, ?_⟩⟩, fun _ => hholds⟩
  obtain ⟨_, hle⟩ := h.2 hb
  have hgiven := hn hb
  dsimp only at hle hgiven ⊢
  omega

/-- A window opens, and holds a place where one is free. -/
theorem openWindow {w : Window} (h : s.HomeKept canonical bounded) (hmem : t.home.mem = s.home.mem) (hload : t.hwqLoad = s.hwqLoad)
    (hfree : w.record.homeHold = true → s.hwqFree = true) (hholds : w.homeHolds = true) :
    (t.openWindow w).HomeKept canonical bounded := by
  refine ⟨⟨fun hc => ?_, fun hb => ⟨rfl, ?_⟩⟩, fun _ => hholds⟩
  · exact (congrArg Memory.wf hmem).trans (h.1.1 hc)
  · show t.hwqLoad + w.record.homeHold.toNat ≤ 16 + 0
    obtain ⟨_, hle⟩ := h.1.2 hb
    rw [hwqFree_iff] at hfree
    cases hhold : w.record.homeHold with
    | true =>
      have hroom := hfree hhold
      simp only [Bool.toNat_true]
      omega
    | false =>
      simp only [Bool.toNat_false]
      dsimp only at hle
      omega

/-- A window in which nothing is recorded. -/
theorem openPlain {w : Window} (h : s.HomeKept canonical bounded) (hw : w.record = .nothing) :
    (s.openWindow w).HomeKept canonical bounded := by
  refine h.openWindow rfl rfl (by rw [hw]; nofun) ?_
  unfold Window.homeHolds
  rw [hw]
  split <;> rfl

theorem openAck (h : s.HomeKept canonical bounded) (own homeTake : Bool) (dest home : Option AckCode) :
    (s.openAck own homeTake dest home).HomeKept canonical bounded :=
  of_holdsNothing h.1 (fun _ => Nat.zero_le _) rfl le_rfl (holdsNothing_acking _)

theorem settle (h : s.HomeKept canonical bounded) (s0 : State) (j : Judged) : (s.settle s0 j).HomeKept canonical bounded :=
  h.of_fits fun h => h.settle s0 j

end State.HomeKept

namespace State.HomeFits

/-- No window is open any more. -/
theorem idle_given {m : Medium} {n : Nat} (h : s.HomeFits ⟨canonical, bounded, m, n⟩) (hn : bounded → n ≤ m.hwqHeld) :
    s.idle.HomeKept canonical bounded :=
  .of_holdsNothing h hn rfl le_rfl holdsNothing_idle

theorem idle {m : Medium} (h : s.HomeFits ⟨canonical, bounded, m, 0⟩) : s.idle.HomeKept canonical bounded :=
  h.idle_given fun _ => Nat.zero_le _

section
variable (h : s.HomeFits k)
include h

theorem requeueOwn (own : Option SendItem) : (s.requeueOwn own).HomeFits k := by
  unfold State.requeueOwn; (repeat' split) <;> exact h

theorem closeAnnounce (own : Option SendItem) (n : StationNo) (f : BitVec 4) (cs : List Claim) (c : AnswerCode) :
    (s.closeAnnounce own n f cs c).HomeFits k := by
  cases c with
  | clear => exact h.takeAnnounce n f cs own.isSome
  | void | again => exact h.requeueOwn own
  | shared | supply | follow => exact h

theorem closeReady (own : Option SendItem) (n : StationNo) (set : StationSet) (c : AnswerCode) : (s.closeReady own n set c).HomeFits k := by
  cases c with
  | clear => exact h.takeReady n set
  | void | again => exact h.requeueOwn own
  | shared | supply | follow => exact h

end

/-- R98, R100: the home's work takes the place that the window held for it. -/
theorem closeWindow {w : Window} (h : s.HomeFits ⟨canonical, bounded, .answering w, 0⟩) (hholds : bounded → w.homeHolds = true)
    (c : AnswerCode) : (s.closeWindow w c).HomeKept canonical bounded := by
  unfold State.closeWindow
  split
  · exact (h.applyOwn _ c).takeHeldExpiries.idle
  case h_2 n r _ hmsg =>
    split
    · exact h.takeHeldExpiries.idle
    · have happlied := (h.applyPeer n r w.record c).takeHeldExpiries
      refine happlied.idle_given fun hb => ?_
      rw [Nat.zero_add]
      exact homeHold_of_homeHolds (hholds hb) hmsg
  · exact h.takeHeldExpiries.idle

theorem closeAny {w : Window} (h : s.HomeFits ⟨canonical, bounded, .answering w, 0⟩) (hholds : bounded → w.homeHolds = true)
    (c : AnswerCode) : (s.closeAny w c).HomeKept canonical bounded := by
  unfold State.closeAny
  split
  · exact (h.closeAnnounce _ _ _ _ c).idle
  · exact (h.closeReady _ _ _ c).idle
  all_goals exact h.closeWindow hholds c

end State.HomeFits

/-! ### Arrivals (Machine/Snoop.lean, Machine/Bus.lean) -/

theorem markForRequest_home (r : Request) : (s.markForRequest r).home.mem = s.home.mem ∧ (s.markForRequest r).hwqLoad = s.hwqLoad := by
  have hvictim : ∀ l, (s.markVictim l).home.mem = s.home.mem ∧ (s.markVictim l).hwqLoad = s.hwqLoad := fun l => by
    unfold State.markVictim; split <;> exact ⟨rfl, rfl⟩
  unfold State.markForRequest
  split
  case h_1 | h_2 | h_3 =>
    split
    · exact hvictim _
    · exact ⟨rfl, rfl⟩
  all_goals exact ⟨rfl, rfl⟩

/-- R98, R100: the home holds a place only where one is free. -/
theorem homeJudge_holds (r : Request) : (s.homeJudge r).2.2 = true → s.hwqFree = true := by
  unfold State.homeJudge
  split
  case h_2 q _ _ l _ =>
    split
    · nofun
    case isFalse hjoins =>
      intro (hhold : (q != .promote) = true)
      cases hfree : s.hwqFree with
      | true => rfl
      | false => exact absurd (by simp [State.homeAgain, hhold, hfree]) hjoins
  case h_3 | h_4 | h_5 =>
    split
    · exact fun _ => ‹s.hwqFree = true›
    · nofun
  all_goals nofun

/-- R98, R100: a request that the home joins, and that queues work, holds a place. -/
theorem homeJudge_queues (r : Request) : (s.homeJudge r).2.1 = true → (s.homeJudge r).2.2 = r.queuesWork := by
  unfold State.homeJudge
  split
  case h_2 q _ _ l hrecall =>
    split
    · nofun
    · cases q with
      | fetch | claim | promote => exact fun _ => rfl
      | _ => exact (hrecall rfl).elim -- `LineKind.recall`
  case h_3 | h_4 | h_5 =>
    split
    · exact fun _ => rfl
    · nofun
  all_goals nofun

/-- So does the home's part of the judgement of an arriving request (R42). -/
theorem judgeRequest_home (r : Request) :
    ((s.judgeRequest r).2.homeHold = true → s.hwqFree = true) ∧
      ((s.judgeRequest r).2.home = true → (s.judgeRequest r).2.homeHold = r.queuesWork) := by
  have hrole : ∀ l, ((s.homeRole r l).2.2 = true → s.hwqFree = true) ∧
      ((s.homeRole r l).2.1 = true → (s.homeRole r l).2.2 = r.queuesWork) := fun l => by
    unfold State.homeRole
    split
    · exact ⟨homeJudge_holds r, homeJudge_queues r⟩
    · exact ⟨nofun, nofun⟩
  cases r with
  | line _ _ _ l | giveBack l | directRead _ _ l | directWrite _ _ l => exact hrole l
  | announce | ready => exact ⟨nofun, nofun⟩

namespace State.HomeKept

section
variable (h : s.HomeKept canonical bounded)
include h

theorem closeAnswer {kind : WindowKind} {driven : Table (BitVec 3) 4} (hnext : s.closeAnswer kind driven = .next t) :
    t.HomeKept canonical bounded := by
  unfold State.closeAnswer at hnext
  split at hnext
  case h_1 => cases hnext; exact h
  case h_2 w hmedium =>
    obtain ⟨hfits, hholds⟩ := h
    rw [hmedium] at hfits hholds
    split at hnext
    · cases hnext; exact (hfits.closeAny hholds _).settle s .all
    · cases hnext
  all_goals cases hnext

theorem send (c : ContenderClass) : (s.send c).HomeKept canonical bounded := by
  have hsent : ∀ x : OwnUnit, ∀ u : State, u.home.mem = s.home.mem → u.hwqLoad = s.hwqLoad → u.bus.medium = .sent x →
      u.HomeKept canonical bounded := fun x u hmem hload hmedium =>
    of_holdsNothing h.1 (fun _ => Nat.zero_le _) hmem hload.le (hmedium ▸ holdsNothing_sent x)
  unfold State.send
  split
  · split
    · unfold State.sendData
      split
      · exact hsent _ _ rfl rfl rfl
      · exact h
    · exact h
  · split
    · unfold State.sendRequest
      split
      · exact h
      · split
        · exact hsent _ _ rfl rfl rfl
        · exact h
    · exact h

theorem contend (peers : List Contender) (d : Declared) : (s.contend peers d).HomeKept canonical bounded := by
  unfold State.contend
  dsimp only
  split
  · exact h
  case h_2 w _ =>
    split
    · exact send (s := { s with bus.lastWinner := w.number }) h w.cls
    · exact h

theorem judgeArrival (sender : StationNo) (r : Request) : (s.judgeArrival sender r).HomeKept canonical bounded := by
  unfold State.judgeArrival
  split
  · obtain ⟨hmem, hload⟩ := markForRequest_home (s := s) r
    obtain ⟨hfree, hqueues⟩ := judgeRequest_home (s := s) r
    refine h.openWindow hmem hload hfree ?_
    rw [homeHolds_of_msg rfl]
    cases hhome : (s.judgeRequest r).2.home with
    | true => simp [hqueues hhome]
    | false => simp
  · exact h.openPlain rfl

theorem peerArrival (msg : Option (StationNo × Request)) : (s.peerArrival msg).HomeKept canonical bounded := by
  have hmember : ∀ n r, (s.memberArrival n r).HomeKept canonical bounded := fun n r => by
    unfold State.memberArrival
    split
    · exact (h.of_fits fun h => h.notePeer n).openPlain rfl
    · exact h.judgeArrival n r
  unfold State.peerArrival
  split
  · exact h
  · split
    · exact openPlain (s := s.setGap) h rfl
    · split
      · exact h.openPlain rfl
      · exact openPlain (s := s.setGap) h rfl
  · split
    · exact h.openPlain rfl
    · split
      · exact h.openPlain rfl
      · exact (h.of_fits fun h => h.isolate _).openPlain rfl
  · exact h.openPlain rfl
  all_goals
    split
    · exact h.openPlain rfl
    · exact hmember _ _

/-- R109: the home takes a data message only where a place is free. -/
theorem homePart (sender : StationNo) (m : DataMsg) : (s.homePart sender m).2.HomeKept canonical bounded := by
  unfold State.homePart State.homeTakes State.abandonedAtHome
  dsimp only
  split
  · split
    · exact h
    split
    · split
      case isTrue hfree => exact of_fits (t := State.addLineWork s _) h fun h => h.addHwq _ hfree
      case isFalse => exact h
    · exact h
  · split <;> exact h

theorem destPart (sender : StationNo) (m : DataMsg) : (s.destPart sender m).2.HomeKept canonical bounded := by
  unfold State.destPart
  split
  · exact h.of_fits fun h => h.destinationTakes sender m
  · exact h

theorem memberData (sender : StationNo) (m : DataMsg) : (s.memberData sender m).HomeKept canonical bounded :=
  (((h.destPart sender m).homePart sender m).openAck _ _ _ _).settle s _

theorem peerData (msg : Option (StationNo × DataMsg)) : (s.peerData msg).HomeKept canonical bounded := by
  unfold State.peerData
  split
  · exact h
  · exact openAck (s := s.setGap) h _ _ _ _
  · split
    · exact h.openAck _ _ _ _
    · exact (h.of_fits fun h => h.isolate _).openAck _ _ _ _
  · exact h.openAck _ _ _ _
  all_goals
    split
    · exact h.openAck _ _ _ _
    · exact h.memberData _ _

end

end State.HomeKept

namespace State.HomeFits

section
variable (h : s.HomeFits k)
include h

/-! ### The acknowledgement window (Machine/Bus.lean) -/

theorem failedRecords (e : SqEntry) : (s.failedRecords e).HomeFits k := by
  have hrecord : ∀ u : State, ∀ (b : Prop) [Decidable b], ∀ r, u.HomeFits k → (if b then u.addFault r else u).HomeFits k :=
    fun u b _ r hu => by
      split
      · exact hu.addFault r
      · exact hu
  exact hrecord _ _ _ (hrecord s _ _ h)

theorem senderAck (read : Option SqEntry) : (s.senderAck read).1.HomeFits k := by
  unfold State.senderAck State.endDelivery
  split
  · exact h
  · split
    · split
      · split <;> exact h
      · exact failedRecords (s := s.dropSqHead) h _
    · exact h

/-! ### The control window and the local port (Machine/Registers.lean, Machine/LocalPort.lean) -/

theorem popLog (tag : PTag) : (s.popLog tag).HomeFits k := by unfold State.popLog; split <;> exact h

theorem doJoin (tag : PTag) : (s.doJoin tag).HomeFits k := by
  unfold State.doJoin
  split
  · exact h
  · split
    · exact h
    · exact h.joinRoll

theorem recheckHead : s.recheckHead.HomeFits k := by unfold State.recheckHead; split <;> exact h

theorem doQuiesce (tag : PTag) : (s.doQuiesce tag).HomeFits k := by
  unfold State.doQuiesce
  split
  · exact (recheckHead (s := (s.enterMode .quiescing).reply tag .ok .none) h).settle s .byChange
  · exact h

theorem doResume (tag : PTag) : (s.doResume tag).HomeFits k := by unfold State.doResume; split <;> exact h

theorem writeCommand (tag : PTag) (v : BitVec 64) : (s.writeCommand tag v).HomeFits k := by
  unfold State.writeCommand
  split
  · exact h.doJoin tag
  split
  · exact h.doQuiesce tag
  split
  · exact h.doResume tag
  split <;> exact h

theorem controlWrite (tag : PTag) (o : BitVec 12) (v : BitVec 64) : (s.controlWrite tag o v).HomeFits k := by
  have hstart : ∀ x, (s.writeStart tag x v).HomeFits k := fun x => by unfold State.writeStart; split <;> exact h
  unfold State.controlWrite
  split
  case h_1 | h_2 | h_4 | h_5 | h_13 => exact h
  case h_3 => exact h.writeCommand tag v
  all_goals exact hstart _

theorem controlRead (tag : PTag) (o : BitVec 12) : (s.controlRead tag o).HomeFits k := by
  unfold State.controlRead
  split
  case h_4 => exact h.popLog tag
  all_goals exact h

theorem control (tag : PTag) {effect : State → State} (heffect : (effect s).HomeFits k) : (s.control tag effect).HomeFits k := by
  unfold State.control
  split
  · exact h
  · exact heffect

theorem controlRequest (tag : PTag) (code : BitVec 3) (o : BitVec 12) (len : BitVec 6) (data : List Byte) :
    (s.controlRequest tag code o len data).HomeFits k := by
  refine h.control tag ?_
  split
  · exact h
  split
  · exact h.controlRead tag o
  split
  · exact h.controlWrite tag o _
  · exact h

theorem acceptPool (r : LocalReq) : (s.acceptPool r).HomeFits k := by
  unfold State.acceptPool
  split
  · exact h
  · split
    · exact settle (s := s.joinLrq r) h s .all
    · exact h

theorem acceptLocal (tag : PTag) (code : BitVec 3) (addr : LocalAddr) (len : BitVec 6) (data : List Byte) :
    (s.acceptLocal tag code addr len data).HomeFits k := by
  unfold State.acceptLocal
  split
  · exact h.controlRequest tag code _ len data
  · exact h.acceptPool _
  all_goals exact h

/-! ### The memory port and the timers (Machine/Home.lean, Machine/Timers.lean) -/

theorem failWrite (e : HwqEntry) : (s.failWrite e).HomeFits k := h.writeHome _

theorem pinCompletes (l : LineNo) (tag : PTag) : (s.pinCompletes l tag).HomeFits k := by
  unfold State.pinCompletes; split <;> exact h

theorem pinFails (l : LineNo) (tag : PTag) : (s.pinFails l tag).HomeFits k := by unfold State.pinFails; split <;> exact h

theorem memorySuccess (e : HwqEntry) : (s.memorySuccess e).HomeFits k := by
  have hwritten := h.writeHome e.stores
  unfold State.memorySuccess
  split
  · exact h
  · exact h
  · exact (pinCompletes (s := State.answer s _ _ _) h _ _).popHwq
  · exact popHwq (s := State.answer _ _ _ _) hwritten
  all_goals exact hwritten.popHwq

theorem memoryError (e : HwqEntry) : (s.memoryError e).HomeFits k := by
  have hlogged := h.addFault e.work.errorRecord
  have hwritten := hlogged.failWrite e
  unfold State.memoryError State.errorEffect
  split
  · exact hlogged
  · exact hlogged
  · exact (pinFails (s := State.answer _ _ _ _) hlogged _ _).popHwq
  · exact popHwq (s := State.answer _ _ _ _) hwritten
  all_goals exact hwritten.popHwq

theorem completeMemory (ok : Bool) : (s.completeMemory ok).HomeFits k := by
  unfold State.completeMemory
  split
  · split
    · exact h.memorySuccess _
    · exact h.memoryError _
  all_goals exact h

theorem expireAwaiting (l : LineNo) : (s.expireAwaiting l).HomeFits k := by
  unfold State.expireAwaiting
  split
  · exact addFault (s := s.clearAwaiting l) h _
  · exact h

theorem expirePin (l : LineNo) : (s.expirePin l).HomeFits k := by
  unfold State.expirePin
  split
  · split
    · exact addFault (s := s.removePin l) h _
    · exact h
  · exact h

end
end State.HomeFits

/-! ### The commands (Machine/Dispatch.lean) -/

namespace State.HomeKept

section
variable (h : s.HomeKept canonical bounded)
include h

theorem closeAck (a : AckWindow) (dest home : BitVec 3) : (s.closeAck a dest home).HomeKept canonical bounded := by
  have hsender := h.1.senderAck (s.ackRead a (ackReads dest a.dest) (ackReads home a.home))
  exact hsender.idle.settle s _

theorem execContention {peers : List Contender} {own : Declared} (hnext : execContention peers own s = .next t) :
    t.HomeKept canonical bounded := by
  unfold Machine.execContention at hnext
  split at hnext
  · cases hnext; exact h
  · split at hnext
    · cases hnext; exact contend (s := s.begin) h peers own
    · cases hnext

theorem execRequestArrival {bytes : List Byte} (hnext : execRequestArrival bytes s = .next t) : t.HomeKept canonical bounded := by
  unfold Machine.execRequestArrival at hnext
  split at hnext
  · cases hnext; exact h
  · split at hnext
    case h_1 => cases hnext; exact openPlain (s := s.begin) h rfl
    case h_2 => cases hnext; exact (peerArrival (s := s.begin) h _).settle _ _
    all_goals cases hnext

theorem execDataMessageArrival {bytes : List Byte} (hnext : execDataMessageArrival bytes s = .next t) :
    t.HomeKept canonical bounded := by
  unfold Machine.execDataMessageArrival at hnext
  split at hnext
  · cases hnext; exact h
  · split at hnext
    case h_1 => cases hnext; exact openAck (s := s.begin) h _ _ _ _
    case h_2 => cases hnext; exact peerData (s := s.begin) h _
    all_goals cases hnext

theorem execAcknowledgementWindowClose {dest home : BitVec 3} (hnext : execAcknowledgementWindowClose dest home s = .next t) :
    t.HomeKept canonical bounded := by
  unfold Machine.execAcknowledgementWindowClose at hnext
  split at hnext
  case h_1 => cases hnext; exact h
  case h_2 => cases hnext; exact closeAck (s := s.begin) h _ _ _
  all_goals cases hnext

/-- A command whose arm is always a next state, and that leaves the medium alone. -/
theorem of_next (hnext : (Host.Outcome.next u : Host.Outcome State Fault Refusal) = .next t)
    (hu : ∀ {k}, s.begin.HomeFits k → u.HomeFits k) : t.HomeKept canonical bounded := by
  cases hnext; exact of_fits (s := s.begin) h hu

/-- R15, R118: a reset leaves what of a write has landed, and empties the queues. -/
theorem resetTo (m : Mode) : (s.resetTo m).HomeKept canonical bounded := by
  have hmem : canonical → Memory.wf s.memAfterReset = true := fun hc => by
    have hwf : Memory.wf s.home.mem = true := h.1.1 hc
    unfold State.memAfterReset
    split
    · exact Memory.writeAll_wf _ hwf
    all_goals exact hwf
  exact ⟨⟨hmem, fun _ => ⟨rfl, Nat.zero_le 16⟩⟩, fun _ => rfl⟩

theorem exec {c : Instr} (hnext : exec c s = .next t) : t.HomeKept canonical bounded := by
  cases c with
  | poolReset | powerOn => cases hnext; exact h.resetTo .dormant
  | stationReset => cases hnext; exact h.resetTo .parked
  | localRequestAcceptance tag code addr len data => exact h.of_next hnext fun h => h.acceptLocal tag code addr len data
  | join tag => exact h.of_next hnext fun h => h.control tag (h.doJoin tag)
  | quiesce tag => exact h.of_next hnext fun h => h.control tag (h.doQuiesce tag)
  | resume tag => exact h.of_next hnext fun h => h.control tag (h.doResume tag)
  | faultLogPop tag => exact h.of_next hnext fun h => h.control tag (h.popLog tag)
  | clearLog tag | stationStatusRead tag | eventEnableWrite tag => exact h.of_next hnext fun h => h.control tag h
  | registerWrite tag o v => exact h.of_next hnext fun h => h.control tag (h.controlWrite tag o v)
  | contention => exact h.execContention hnext
  | requestArrival => exact h.execRequestArrival hnext
  | answerWindowClose | announceClose | readyClose => exact closeAnswer (s := s.begin) h hnext
  | dataMessageArrival => exact h.execDataMessageArrival hnext
  | acknowledgementWindowClose => exact h.execAcknowledgementWindowClose hnext
  | memoryCompletion ok => exact h.of_next hnext fun h => (h.completeMemory ok).settle _ _
  | dataTimerExpiry x => exact h.of_next hnext fun h => (h.expireData x).settle _ _
  | awaitingDataTimerExpiry l => exact h.of_next hnext fun h => (h.expireAwaiting l).settle _ _
  | pinTimerExpiry l => exact h.of_next hnext fun h => (h.expirePin l).settle _ _
  | enrolmentTimerExpiry => exact h.of_next hnext fun h => h.expireEnrolment
  | headJudgedAgain => exact h.of_next hnext fun h => h.settle _ _
  | sqPlaceGiven => exact h.of_next hnext fun h => h.giveOne.settle _ _
  | conversionToReturn => exact h.of_next hnext fun h => h.convertOne.settle _ _
  | victimRecall => exact h.of_next hnext fun h => h.victimOne.settle _ _
  | quiesceWalk => exact h.of_next hnext fun h => h.runWalk.settle _ _
  | quiescedEntry => exact h.of_next hnext fun h => h.enterQuiesced

/-- A step runs the front command on the queue's rest, which the two do not read. -/
theorem step (hnext : step s = .next t) : t.HomeKept canonical bounded := by
  unfold Machine.step at hnext
  split at hnext
  case h_1 => cases hnext; exact h
  case h_2 c rest _ => exact exec (s := { s with pending := rest }) h hnext

end
end State.HomeKept

/-- Settles O3: bytes are written to a canonical memory one by one. -/
theorem stepKeepsMemoryCanonical : Obligations.StepKeepsMemoryCanonical := by
  intro s t hs h
  rw [memoryCanonical_iff_kept] at hs ⊢
  exact hs.step h

/-- Settles O6: every entry that joins the HWQ, and every place that is held, is one of the 16. -/
theorem stepKeepsHwqBounded : Obligations.StepKeepsHwqBounded := by
  intro s t hs h
  rw [hwqBounded_iff_kept] at hs ⊢
  exact hs.step h

end Sys2Proof.Machine
end

section
/-!
PROOF. O1 and O39. After a reset every table is empty, so each invariant holds by evaluation. The home's judgement (R98, R100) is Again where
one of four things stands in the way of a Fetch, Claim or Promote, and for other requests follows the HWQ's places.
-/

namespace Sys2Proof.Machine

/-- Settles O1: the tables are empty, the segments unmapped and the medium idle. -/
theorem resetSatisfiesInvariants : Obligations.ResetSatisfiesInvariants := by
  refine ⟨Memory.wf_nil, rfl, rfl, ?_, by decide +kernel, by decide +kernel⟩
  exact tablesBounded_iff_within.mpr (State.Within.resetTo State.reset .dormant)

variable {s : State} {l : LineNo}

/-! ### What keeps the home from acting on a request (R98) -/

theorem exportFull_iff : s.exportFull l = true ↔ s.findExport l = none ∧ 8 ≤ (s.exportSet l).length := by
  rw [State.exportFull, Bool.and_eq_true, Option.isNone_iff_eq_none, decide_eq_true_iff, Config.exportWays]

theorem homeAgain_iff (k : LineKind) :
    s.homeAgain k l = true ↔
      (k ≠ .promote ∧ s.hwqFree = false) ∨
        (∃ x, s.findExport l = some x ∧ (x.state ≠ .none ∨ x.awaiting.isSome = true)) ∨ s.pinned l = true ∨
        (s.findExport l = none ∧ 8 ≤ (s.exportSet l).length) := by
  unfold State.homeAgain
  rw [Bool.or_eq_true, Bool.or_eq_true, Bool.or_eq_true, exportFull_iff, or_assoc, or_assoc]
  cases s.findExport l <;> simp

theorem homeJudge_line (t : ReqTag) (g : Gen) {k : LineKind} (hk : k ≠ .recall) :
    s.homeJudge (.line k t g l) = if s.homeAgain k l then (.again, false, false) else (.clear, true, k != .promote) := by
  cases k with
  | fetch | claim | promote => rfl
  | _ => exact absurd rfl hk

/-- Settles O39: the condition of R98 is `State.homeAgain`. -/
theorem homeAnswerRule : Obligations.HomeAnswerRule := by
  refine fun s k t g l => ⟨fun hk => ?_, rfl, fun d off len mask bs r hr => ?_⟩
  · rw [← homeAgain_iff, homeJudge_line t g hk]
    exact ⟨fun h => if_pos h, fun h => if_neg h⟩
  · simp only [List.mem_cons, List.not_mem_nil, or_false] at hr
    rcases hr with rfl | rfl | rfl <;> rfl

end Sys2Proof.Machine
end

section
/-!
PROOF. O53: the expiry of an awaiting-data timer (R110), of a held pin's timer (R140), and of the enrolment timer (R149, R151, R154).
-/

namespace Sys2Proof.Machine

section
variable {s u : State} {l : LineNo} {p : PinEntry}

/-! ### The walk may be all that follows (R129) -/

theorem rests_of_still (h : s.still = true) : s.Rests := by
  obtain ⟨hsettled, _⟩ := settled_of_still h
  exact ⟨hsettled.conv, hsettled.places, hsettled.victim, noRequest_of_still h⟩

theorem followUp_rests (h : s.Rests) (hport : s.portStays) : s.followUp = s.runWalk.enterQuiesced := by
  have hplaces : (s.bus.askers.isEmpty || !s.sqFree) = true := by simpa using h.places
  have hhome : s.runWalk.home = s.home := congrArg (fun y => y.2.1) runWalk_keeps.1
  have hport' : s.runWalk.portStays := hport.congr (by rw [hhome]) (by rw [hhome])
  unfold State.followUp
  dsimp only
  rw [convertAll_of_noConversion h.conv, givePlaces_calm s hplaces, startPort_stays hport, victims_of_settled h.victim,
    startPort_stays hport']

/-- Where nothing but the walk can move, an event that gives nothing out ends as the row QUIESCE_WALK does. -/
theorem settle_rests (h : u.Rests) (hport : u.portStays) (hout : u.out = noOutput) (s0 : State) (j : Judged) :
    Host.Outcome.next (u.settle s0 j) = exec .quiesceWalk u := by
  rw [settle_noRequest h.request, followUp_rests h hport, exec_quiesceWalk_rests h hport, ← hout, ← walked_out]
  rfl

/-! ### What each timer's expiry does -/

theorem expireAwaiting_set (hset : s.awaitingSet l = true) (hlog : s.lpu.log.length < 8) :
    s.expireAwaiting l = { s.clearAwaiting l with lpu.log := s.lpu.log ++ [absorbLost l] } := by
  rw [State.expireAwaiting, if_pos hset]
  exact addFault_room (s.clearAwaiting l) _ hlog

theorem pinExpired_eq (s : State) (p : PinEntry) :
    s.pinExpired p =
      { kind := .pinExpired, line := some p.line, segment := some (segmentOf p.line)
        peer := if p.path = .remote then s.homeOf p.line else none, tag := some p.tag } := by
  unfold State.pinExpired
  cases p.path <;> rfl

theorem expirePin_held (hp : s.findPin l = some p) (hheld : p.held = true) (htimer : p.timer.isSome = true)
    (hlog : s.lpu.log.length < 8) : s.expirePin l = { s.removePin l with lpu.log := s.lpu.log ++ [s.pinExpired p] } := by
  have hruns : (p.held && p.timer.isSome) = true := by rw [hheld, htimer]; rfl
  unfold State.expirePin
  simp only [hp, hruns, if_true]
  exact addFault_room _ _ hlog

variable (hmode : s.ctl.mode = .enrolling) (htimer : s.ctl.roll.timer.isSome = true)
include hmode htimer

/-- R151: the Ready messages did not all come. -/
theorem expireEnrolment_closed (hclosed : s.ctl.roll.closed = true) : s.expireEnrolment = s.isolate { kind := .readyTimeout } := by
  rw [State.expireEnrolment, if_pos ⟨hmode, htimer⟩, if_pos hclosed]

/-- R149: the limit of the roll has passed. -/
theorem expireEnrolment_open (hclosed : s.ctl.roll.closed = false) :
    s.expireEnrolment = ({ s with ctl.roll.limitPassed := true, ctl.roll.timer := none } : State).queueReady := by
  rw [State.expireEnrolment, if_pos ⟨hmode, htimer⟩, hclosed]
  exact if_neg Bool.false_ne_true

end

theorem queueReady_waits {s : State} (h : s.ctl.roll.ownAnnounce = false ∨ s.ctl.roll.readyQueued = true) : s.queueReady = s := by
  refine if_neg fun ⟨_, hann, hready, _⟩ => ?_
  rcases h with h | h
  · rw [h] at hann; cases hann
  · rw [h] at hready; cases hready

/-- Settles O53: each expiry is what its handler does, with nothing, or the walk alone, to follow. -/
theorem otherTimerExpiryOutcomes : Obligations.OtherTimerExpiryOutcomes := by
  refine ⟨fun s l hset hlog hwanted hstill => ?awaiting, fun s p ended hp hheld htimer hlog hstill hended => ?pin,
    fun s hmode htimer => ⟨fun hclosed hlog => ?closed, fun hclosed hnot => ?passed, fun hclosed hann hready => ?queued⟩⟩
  case awaiting =>
    obtain ⟨hsettled, hport⟩ := settled_of_still hstill
    let u : State := { s.begin.clearAwaiting l with lpu.log := s.lpu.log ++ [absorbLost l] }
    have hreq : u.noRequest := (noRequest_of_still hstill).congr rfl rfl
    have hnext : u.Settled := ⟨hsettled.conv, hsettled.places, .inl (nextVictim_nil hwanted), hsettled.walk⟩
    show Host.Outcome.next ((s.begin.expireAwaiting l).settle s.begin .byChange) = _
    rw [expireAwaiting_set (s := s.begin) hset hlog]
    exact congrArg Host.Outcome.next (settle_calm hnext hport hreq _ _)
  case pin =>
    obtain ⟨hsettled, hport⟩ := settled_of_still hstill
    have hexec : exec (.pinTimerExpiry p.line) s = .next (ended.settle s.begin .byChange) := by
      show Host.Outcome.next ((s.begin.expirePin p.line).settle s.begin .byChange) = _
      rw [expirePin_held (s := s.begin) hp hheld htimer hlog, pinExpired_eq, hended]
      rfl
    have hctl : ended.ctl = s.ctl := by rw [hended]
    have hrests : ended.Rests := by
      obtain ⟨hconv, hplaces, hvictim, hreq⟩ := rests_of_still hstill
      rw [hended]
      exact ⟨hconv, hplaces, hvictim, hreq⟩
    have hport' : ended.portStays := by rw [hended]; exact hport
    rw [hexec]
    refine ⟨fun hmode => ?_, fun _ => settle_rests hrests hport' (by rw [hended]) _ _⟩
    have hnext : ended.Settled := ⟨hrests.conv, hrests.places, hrests.victim, .inl (by rwa [hctl])⟩
    rw [settle_calm hnext hport' hrests.request]
  case closed =>
    show Host.Outcome.next s.begin.expireEnrolment = _
    rw [expireEnrolment_closed (s := s.begin) hmode htimer hclosed, State.isolate, addFault_room s.begin _ hlog]
    rfl
  case passed =>
    show Host.Outcome.next s.begin.expireEnrolment = _
    rw [expireEnrolment_open (s := s.begin) hmode htimer hclosed]
    exact congrArg Host.Outcome.next (queueReady_waits hnot)
  case queued =>
    show Host.Outcome.next s.begin.expireEnrolment = _
    rw [expireEnrolment_open (s := s.begin) hmode htimer hclosed]
    exact congrArg Host.Outcome.next (if_pos ⟨hmode, hann, hready, .inr (.inl rfl)⟩)

end Sys2Proof.Machine
end

section
/-!
PROOF. O10 and O51: the completion of the memory port's operation, for a peer or a whole line and for a local request (R5, R104 to R106, R136).
-/

namespace Sys2Proof.Machine

/-! ### The bytes that a write names (R66, R104) -/

section
variable {a c i : Nat} {bs : List Byte} {mask : BitVec 64} {m : List Host.Cell} {e : HwqEntry}

theorem mem_storesFrom {p : Host.Cell} : p ∈ storesFrom a bs ↔ ∃ i, i < bs.length ∧ p = (a + i, bs.getD i 0) := by
  simp [storesFrom, eq_comm]

theorem ne_of_mem_storesFrom (h : c < a ∨ a + bs.length ≤ c) : ∀ p ∈ storesFrom a bs, c ≠ p.1 := fun p hp => by
  obtain ⟨i, hi, rfl⟩ := mem_storesFrom.mp hp
  dsimp only
  omega

theorem read_storesFrom (hm : Memory.wf m = true) (hi : i < bs.length) :
    Memory.read (Memory.writeAll m (storesFrom a bs)) (a + i) = bs.getD i 0 :=
  Memory.read_writeAll_mem (p := (a + i, bs.getD i 0)) _ hm (storesFrom_addresses a bs) (mem_storesFrom.mpr ⟨i, hi, rfl⟩)

/-- A number with the property stands in the list of those below `n` where as many stand before it. -/
theorem getElem?_filter_range {P : Nat → Bool} {n : Nat} (hi : i < n) (hP : P i = true) :
    ((List.range n).filter P)[(List.range i).countP P]? = some i := by
  induction n with
  | zero => omega
  | succ n ih =>
    rw [List.range_succ, List.filter_append]
    rcases Nat.lt_succ_iff_lt_or_eq.mp hi with hlt | rfl
    · obtain ⟨hlen, _⟩ := List.getElem?_eq_some_iff.mp (ih hlt)
      rw [List.getElem?_append_left hlen, ih hlt]
    · rw [List.countP_eq_length_filter, List.getElem?_append_right le_rfl]
      simp [hP]

/-- R66: the bytes of a Direct Write go to the flagged offsets in rising order. -/
theorem mem_maskedStores (hlen : bs.length = (List.range 64).countP fun i => mask.getLsbD i) (hi : i < 64)
    (hbit : mask.getLsbD i = true) :
    (a + i, bs.getD ((List.range i).countP fun j => mask.getLsbD j) 0) ∈ maskedStores a mask bs := by
  have hoffset := getElem?_filter_range (P := fun i => mask.getLsbD i) hi hbit
  obtain ⟨hj, _⟩ := List.getElem?_eq_some_iff.mp hoffset
  rw [← List.countP_eq_length_filter, ← hlen] at hj
  have hbyte := List.getElem?_eq_getElem hj
  refine List.mem_map.mpr ⟨(i, bs[_]), List.mem_of_getElem? (List.getElem?_zip_eq_some.mpr ⟨hoffset, hbyte⟩), ?_⟩
  rw [List.getD_eq_getElem _ _ hj]

theorem flagged_of_mem_maskedStores {p : Host.Cell} (hp : p ∈ maskedStores a mask bs) :
    ∃ i, i < 64 ∧ mask.getLsbD i = true ∧ p.1 = a + i := by
  obtain ⟨⟨i, x⟩, hzip, rfl⟩ := List.mem_map.mp hp
  have hi := (List.of_mem_zip hzip).1
  rw [List.mem_filter, List.mem_range] at hi
  exact ⟨i, hi.1, hi.2, rfl⟩

/-- R106: a failed write changes no byte but its own. -/
theorem read_failedStores_ne {fitted n : Nat} (h : ∀ p ∈ e.stores, c ≠ p.1) :
    Memory.read (Memory.writeAll m (e.failedStores fitted n)) c = Memory.read m c := by
  refine Memory.read_writeAll_ne _ _ fun p hp => ?_
  obtain ⟨q, hq, rfl⟩ := List.mem_map.mp hp
  exact h q (List.mem_filter.mp hq).1

end

/-! ### What a completion is (R5, R104) -/

section
variable {s y : State} {e : HwqEntry} {more : List HwqEntry} {ok : Bool}

theorem reachesFitted_iff : s.reachesFitted e = true ↔ ∀ c ∈ e.reaches, c < s.home.fitted := by
  simp [State.reachesFitted, List.all_eq_true]

theorem not_reachesFitted {c : Nat} (hc : c ∈ e.reaches) (hfit : s.home.fitted ≤ c) : s.reachesFitted e = false := by
  rw [← Bool.not_eq_true, reachesFitted_iff]
  exact fun h => absurd (h c hc) (not_lt.mpr hfit)

section
variable (hport : s.home.port = .busy) (hhwq : s.home.hwq = e :: more)
include hport hhwq

theorem completeMemory_ok (h : s.reachesFitted e = true) : s.completeMemory true = s.memorySuccess e := by
  unfold State.completeMemory
  simp [hport, hhwq, h]

/-- A completion that reports success where no memory is fitted is an error too (R5). -/
theorem completeMemory_fails (h : ok = false ∨ s.reachesFitted e = false) : s.completeMemory ok = s.memoryError e := by
  have hnot : (ok && s.reachesFitted e) = false := by rcases h with h | h <;> simp [h]
  unfold State.completeMemory
  simp [hport, hhwq, hnot]

theorem exec_memoryOk (h : s.reachesFitted e = true) :
    exec (.memoryCompletion true) s = .next ((s.begin.memorySuccess e).settle s.begin { remote := false, home := true }) := by
  show Host.Outcome.next ((s.begin.completeMemory true).settle s.begin { remote := false, home := true }) = _
  rw [completeMemory_ok (s := s.begin) hport hhwq h]

theorem exec_memoryFails (h : ok = false ∨ s.reachesFitted e = false) (hlog : s.lpu.log.length < 8) :
    exec (.memoryCompletion ok) s = .next ((State.errorEffect
      { s.begin with lpu.log := s.lpu.log ++ [e.work.errorRecord] } e).settle s.begin { remote := false, home := true }) := by
  show Host.Outcome.next ((s.begin.completeMemory ok).settle s.begin { remote := false, home := true }) = _
  rw [completeMemory_fails (s := s.begin) hport hhwq h, State.memoryError, addFault_room s.begin _ hlog]
  rfl

end

/-- Nothing more follows when the HWQ head leaves but that the port begins the next operation (R104). -/
theorem settle_popHwq (h : y.Settled) (hreq : y.noRequest) (hhwq : y.home.hwq = e :: more) (s0 : State) (j : Judged) :
    y.popHwq.settle s0 j = { y with home.hwq := more, home.port := portOver more } := by
  let x : State := { y with home.hwq := more, home.port := portOver more }
  have hx : y.popHwq = x := by rw [popHwq_eq, hhwq]; rfl
  have hsettled : x.Settled := ⟨h.conv, h.places, h.victim, h.walk⟩
  have hport : x.portStays := by cases more <;> simp [x, State.portStays]
  rw [hx]
  exact settle_calm hsettled hport (hreq.congr rfl rfl) s0 j

/-! ### A write that answers no one (R104, R106) -/

/-- Work that writes bytes, for a peer or of a whole line, and answers no local request. -/
def HwqWork.writesOnly : HwqWork → Bool
  | .absorbWrite _ _ | .returnWrite _ _ _ | .recallWrite _ _ | .directWrite _ _ _ _ => true
  | .supplyRead _ _ _ _ _ | .directRead _ _ _ _ | .localRead _ _ _ _ | .localWrite _ _ _ _ _ => false

theorem reaches_writesOnly (hk : e.work.writesOnly = true) : e.reaches = e.stores.map (·.1) := by
  unfold HwqEntry.reaches
  split <;> simp_all [HwqWork.writesOnly]

theorem memorySuccess_writesOnly (hk : e.work.writesOnly = true) : s.memorySuccess e = (s.writeHome e.stores).popHwq := by
  unfold State.memorySuccess
  split <;> simp_all [HwqWork.writesOnly]

theorem errorEffect_writesOnly (hk : e.work.writesOnly = true) : s.errorEffect e = (s.failWrite e).popHwq := by
  unfold State.errorEffect
  split <;> simp_all [HwqWork.writesOnly]

section
variable (hport : s.home.port = .busy) (hhwq : s.home.hwq = e :: more) (hstill : s.still = true) (hk : e.work.writesOnly = true)
include hport hhwq hstill hk

theorem exec_writes (hreach : ∀ p ∈ e.stores, p.1 < s.home.fitted) :
    exec (.memoryCompletion true) s = .next
      { s with
        home := { s.home with hwq := more, port := portOver more, mem := Memory.writeAll s.home.mem e.stores }
        out := noOutput } := by
  obtain ⟨hsettled, _⟩ := settled_of_still hstill
  have hfitted : s.reachesFitted e = true := by
    rw [reachesFitted_iff, reaches_writesOnly hk]
    exact List.forall_mem_map.mpr hreach
  have hwritten : (s.begin.writeHome e.stores).Settled := ⟨hsettled.conv, hsettled.places, hsettled.victim, hsettled.walk⟩
  rw [exec_memoryOk hport hhwq hfitted, memorySuccess_writesOnly hk,
    settle_popHwq hwritten ((noRequest_of_still hstill).congr rfl rfl) hhwq]
  rfl

theorem exec_writeFails (h : ok = false ∨ ∃ p ∈ e.stores, s.home.fitted ≤ p.1) (hlog : s.lpu.log.length < 8) :
    exec (.memoryCompletion ok) s = .next
      { s with
        home :=
          { s.home with
            hwq := more, port := portOver more, mem := Memory.writeAll s.home.mem (e.failedStores s.home.fitted s.fresh) }
        lpu.log := s.lpu.log ++ [e.work.errorRecord]
        fresh := s.fresh + 1
        out := noOutput } := by
  obtain ⟨hsettled, _⟩ := settled_of_still hstill
  have hfails : ok = false ∨ s.reachesFitted e = false := h.imp_right fun ⟨p, hp, hfit⟩ =>
    not_reachesFitted (reaches_writesOnly hk ▸ List.mem_map_of_mem hp) hfit
  let logged : State := { s.begin with lpu.log := s.lpu.log ++ [e.work.errorRecord] }
  have hfailed : (logged.failWrite e).Settled := ⟨hsettled.conv, hsettled.places, hsettled.victim, hsettled.walk⟩
  rw [exec_memoryFails hport hhwq hfails hlog, errorEffect_writesOnly hk,
    settle_popHwq hfailed ((noRequest_of_still hstill).congr rfl rfl) hhwq]
  rfl

end

/-! ### A read for a peer (R105, R106) -/

/-- Work that reads a line's 64 bytes into a data message. -/
def HwqWork.readsLine : HwqWork → Bool
  | .supplyRead _ _ _ _ _ | .directRead _ _ _ _ => true
  | .absorbWrite _ _ | .returnWrite _ _ _ | .recallWrite _ _ | .directWrite _ _ _ _ | .localRead _ _ _ _
  | .localWrite _ _ _ _ _ => false

theorem reaches_readsLine (hk : e.work.readsLine = true) : e.reaches = (List.range 64).map (e.addr.toNat + ·) := by
  unfold HwqEntry.reaches
  split <;> simp_all [HwqWork.readsLine]

theorem memorySuccess_readsLine (hk : e.work.readsLine = true) : s.memorySuccess e = s.holdResult (some (s.lineRead e)) := by
  unfold State.memorySuccess
  split <;> simp_all [HwqWork.readsLine]

theorem errorEffect_readsLine (hk : e.work.readsLine = true) : s.errorEffect e = s.holdResult none := by
  unfold State.errorEffect
  split <;> simp_all [HwqWork.readsLine]

/-- The result of a read is placed in the SQ, and the head leaves. -/
theorem settle_placed {r : Option LineData} {m : DataMsg} (h : y.Settled) (hreq : y.noRequest) (hhwq : y.home.hwq = e :: more)
    (hm : e.work.dataMsg r = some m) (hfree : y.sqFree = true) (s0 : State) (j : Judged) :
    (y.holdResult r).settle s0 j =
      { y with home.hwq := more, home.port := portOver more, bus.sq := y.bus.sq ++ [newSqEntry m false] } := by
  let held : State := { y with home.port := .holding r }
  let x : State := { y with home.hwq := more, home.port := portOver more, bus.sq := y.bus.sq ++ [newSqEntry m false] }
  have hnone : y.bus.askers = [] := h.places.resolve_right (by simp [hfree])
  have hasks : (y.holdResult r).bus.askers = [.home] := by
    show y.bus.askers ++ [.home] = [.home]
    rw [hnone]
    rfl
  have hself : ({ y.holdResult r with bus.askers := [] } : State) = held := by
    rw [← hnone]
    rfl
  have hgiven : (y.holdResult r).giveOne = x := by
    rw [giveOne_cons hasks hfree, hself, State.giveTo, placeHome_result (s := held) rfl hhwq hm, popHwq_eq]
    show ({ held.addSq m false with home.hwq := y.home.hwq.tail, home.port := portOver y.home.hwq.tail } : State) = x
    rw [hhwq]
    rfl
  have hconv : (y.holdResult r).noConversion := h.conv.congr rfl rfl
  have hreq' : (y.holdResult r).noRequest := hreq.congr rfl rfl
  have hx : x.Settled := by
    refine ⟨h.conv.snoc rfl rfl, .inl hnone, h.victim, h.walk.imp_right fun hstays => ?_⟩
    refine walkStays_of_frame (s := y) hstays rfl rfl rfl rfl (fun _ hl => hl) (fun l hl => ?_) (fun hempty => ?_) (fun hheld => hheld)
    · exact (List.any_append ..).trans (by rw [show y.bus.sq.any _ = true from hl]; rfl)
    · simp [x] at hempty
  have hport : x.portStays := by cases more <;> simp [x, State.portStays]
  rw [settle_noRequest hreq', ← followUp_giveOne hconv, hgiven, followUp_calm hx hport]

/-- Where no place is free the head keeps the result and asks for one. -/
theorem settle_asks {r : Option LineData} (h : y.Settled) (hreq : y.noRequest) (hfull : y.sqFree = false) (s0 : State) (j : Judged) :
    (y.holdResult r).settle s0 j = { y with home.port := .holding r, bus.askers := y.bus.askers ++ [.home] } := by
  let x : State := { y with home.port := .holding r, bus.askers := y.bus.askers ++ [.home] }
  have hx : x.Settled := ⟨h.conv, .inr hfull, h.victim, h.walk⟩
  have hport : x.portStays := .inl (by simp [x])
  exact settle_calm hx hport (hreq.congr rfl rfl) s0 j

section
variable (hport : s.home.port = .busy) (hhwq : s.home.hwq = e :: more) (hstill : s.still = true)
  (hk : e.work.readsLine = true)
include hport hhwq hstill hk

theorem exec_reads (hreach : e.addr.toNat + 64 ≤ s.home.fitted) :
    (s.sqFree = true → ∀ m, e.work.dataMsg (some (s.lineRead e)) = some m →
      exec (.memoryCompletion true) s = .next
        { s with home.hwq := more, home.port := portOver more, bus.sq := s.bus.sq ++ [newSqEntry m false], out := noOutput }) ∧
    (s.sqFree = false →
      exec (.memoryCompletion true) s = .next
        { s with home.port := .holding (some (s.lineRead e)), bus.askers := s.bus.askers ++ [.home], out := noOutput }) := by
  have hsettled := (settled_of_still hstill).1.begin
  have hreq : s.begin.noRequest := noRequest_of_still hstill
  have hfitted : s.reachesFitted e = true := by
    rw [reachesFitted_iff, reaches_readsLine hk, List.forall_mem_map]
    intro i hi
    have hlt := List.mem_range.mp hi
    omega
  rw [exec_memoryOk hport hhwq hfitted, memorySuccess_readsLine hk]
  exact ⟨fun hfree _ hm => congrArg Host.Outcome.next (settle_placed hsettled hreq hhwq hm hfree _ _),
    fun hfull => congrArg Host.Outcome.next (settle_asks hsettled hreq hfull _ _)⟩

theorem exec_readFails (h : ok = false ∨ s.home.fitted < e.addr.toNat + 64) (hlog : s.lpu.log.length < 8) :
    (s.sqFree = true → ∀ m, e.work.dataMsg none = some m →
      exec (.memoryCompletion ok) s = .next
        { s with
          home.hwq := more, home.port := portOver more
          bus.sq := s.bus.sq ++ [newSqEntry m false]
          lpu.log := s.lpu.log ++ [e.work.errorRecord]
          out := noOutput }) ∧
    (s.sqFree = false →
      exec (.memoryCompletion ok) s = .next
        { s with
          home.port := .holding none
          bus.askers := s.bus.askers ++ [.home]
          lpu.log := s.lpu.log ++ [e.work.errorRecord]
          out := noOutput }) := by
  obtain ⟨hsettled, _⟩ := settled_of_still hstill
  let logged : State := { s.begin with lpu.log := s.lpu.log ++ [e.work.errorRecord] }
  have hlogged : logged.Settled := ⟨hsettled.conv, hsettled.places, hsettled.victim, hsettled.walk⟩
  have hreq : logged.noRequest := (noRequest_of_still hstill).congr rfl rfl
  have hfails : ok = false ∨ s.reachesFitted e = false := h.imp_right fun hlast => by
    refine not_reachesFitted (c := e.addr.toNat + 63) ?_ (by omega)
    rw [reaches_readsLine hk]
    exact List.mem_map_of_mem (List.mem_range.mpr (by decide))
  rw [exec_memoryFails hport hhwq hfails hlog, errorEffect_readsLine hk]
  exact ⟨fun hfree _ hm => congrArg Host.Outcome.next (settle_placed hlogged hreq hhwq hm hfree _ _),
    fun hfull => congrArg Host.Outcome.next (settle_asks hlogged hreq hfull _ _)⟩

end

end

/-- Settles O10: a read's result is placed or kept; a write writes its bytes, or fails at no others. -/
theorem homeMemoryCompletion : Obligations.HomeMemoryCompletion := by
  intro s a k more l hport hhwq hstill
  refine ⟨fun n t g gr hk => ?reads, fun x n hk => ?line, fun n mask bs hk hlen => ?masked⟩
  case reads =>
    have hreads : k.readsLine = true := by rcases hk with rfl | ⟨rfl, rfl⟩ <;> rfl
    have hgood : ∀ x, k.dataMsg (some x) = some
        { dest := n, tag := t, gen := g, line := l, grant := gr, homeTake := false, status := .good, data := some x } := fun x => by
      rcases hk with rfl | ⟨rfl, rfl⟩ <;> rfl
    have hbad : k.dataMsg none = some
        { dest := n, tag := t, gen := g, line := l, grant := .none, homeTake := false, status := .memoryError, data := none } := by
      rcases hk with rfl | ⟨rfl, rfl⟩ <;> rfl
    have hrecord : k.errorRecord = { kind := .memoryError, line := some l, segment := some (segmentOf l), peer := some n } := by
      rcases hk with rfl | ⟨rfl, rfl⟩ <;> rfl
    refine ⟨fun x hx hreach => ?_, fun ok h hlog hfree => ?_, fun ok h hlog hfull => ?_⟩
    · have hline : s.lineRead { addr := a, work := k } = x := hx.symm
      rw [← hline]
      exact ⟨fun hfree => (exec_reads hport hhwq hstill hreads hreach).1 hfree _ (hgood _),
        (exec_reads hport hhwq hstill hreads hreach).2⟩
    · rw [(exec_readFails hport hhwq hstill hreads h hlog).1 hfree _ hbad, hrecord]
    · rw [(exec_readFails hport hhwq hstill hreads h hlog).2 hfull, hrecord]
  case line =>
    let e : HwqEntry := { addr := a, work := k }
    have hwrites : k.writesOnly = true := by rcases hk with ⟨rfl, _⟩ | ⟨rfl, _⟩ | ⟨m, _, rfl⟩ <;> rfl
    have hstores : e.stores = storesFrom a.toNat x.toList := by rcases hk with ⟨rfl, _⟩ | ⟨rfl, _⟩ | ⟨m, _, rfl⟩ <;> rfl
    have hrecord : k.errorRecord = { kind := .memoryError, line := some l, segment := some (segmentOf l), peer := n } := by
      rcases hk with ⟨rfl, rfl⟩ | ⟨rfl, rfl⟩ | ⟨m, rfl, rfl⟩ <;> rfl
    have hsize : x.toList.length = 64 := by simp
    have houtside : ∀ c, (c < a.toNat ∨ a.toNat + 64 ≤ c) → ∀ p ∈ e.stores, c ≠ p.1 := fun c hc => by
      rw [hstores]
      exact ne_of_mem_storesFrom (hsize.symm ▸ hc)
    refine ⟨fun hreach => ⟨_, exec_writes hport hhwq hstill hwrites ?_, fun hm i => ?_, fun c hc => ?_⟩,
      fun ok h hlog => ⟨Memory.writeAll s.home.mem (e.failedStores s.home.fitted s.fresh), s.fresh + 1, ?_,
        fun c hc => read_failedStores_ne (houtside c hc)⟩⟩
    · intro p hp
      obtain ⟨i, hi, rfl⟩ := mem_storesFrom.mp (hstores ▸ hp)
      dsimp only
      omega
    · rw [hstores, read_storesFrom hm (hsize.symm ▸ i.isLt)]
      exact toList_getD_eq_look x i
    · exact Memory.read_writeAll_ne _ _ (houtside c hc)
    · rw [← hrecord]
      refine exec_writeFails hport hhwq hstill hwrites (h.imp_right fun hlast => ?_) hlog
      exact ⟨(a.toNat + 63, _), hstores ▸ mem_storesFrom.mpr ⟨63, by omega, rfl⟩, by dsimp only; omega⟩
  case masked =>
    subst hk
    let e : HwqEntry := { addr := a, work := .directWrite l n mask bs }
    have houtside : ∀ c, (∀ i, i < 64 → mask.getLsbD i = true → c ≠ a.toNat + i) → ∀ p ∈ e.stores, c ≠ p.1 := fun c hc p hp => by
      obtain ⟨i, hi, hbit, hpi⟩ := flagged_of_mem_maskedStores hp
      exact hpi ▸ hc i hi hbit
    refine ⟨fun hreach => ⟨_, exec_writes hport hhwq hstill rfl ?_, fun hm i hi hbit => ?_, fun c hc => ?_⟩,
      fun ok h hlog => ⟨Memory.writeAll s.home.mem (e.failedStores s.home.fitted s.fresh), s.fresh + 1, ?_,
        fun c hc => read_failedStores_ne (houtside c hc)⟩⟩
    · intro p hp
      obtain ⟨i, hi, hbit, hpi⟩ := flagged_of_mem_maskedStores hp
      exact hpi ▸ hreach i hi hbit
    · exact Memory.read_writeAll_mem _ hm (stores_addresses e) (mem_maskedStores hlen hi hbit)
    · exact Memory.read_writeAll_ne _ _ (houtside c hc)
    · refine exec_writeFails hport hhwq hstill rfl (h.imp_right fun ⟨i, hi, hbit, hfit⟩ => ?_) hlog
      exact ⟨_, mem_maskedStores hlen hi hbit, hfit⟩

/-! ### A local request (R104, R106, R136) -/

section
variable {s : State} {l : LineNo} {tag : PTag} {e : HwqEntry} {off : Offset} {len : Nat} {bs : List Byte} {ok : Bool}

/-- The walk and the entry to Quiesced ask of the pins whether there are any (R129, R131). -/
theorem State.Settled.withPins {pins : List PinEntry} (h : s.Settled) (hpins : pins.isEmpty = s.cache.pins.isEmpty) :
    ({ s with cache.pins := pins } : State).Settled := by
  refine ⟨h.conv, h.places, h.victim, h.walk.imp_right fun hstays => ?_⟩
  unfold State.walkStays at hstays ⊢
  dsimp only
  cases hwalk : s.ret.walk with
  | notBegun =>
    rw [hwalk, walkMayBegin_eq] at hstays
    dsimp only
    rw [walkMayBegin_eq, hpins]
    exact hstays
  | atWay p =>
    rw [hwalk] at hstays
    exact hstays
  | done =>
    rw [hwalk, mayBeQuiesced_eq] at hstays
    dsimp only
    rw [mayBeQuiesced_eq, hpins]
    exact hstays

theorem pinWaits_of_tags (h : ∀ p ∈ s.cache.pins, p.tag ≠ tag) : s.pinWaits l tag = false :=
  List.any_eq_false.mpr fun p hp => by simp [PinEntry.madeBy, h p hp]

theorem pinWaits_of_pending (h : ∃ p ∈ s.cache.pins, p.line = l ∧ p.tag = tag ∧ p.held = false ∧ p.path = .home) :
    s.pinWaits l tag = true := by
  obtain ⟨p, hp, hline, htag, hheld, hpath⟩ := h
  exact List.any_eq_true.mpr ⟨p, hp, by simp [PinEntry.madeBy, hline, htag, hheld, hpath]⟩

theorem reachesFitted_localRead (hk : e.work = .localRead l tag off len) (h : e.addr.toNat + len ≤ s.home.fitted) :
    s.reachesFitted e = true := by
  rw [reachesFitted_iff]
  simp only [HwqEntry.reaches, hk, List.forall_mem_map, List.mem_range]
  intro i hi
  omega

theorem localRead_unfitted (hk : e.work = .localRead l tag off len) (h : ∃ i, i < len ∧ s.home.fitted ≤ e.addr.toNat + i) :
    s.reachesFitted e = false := by
  obtain ⟨i, hi, hfit⟩ := h
  refine not_reachesFitted (c := e.addr.toNat + i) ?_ hfit
  simp only [HwqEntry.reaches, hk]
  exact List.mem_map_of_mem (List.mem_range.mpr hi)

theorem reaches_localWrite (hk : e.work = .localWrite l tag off len bs) : e.reaches = (storesFrom e.addr.toNat bs).map (·.1) := by
  simp only [HwqEntry.reaches, HwqEntry.stores, hk]

theorem reachesFitted_localWrite (hk : e.work = .localWrite l tag off len bs) (h : e.addr.toNat + bs.length ≤ s.home.fitted) :
    s.reachesFitted e = true := by
  rw [reachesFitted_iff, reaches_localWrite hk, List.forall_mem_map]
  intro p hp
  obtain ⟨i, hi, rfl⟩ := mem_storesFrom.mp hp
  dsimp only
  omega

theorem localWrite_unfitted (hk : e.work = .localWrite l tag off len bs) (h : ∃ i, i < bs.length ∧ s.home.fitted ≤ e.addr.toNat + i) :
    s.reachesFitted e = false := by
  obtain ⟨i, hi, hfit⟩ := h
  refine not_reachesFitted (c := e.addr.toNat + i) ?_ hfit
  rw [reaches_localWrite hk]
  exact List.mem_map.mpr ⟨_, mem_storesFrom.mpr ⟨i, hi, rfl⟩, rfl⟩

theorem memorySuccess_localRead (s : State) (hk : e.work = .localRead l tag off len) :
    s.memorySuccess e = ((s.answer tag .ok (.bytes (Memory.readBytes s.home.mem e.addr.toNat len))).pinCompletes l tag).popHwq := by
  unfold State.memorySuccess
  rw [hk]

theorem memorySuccess_localWrite (s : State) (hk : e.work = .localWrite l tag off len bs) :
    s.memorySuccess e = ((s.writeHome (storesFrom e.addr.toNat bs)).answer tag .ok .none).popHwq := by
  unfold State.memorySuccess HwqEntry.stores
  rw [hk]

theorem errorEffect_localRead (s : State) (hk : e.work = .localRead l tag off len) :
    s.errorEffect e = ((s.answer tag .dataError .none).pinFails l tag).popHwq := by
  unfold State.errorEffect
  rw [hk]

theorem errorEffect_localWrite (s : State) (hk : e.work = .localWrite l tag off len bs) :
    s.errorEffect e = ((s.failWrite e).answer tag .dataError .none).popHwq := by
  unfold State.errorEffect
  rw [hk]

/-- What has become of the pins reads the pins alone. -/
theorem pinCompletes_eq (s : State) (l : LineNo) (tag : PTag) :
    s.pinCompletes l tag = { s with cache.pins := (s.pinCompletes l tag).cache.pins } := by
  unfold State.pinCompletes
  split <;> rfl

theorem pinFails_eq (s : State) (l : LineNo) (tag : PTag) :
    s.pinFails l tag = { s with cache.pins := (s.pinFails l tag).cache.pins } := by
  unfold State.pinFails
  split <;> rfl

theorem pinCompletes_isEmpty (s : State) (l : LineNo) (tag : PTag) :
    (s.pinCompletes l tag).cache.pins.isEmpty = s.cache.pins.isEmpty := by
  unfold State.pinCompletes
  split
  · exact List.isEmpty_map
  · rfl

variable (hport : s.home.port = .busy) (hhwq : s.home.hwq = [e]) (hsettled : s.begin.Settled) (hreq : s.begin.noRequest)
include hport hhwq hsettled hreq

section
variable (hk : e.work = .localRead l tag off len)
include hk

/-- R104, R136: the bytes are given to the processor, and a pending pin of the request is held from now on. -/
theorem exec_localRead_ok (h : e.addr.toNat + len ≤ s.home.fitted) :
    exec (.memoryCompletion true) s = .next
      { s with
        lpu.tags := s.tagsWithout tag
        cache.pins := (s.pinCompletes l tag).cache.pins
        home.hwq := [], home.port := .idle
        out := oneResponse tag .ok (.bytes (Memory.readBytes s.home.mem e.addr.toNat len)) } := by
  let y : State := s.begin.answer tag .ok (.bytes (Memory.readBytes s.home.mem e.addr.toNat len))
  have hy : y.Settled := ⟨hsettled.conv, hsettled.places, hsettled.victim, hsettled.walk⟩
  have hpins : (y.pinCompletes l tag).cache.pins = (s.pinCompletes l tag).cache.pins := by
    show (if s.pinWaits l tag then y.holdPin l else y).cache.pins = (if s.pinWaits l tag then s.holdPin l else s).cache.pins
    split <;> rfl
  have hx := hy.withPins (pinCompletes_isEmpty y l tag)
  rw [exec_memoryOk hport hhwq (reachesFitted_localRead hk h), memorySuccess_localRead _ hk]
  show Host.Outcome.next ((y.pinCompletes l tag).popHwq.settle s.begin { remote := false, home := true }) = _
  rw [pinCompletes_eq y, settle_popHwq hx (hreq.congr rfl rfl) hhwq, hpins]
  rfl

/-- R106, R136: DATA_ERROR; a pending pin of the request is removed. -/
theorem exec_localRead_fails (h : ok = false ∨ ∃ i, i < len ∧ s.home.fitted ≤ e.addr.toNat + i) (hlog : s.lpu.log.length < 8)
    (hwalk : s.pinWaits l tag = false ∨ s.ctl.mode ≠ .quiescing) :
    exec (.memoryCompletion ok) s = .next
      { s with
        lpu.tags := s.tagsWithout tag
        lpu.log := s.lpu.log ++ [{ kind := .memoryError, line := some l, segment := some (segmentOf l), tag := some tag }]
        cache.pins := (s.pinFails l tag).cache.pins
        home.hwq := [], home.port := .idle
        out := oneResponse tag .dataError .none } := by
  let logged : State := { s.begin with lpu.log := s.lpu.log ++ [e.work.errorRecord] }
  let y : State := logged.answer tag .dataError .none
  have hpins : (y.pinFails l tag).cache.pins = (s.pinFails l tag).cache.pins := by
    show (if s.pinWaits l tag then y.removePin l else y).cache.pins = (if s.pinWaits l tag then s.removePin l else s).cache.pins
    split <;> rfl
  have hx : ({ y with cache.pins := (y.pinFails l tag).cache.pins } : State).Settled := by
    refine ⟨hsettled.conv, hsettled.places, hsettled.victim, ?_⟩
    rcases hwalk with hnone | hmode
    · have hkept : (y.pinFails l tag).cache.pins = y.cache.pins := by
        rw [hpins, State.pinFails, hnone]
        rfl
      rw [hkept]
      exact hsettled.walk
    · exact .inl hmode
  have hrecord : e.work.errorRecord = { kind := .memoryError, line := some l, segment := some (segmentOf l), tag := some tag } := by
    rw [hk]
    rfl
  rw [exec_memoryFails hport hhwq (h.imp_right (localRead_unfitted hk)) hlog, errorEffect_localRead _ hk]
  show Host.Outcome.next ((y.pinFails l tag).popHwq.settle s.begin { remote := false, home := true }) = _
  rw [pinFails_eq y, settle_popHwq hx (hreq.congr rfl rfl) hhwq, hpins, ← hrecord]
  rfl

end

section
variable (hk : e.work = .localWrite l tag off len bs)
include hk

theorem exec_localWrite_ok (h : e.addr.toNat + bs.length ≤ s.home.fitted) :
    exec (.memoryCompletion true) s = .next
      { s with
        lpu.tags := s.tagsWithout tag
        home.hwq := [], home.port := .idle, home.mem := Memory.writeAll s.home.mem (storesFrom e.addr.toNat bs)
        out := oneResponse tag .ok .none } := by
  let y : State := (s.begin.writeHome (storesFrom e.addr.toNat bs)).answer tag .ok .none
  have hy : y.Settled := ⟨hsettled.conv, hsettled.places, hsettled.victim, hsettled.walk⟩
  rw [exec_memoryOk hport hhwq (reachesFitted_localWrite hk h), memorySuccess_localWrite _ hk,
    settle_popHwq hy (hreq.congr rfl rfl) hhwq]
  rfl

theorem exec_localWrite_fails (h : ok = false ∨ ∃ i, i < bs.length ∧ s.home.fitted ≤ e.addr.toNat + i)
    (hlog : s.lpu.log.length < 8) :
    exec (.memoryCompletion ok) s = .next
      { s with
        lpu.tags := s.tagsWithout tag
        lpu.log := s.lpu.log ++ [{ kind := .memoryError, line := some l, segment := some (segmentOf l), tag := some tag }]
        home.hwq := [], home.port := .idle, home.mem := Memory.writeAll s.home.mem (e.failedStores s.home.fitted s.fresh)
        fresh := s.fresh + 1
        out := oneResponse tag .dataError .none } := by
  let logged : State := { s.begin with lpu.log := s.lpu.log ++ [e.work.errorRecord] }
  let y : State := (logged.failWrite e).answer tag .dataError .none
  have hy : y.Settled := ⟨hsettled.conv, hsettled.places, hsettled.victim, hsettled.walk⟩
  have hrecord : e.work.errorRecord = { kind := .memoryError, line := some l, segment := some (segmentOf l), tag := some tag } := by
    rw [hk]
    rfl
  rw [exec_memoryFails hport hhwq (h.imp_right (localWrite_unfitted hk)) hlog, errorEffect_localWrite _ hk,
    settle_popHwq hy (hreq.congr rfl rfl) hhwq, ← hrecord]
  rfl

end
end

/-- What the last entry of the HWQ leaves behind is still, and so was the station while the port was busy with it. -/
theorem settled_before {s : State} (h : ({ s with home.hwq := [], home.port := .idle } : State).still = true) :
    s.begin.Settled ∧ s.begin.noRequest := by
  obtain ⟨hsettled, _⟩ := settled_of_still h
  exact ⟨⟨hsettled.conv, hsettled.places, hsettled.victim, hsettled.walk⟩, (noRequest_of_still h).congr rfl rfl⟩

/-- Settles O51: the request of the only HWQ entry is answered with its bytes, with OK or with DATA_ERROR. -/
theorem localMemoryCompletion : Obligations.LocalMemoryCompletion := by
  refine ⟨fun s a l tag off len hport hstill => ⟨fun hhwq hreach htags => ?read, fun bs hhwq hreach => ?write, fun hhwq hpin => ?pinned⟩,
    fun s a w tag l off len bs ok hport hhwq hw hfail hlog htags hstill => ?fails⟩
  case read =>
    obtain ⟨hsettled, hreq⟩ := settled_before hstill
    have hpins : (s.pinCompletes l tag).cache.pins = s.cache.pins := by rw [State.pinCompletes, pinWaits_of_tags htags]; rfl
    rw [exec_localRead_ok hport hhwq hsettled hreq rfl hreach, hpins]
    rfl
  case write =>
    obtain ⟨hsettled, hreq⟩ := settled_before hstill
    exact ⟨_, exec_localWrite_ok hport hhwq hsettled hreq rfl hreach, fun hm i hi => read_storesFrom hm hi,
      fun c hc => Memory.read_writeAll_ne _ _ (ne_of_mem_storesFrom hc)⟩
  case pinned =>
    obtain ⟨hsettled, hreq⟩ := settled_before hstill
    have hwaits := pinWaits_of_pending hpin
    refine ⟨fun hreach => ?_, fun ok h hlog hmode => ?_⟩
    · have hpins : (s.pinCompletes l tag).cache.pins = (s.holdPin l).cache.pins := by rw [State.pinCompletes, hwaits]; rfl
      rw [exec_localRead_ok hport hhwq hsettled hreq rfl hreach, hpins]
      rfl
    · have hpins : (s.pinFails l tag).cache.pins = (s.removePin l).cache.pins := by rw [State.pinFails, hwaits]; rfl
      rw [exec_localRead_fails hport hhwq hsettled hreq rfl h hlog (.inr hmode), hpins]
      rfl
  case fails =>
    obtain ⟨hsettled, hreq⟩ := settled_before hstill
    rcases hw with rfl | rfl
    · have hpins : (s.pinFails l tag).cache.pins = s.cache.pins := by rw [State.pinFails, pinWaits_of_tags htags]; rfl
      have hread : ok = false ∨ ∃ i, i < len ∧ s.home.fitted ≤ a.toNat + i := by simpa using hfail
      refine ⟨s.home.mem, s.fresh, ?_, fun _ => rfl, fun _ _ => rfl⟩
      rw [exec_localRead_fails hport hhwq hsettled hreq rfl hread hlog (.inl (pinWaits_of_tags htags)), hpins]
    · let e : HwqEntry := { addr := a, work := .localWrite l tag off len bs }
      have hwrite : ok = false ∨ ∃ i, i < bs.length ∧ s.home.fitted ≤ a.toNat + i := by simpa using hfail
      exact ⟨_, _, exec_localWrite_fails hport hhwq hsettled hreq rfl hwrite hlog, nofun,
        fun c hc => read_failedStores_ne (e := e) (ne_of_mem_storesFrom hc)⟩

end Sys2Proof.Machine
end

section
/-!
PROOF. O20: a Read and a Write on the home path, at the LRQ head (R103, R104, R111 to R113), and the turn of R63 between such a head and the
victim recall of its line (R117).
-/

namespace Sys2Proof.Machine

/-! ### The judgement (R112) -/

section
variable {s : State} {d : Decoded} {x : ExportEntry} (hp : d.path = .home) (hop : d.item.op = .read ∨ d.item.op = .write)

include hp hop

theorem judgeHead_homePlain : s.judgeHead d = s.judgeHomePlain d := by
  rcases hop with hop | hop <;> simp only [State.judgeHead, hp, State.judgeHome, hop]

theorem judgeHead_home_underAnswer (hu : s.underAnswer d.line = true) : s.judgeHead d = .waits := by
  simp [judgeHead_homePlain hp hop, State.judgeHomePlain, hu]

theorem judgeHead_home_awaits (hx : s.findExport d.line = some x) (h : x.awaiting.isSome = true) : s.judgeHead d = .waits := by
  simp [judgeHead_homePlain hp hop, State.judgeHomePlain, hx, h]

/-- Of what a head can do on a line that no recall is under way for, work and a recall both want an HWQ place. -/
theorem judgeHead_home_full (hfull : s.hwqFree = false) (hx : ∀ x, s.findExport d.line = some x → x.state ≠ .inFlight) :
    s.judgeHead d = .waits := by
  have hwork : s.judgeHomeWork = .waits := by simp [State.judgeHomeWork, hfull]
  have hrecall : s.judgeRecall = .waits := by simp [State.judgeRecall, hfull]
  rw [judgeHead_homePlain hp hop]
  unfold State.judgeHomePlain
  split
  · rfl
  split
  · exact hwork
  case h_2 x hfind =>
    split
    · rfl
    split
    · split
      · exact hwork
      · exact hrecall
    · exact hrecall
    · exact absurd ‹x.state = .inFlight› (hx x hfind)

variable (hu : s.underAnswer d.line = false)

include hu

theorem judgeHead_home_absent (hx : s.findExport d.line = none) : s.judgeHead d = s.judgeHomeWork := by
  simp [judgeHead_homePlain hp hop, State.judgeHomePlain, hu, hx]

variable (hx : s.findExport d.line = some x) (hflag : x.awaiting = none)

include hx hflag

theorem judgeHead_home_shared (hread : d.item.op = .read) (hcls : x.cls = .sharedOut) (hstate : x.state = .none) :
    s.judgeHead d = s.judgeHomeWork := by
  simp [judgeHead_homePlain hp hop, State.judgeHomePlain, hu, hx, hflag, hread, hcls, hstate, LocalOp.isRead]

/-- R113: what is held outside and no Read can take as it is, and what a victim recall is wanted for, is recalled. -/
theorem judgeHead_home_recalls (h : x.state = .wanted ∨ x.state = .none ∧ (d.item.op = .write ∨ x.cls = .soleOut)) :
    s.judgeHead d = s.judgeRecall := by
  rcases h with hstate | ⟨hstate, hwrite | hsole⟩
  · simp [judgeHead_homePlain hp hop, State.judgeHomePlain, hu, hx, hflag, hstate]
  · simp [judgeHead_homePlain hp hop, State.judgeHomePlain, hu, hx, hflag, hstate, hwrite, LocalOp.isRead]
  · simp [judgeHead_homePlain hp hop, State.judgeHomePlain, hu, hx, hflag, hstate, hsole]

end

section
variable {s t : State} {d : Decoded} {x : ExportEntry} {u : ReqTag} {e : PrtEntry} {l : LineNo}

theorem judgeHomeWork_free (h : s.hwqFree = true) : s.judgeHomeWork = .homeWork := by simp [State.judgeHomeWork, h]
theorem judgeRecall_free (h : s.hwqFree = true) : s.judgeRecall = .recall := by simp [State.judgeRecall, h]

/-- What keeps a home-path head waiting (R62, R112, R113). -/
theorem headStays_home (hp : d.path = .home) (hop : d.item.op = .read ∨ d.item.op = .write)
    (h : s.underAnswer d.line = true ∨ (s.findExport d.line = none ∧ s.hwqFree = false) ∨
      ∃ x, s.findExport d.line = some x ∧
        (x.awaiting.isSome = true ∨ (x.state ≠ .inFlight ∧ s.hwqFree = false) ∨
          ((x.state = .wanted ∨ (x.state = .none ∧ (d.item.op = .write ∨ x.cls = .soleOut))) ∧ s.freeTag = none))) :
    s.headStays d := by
  rcases h with hu | ⟨hx, hfull⟩ | ⟨x, hx, hflag | ⟨hstate, hfull⟩ | ⟨hrecalls, hnone⟩⟩
  · exact .inl (judgeHead_home_underAnswer hp hop hu)
  · exact .inl (judgeHead_home_full hp hop hfull (by simp [hx]))
  · exact .inl (judgeHead_home_awaits hp hop hx hflag)
  · refine .inl (judgeHead_home_full hp hop hfull fun y hy => ?_)
    obtain rfl := Option.some.inj (hx.symm.trans hy)
    exact hstate
  · by_cases hu : s.underAnswer d.line = true
    · exact .inl (judgeHead_home_underAnswer hp hop hu)
    · by_cases hflag : x.awaiting = none
      · have hj := judgeHead_home_recalls hp hop (Bool.not_eq_true _ ▸ hu) hx hflag hrecalls
        cases hfree : s.hwqFree with
        | true => exact .inr ⟨by rw [hj, judgeRecall_free hfree]; rfl, hnone⟩
        | false => exact .inl (by simp [hj, State.judgeRecall, hfree])
      · exact .inl (judgeHead_home_awaits hp hop hx (Option.isSome_iff_ne_none.mpr hflag))

/-! ### What the actions leave (R103, R113) -/

theorem actHead_homeWork (hop : d.item.op = .read ∨ d.item.op = .write) :
    s.actHead d .homeWork =
      { s with
        home.hwq := s.home.hwq ++
          [{ addr := s.memAddr d.line d.item.offset
             work := if d.item.op = .read then .localRead d.line d.item.tag d.item.offset d.item.len
                     else .localWrite d.line d.item.tag d.item.offset d.item.len d.item.data }] } := by
  rcases hop with hop | hop <;> simp [State.actHead, State.addItemWork, Item.hwqWork, hop, LocalOp.isRead] <;> rfl

theorem actHead_recall (ht : s.freeTag = some u) :
    s.actHead d .recall =
      { s with
        engine := (s.setEntry u (.fresh .recall d.line none [d.item] .request)).engine
        bus := (s.enqueue (.prt u)).bus
        home := (s.recallStarts d.line).home } := by
  simp only [State.actHead, makeAtFree_of_free ht]
  rfl

theorem entry_freeTag (hu : s.freeTag = some u) : s.entry u = none :=
  Option.isNone_iff_eq_none.mp (List.find?_some (p := fun t => (s.entry t).isNone) hu)

/-- A new Recall entry is nothing that a walk waits for, and keeps the station from being Quiesced (R129, R131). -/
theorem walkStays_recall (h : s.walkStays = true) (hu : s.freeTag = some u) (hkind : e.kind = .recall) :
    (s.setEntry u e).walkStays = true := by
  have hnone : (look s.engine.prt u).entry = none := entry_freeTag hu
  unfold State.walkStays at h ⊢
  rw [setEntry_ret]
  cases hwalk : s.ret.walk with
  | notBegun =>
    have hkinds : (s.setEntry u e).entryKinds.all (fun k => k.all (· == .recall)) = s.entryKinds.all fun k => k.all (· == .recall) := by
      have hmap : (s.setEntry u e).entryKinds.map (fun k => k.all (· == .recall)) = s.entryKinds.map fun k => k.all (· == .recall) := by
        unfold State.entryKinds
        rw [List.map_map, List.map_map]
        refine map_put_of_eq _ _ _ _ ?_
        simp [hnone, hkind]
      simpa only [List.all_map, Function.comp_def, id] using congrArg (List.all · id) hmap
    rw [hwalk, walkMayBegin_eq] at h
    dsimp only
    rw [walkMayBegin_eq, hkinds]
    exact h
  | atWay p =>
    rw [hwalk] at h
    exact h
  | done =>
    have hnot : ¬ (s.setEntry u e).mayBeQuiesced = true := fun hmay => by
      obtain ⟨_, _, _, _, _, _, hall⟩ := mayBeQuiesced_iff.mp hmay
      simpa [entry_setEntry] using hall u
    simpa using hnot

/-! ### A Read or Write that is started in the event of its acceptance -/

section
variable {tag : PTag} {code : BitVec 3} {addr : LocalAddr} {len : BitVec 6} {data : List Byte}
  (hpass : s.passesOn tag code addr len data d = true)

include hpass

/-- R103, R104: the request is work for the memory port. -/
theorem exec_homeWork (hop : d.item.op = .read ∨ d.item.op = .write) (hj : s.judgeHead d = .homeWork) :
    exec (.localRequestAcceptance tag code addr len data) s = .next
      { s with
        lpu.tags := s.tagsWith tag
        home.hwq := s.home.hwq ++
          [{ addr := s.memAddr d.line d.item.offset
             work := if d.item.op = .read then .localRead d.line tag d.item.offset d.item.len
                     else .localWrite d.line tag d.item.offset d.item.len d.item.data }]
        home.port := if s.home.port = .idle then .busy else s.home.port
        out := noOutput } := by
  obtain ⟨hcalm, _, hitem, _⟩ := passesOn_facts hpass
  obtain ⟨hsettled, hport⟩ := calm_iff.mp hcalm
  let left : State :=
    { s with
      lpu.tags := s.tagsWith tag
      home.hwq := s.home.hwq ++
        [{ addr := s.memAddr d.line d.item.offset
           work := if d.item.op = .read then .localRead d.line tag d.item.offset d.item.len
                   else .localWrite d.line tag d.item.offset d.item.len d.item.data }]
      out := noOutput }
  have hact : ∀ r, (s.headWaiting tag r d).actHead d .homeWork =
      { left with lpu := { (s.headWaiting tag r d).lpu with tags := left.lpu.tags } } := fun r => by
    rw [actHead_homeWork (s := s.headWaiting tag r d) hop, hitem]
    rfl
  have hstarted := startPort_of_more (x := left) hport rfl rfl
  have hleft : left.Settled := ⟨hsettled.conv, hsettled.places, (noRecall_of_calm hcalm).of_hwq rfl rfl, hsettled.walk⟩
  have hwalk : (left.startPort.ctl.mode != .quiescing || left.startPort.walkStays) = true := by simpa using hleft.startPort.walk
  rw [exec_headLeaves_follow hpass hj rfl nofun (t := left) rfl hact hleft.victim, runWalk_calm _ hwalk, enterQuiesced_calm _ hwalk,
    hstarted]

/-- R62, R113: the request makes a Recall entry, and its line's recall state becomes in-flight. -/
theorem exec_homeRecall (hj : s.judgeHead d = .recall) (ht : s.freeTag = some u) :
    exec (.localRequestAcceptance tag code addr len data) s = .next
      { s with
        lpu.tags := s.tagsWith tag
        engine := (s.setEntry u (.fresh .recall d.line none [d.item] .request)).engine
        bus := (s.enqueue (.prt u)).bus
        home := (s.recallStarts d.line).home
        out := noOutput } := by
  obtain ⟨hcalm, _, hitem, _⟩ := passesOn_facts hpass
  obtain ⟨hsettled, hport⟩ := calm_iff.mp hcalm
  let left : State :=
    { s with
      lpu.tags := s.tagsWith tag
      engine := (s.setEntry u (.fresh .recall d.line none [d.item] .request)).engine
      bus := (s.enqueue (.prt u)).bus
      home := (s.recallStarts d.line).home
      out := noOutput }
  have hact : ∀ r, (s.headWaiting tag r d).actHead d .recall =
      { left with lpu := { (s.headWaiting tag r d).lpu with tags := left.lpu.tags } } := fun r => by
    rw [actHead_recall (s := s.headWaiting tag r d) ht]
    rfl
  have hnone : s.nextVictim = none := hsettled.victim.resolve_right (by simp [ht])
  have hvictim : left.nextVictim = none := by
    refine nextVictim_none_of_frame hnone (fun k hk => (List.mem_filter.mp hk).1) fun k hk => ?_
    have hne : k ≠ d.line := by simpa using (List.mem_filter.mp hk).2
    exact findExport_changeExport_ne (s := s) (fun _ => rfl) hne
  have hleft : left.calm = true := by
    refine calm_iff.mpr ⟨⟨hsettled.conv, hsettled.places, .inl hvictim, hsettled.walk.imp_right fun hstays => ?_⟩, hport⟩
    exact walkStays_recall hstays ht rfl
  exact exec_headLeaves hpass hj rfl (by simp [ht]) rfl hact hleft

end
end

/-! ### An entry freed and made again (R81, R113) -/

section
variable {s t : State} {u : ReqTag} {e : PrtEntry} {l : LineNo} {i : Item}

/-- A place of the PRT that holds as many HWQ places as before leaves as many free. -/
theorem hwqFree_of_put {y : PrtSlot} (hprt : t.engine.prt = put s.engine.prt u y) (hy : y.hwqHeld = (look s.engine.prt u).hwqHeld)
    (hhwq : t.home.hwq = s.home.hwq) (hmedium : t.bus.medium = s.bus.medium) : t.hwqFree = s.hwqFree := by
  have hheld : prtHeld t.engine.prt = prtHeld s.engine.prt := by
    have hsum := prtHeld_put s.engine.prt u y
    rw [hprt]
    omega
  rw [Bool.eq_iff_iff, hwqFree_iff, hwqFree_iff, State.hwqLoad, State.hwqLoad, hhwq, hmedium, hheld]

/-- R81: the generation of the tag goes on, so the event has freed an entry. -/
theorem prtFreed_freeEntry (hprt : t.engine.prt = (s.freeEntry u).engine.prt) : s.prtFreed t = true := by
  unfold State.prtFreed
  rw [bne_iff_ne, hprt]
  intro hsame
  have hgens : (look s.engine.prt u).gen = (look (s.freeEntry u).engine.prt u).gen := by
    have hat : ∀ x : State, (x.engine.prt.toList.map (·.gen))[u.toNat]? = some (look x.engine.prt u).gen := fun x => by
      rw [List.getElem?_eq_getElem (by simpa using u.isLt)]
      simp [look]
    exact Option.some.inj ((hat s).symm.trans ((congrArg (·[u.toNat]?) hsame).trans (hat _)))
  rw [prt_freeEntry, if_pos rfl] at hgens
  revert hgens
  generalize (look s.engine.prt u).gen = g
  revert g
  decide

theorem entry_freeEntry (v : ReqTag) : (s.freeEntry u).entry v = if v = u then none else s.entry v := by
  rw [State.entry, prt_freeEntry]
  split <;> rfl

theorem findEntry_eq_none_iff : s.findEntry l = none ↔ ∀ v e, s.entry v = some e → e.line ≠ l := by
  unfold State.findEntry
  rw [List.find?_eq_none]
  refine ⟨fun h v e he => ?_, fun h v _ => ?_⟩
  · simpa [he] using h v (mem_allTags v)
  · cases he : s.entry v with
    | none => simp
    | some e => simpa using h v e he

theorem findEntry_freeEntry (h : s.findEntry l = none) : (s.freeEntry u).findEntry l = none := by
  rw [findEntry_eq_none_iff] at h ⊢
  intro v e he
  rw [entry_freeEntry] at he
  split at he
  · cases he
  · exact h v e he

/-- An entry made for a line that had none is the line's entry. -/
theorem findEntry_made (h : s.findEntry l = none) (hline : e.line = l) : (s.setEntry u e).findEntry l = some u := by
  have hsome : ((s.setEntry u e).findEntry l).isSome = true :=
    List.find?_isSome.mpr ⟨u, mem_allTags u, by simp [entry_setEntry, hline]⟩
  obtain ⟨v, hv⟩ := Option.isSome_iff_exists.mp hsome
  by_cases hvu : v = u
  · rw [hv, hvu]
  · cases he : s.entry v with
    | none =>
      have hnot := List.find?_some hv
      simp [entry_setEntry, hvu, he] at hnot
    | some f =>
      have hf := line_of_findEntry hv ((entry_setEntry v).trans ((if_neg hvu).trans he))
      exact absurd hf (findEntry_eq_none_iff.mp h v f he)

/-- The end of a direct request's entry by its timer (R80): its request is answered, and its tag is free. -/
theorem timeOut_direct (hkind : e.kind = .directRead) (hwait : e.waiting = [i]) (hi : i.op = .read) (hf : e.follower = none)
    (hlog : s.lpu.log.length < 8) (hout : s.out = noOutput) :
    s.timeOut u e =
      { s.freeEntry u with
        lpu := { s.lpu with tags := s.tagsWithout i.tag, log := s.lpu.log ++ [s.endRecord e .dataTimeout] }
        out := oneResponse i.tag .dataTimeout .none } := by
  let logged : State := { s with lpu.log := s.lpu.log ++ [s.endRecord e .dataTimeout] }
  let answered : State := logged.answer i.tag .dataTimeout .none
  have hlogged : s.addFault (s.entryRecord e .dataTimeout) = logged := addFault_room s _ hlog
  have hanswered : logged.answerAll e.waiting .dataTimeout = answered := by rw [hwait]; rfl
  have hdropped : answered.dropPendingPin e = answered := if_neg (by simp [PrtEntry.pinLed, hwait, hi])
  have hemptied : answered.emptyReserved e = answered := by simp only [State.emptyReserved, hkind]
  have hfails : answered.recallFails u e .dataTimeout = answered := if_neg (by simp [hkind])
  unfold State.timeOut State.endEntry
  dsimp only
  rw [hlogged, hanswered, hdropped, hemptied, hfails, abandonOrFree_none hf]
  simp only [answered, logged, State.answer, State.reply, State.freeProcessorTag, hout]
  rfl

end

/-! ### The turn (R63, R117) -/

section
variable {s s0 : State} {u : ReqTag} {d : Decoded} {r : LocalReq} {x : ExportEntry}

section
variable {l : LineNo} (hnext : s.nextVictim = some l) (htag : s.freeTag = some u) (hneeds : s.headNeedsEntry = true)
include hnext htag hneeds

theorem allocate_headTurn (hturn : s.engine.turn = .lrq) (j : Bool) (n : Nat) :
    s.allocate (n + 1) true true j = (s.headOnce.1.setTurn .victim).allocate n false true true := by
  simp [State.allocate, hnext, htag, hneeds, hturn]

theorem allocate_victimTurn (hturn : s.engine.turn = .victim) (j : Bool) (n : Nat) :
    s.allocate (n + 1) true true j = (s.victimOne.setTurn .lrq).allocate n true true j := by
  simp [State.allocate, hnext, htag, hneeds, hturn]

end

/-- The station once the recall of a wanted line has been made at a free entry by the party whose turn it is, the head or the line's victim
recall, and the head's request is carried by it either way. -/
def State.carriedInTurn (s : State) (d : Decoded) (u : ReqTag) : State :=
  { s with
    lpu := { s.lpu with lrq := [], head := none, pinRecall := none }
    engine :=
      { (s.setEntry u (.fresh .recall d.line none [d.item] (if s.engine.turn = .lrq then .request else .victim))).engine with
        turn := if s.engine.turn = .lrq then .victim else .lrq }
    bus := (s.enqueue (.prt u)).bus
    home := (s.recallStarts d.line).home }

variable (hq : s.lpu.lrq = [r]) (hhead : s.lpu.head = some d) (htag : s.freeTag = some u)

include hq hhead htag

/-- The head makes its own recall. -/
theorem headOnce_carried (hj : s.judgeHead d = .recall) (hturn : s.engine.turn = .lrq) :
    s.headOnce.1.setTurn .victim = s.carriedInTurn d u := by
  have htail : s.lpu.lrq.tail = [] := by rw [hq]; rfl
  rw [headOnce_decoded hq hhead, startHead_leaves hj rfl (by simp [htag]), actHead_recall htag]
  simp only [State.carriedInTurn, hturn, if_true]
  rw [← htail]
  rfl

/-- The head joins the list of the victim recall. -/
theorem headOnce_joins (hnext : s.nextVictim = some d.line) (hp : d.path = .home) (hop : d.plain) (hu : s.underAnswer d.line = false)
    (hx : s.findExport d.line = some x) (hflag : x.awaiting = none) (hfree : s.hwqFree = true) (hnone : s.findEntry d.line = none)
    (hturn : s.engine.turn ≠ .lrq) : (s.victimOne.setTurn .lrq).headOnce = (s.carriedInTurn d u, true) := by
  let made : PrtEntry := .fresh .recall d.line none [] .victim
  let z : State := ((s.makeEntry u made).recallStarts d.line).setTurn .lrq
  have hz : s.victimOne.setTurn .lrq = z := by rw [victimOne_made hnext htag]
  have hx' : z.findExport d.line = some { x with state := .inFlight } :=
    (findExport_changeExport_self (s := s) (f := fun y => { y with state := .inFlight }) fun _ => rfl).trans (congrArg _ hx)
  have hentry : z.entry u = some made := (entry_setEntry (s := s) u).trans (if_pos rfl)
  have hslot : (look s.engine.prt u).entry = none := entry_freeTag htag
  have hfree' : z.hwqFree = true := by
    refine (hwqFree_of_put (s := s) (t := z) (u := u) rfl ?_ rfl rfl).trans hfree
    simp [PrtSlot.hwqHeld, hslot, made, PrtEntry.fresh]
  have hj : z.judgeHead d = .attachRecall u := by
    rw [judgeHead_recalled (s := z) hp hop hu hx' hflag rfl (findEntry_made (s := s) (e := made) hnone rfl) hentry]
    exact if_pos ⟨nofun, by simp [made, PrtEntry.fresh], hfree'⟩
  have htail : s.lpu.lrq.tail = [] := by rw [hq]; rfl
  rw [hz, headOnce_decoded (s := z) hq hhead, startHead_leaves hj rfl nofun, actHead_attachRecall hentry]
  have hengine : (z.setEntry u (made.joined d.item)).engine =
      { (s.setEntry u (.fresh .recall d.line none [d.item] .victim)).engine with turn := .lrq } :=
    congrArg (fun engine : RequestEngine => { engine with turn := .lrq })
      (congrArg State.engine (setEntry_setEntry (s := s) (t := u) (e := made) (e' := made.joined d.item)))
  simp only [State.carriedInTurn, if_neg hturn]
  rw [← htail, ← hengine]
  rfl

/-- R63: a head and its line's victim recall have both waited for the entry that is freed. -/
theorem settle_carried {j : Judged} (hp : d.path = .home) (hop : d.plain) (hconv : s.noConversion)
    (hplaces : s.bus.askers = [] ∨ s.sqFree = false) (hport : s.portStays) (hmode : s.ctl.mode ≠ .quiescing)
    (hu : s.underAnswer d.line = false) (hx : s.findExport d.line = some x) (hflag : x.awaiting = none) (hstate : x.state = .wanted)
    (hwanted : s.home.wanted = [d.line]) (hfree : s.hwqFree = true) (hnone : s.findEntry d.line = none)
    (hfreed : s0.prtFreed s = true) (hfull : s0.freeTag = none) (hneeds : s0.headNeedsEntry = true)
    (hvictim : s0.nextVictim = some d.line) : s.settle s0 j = s.carriedInTurn d u := by
  let z : State := s.carriedInTurn d u
  have hj : s.judgeHead d = .recall := by rw [judgeHead_home_recalls hp hop hu hx hflag (.inl hstate), judgeRecall_free hfree]
  have hnext : s.nextVictim = some d.line := nextVictim_single hwanted hx hflag
  have hneeds' : s.headNeedsEntry = true := by simp only [State.headNeedsEntry, hhead, hj, HeadAction.needsEntry]
  have hleft : ∀ y : State, y.home = (s.recallStarts d.line).home → y.NoRecall := fun y hy => by
    refine .inl (nextVictim_nil ?_)
    rw [hy]
    show s.home.wanted.filter (· != d.line) = []
    simp [hwanted]
  have hagain : State.judgedAgain s0 s j = true := by simp [judgedAgain_home s hhead hp, State.homeChanged, hfreed]
  have hallocated : State.allocateAfter s0 s j = z := by
    unfold State.allocateAfter
    rw [hq, hwanted, hfull, hneeds, hvictim, hagain]
    cases hturn : s.engine.turn with
    | lrq =>
      have hcalm : (z.nextVictim.isNone || z.freeTag.isNone) = true := by simpa [State.NoRecall] using hleft z rfl
      have hmade := headOnce_carried hq hhead htag hj hturn
      exact (allocate_headTurn hnext htag hneeds' hturn _ 4).trans (hmade ▸ allocate_calm z hcalm rfl _ _ _ 4)
    | victim =>
      have hjoined := headOnce_joins hq hhead htag hnext hp hop hu hx hflag hfree hnone (by simp [hturn])
      have hmade : (s.victimOne.setTurn .lrq).NoRecall := hleft _ (by rw [victimOne_made hnext htag]; rfl)
      exact (allocate_victimTurn hnext htag hneeds' hturn _ 4).trans (allocate_judged hmade hjoined (fun _ => ⟨rfl, hleft z rfl⟩) _ _ 3)
  rw [settle_allocates hconv hplaces hport, hallocated, startPort_stays (s := z) (hport.congr rfl rfl), walk_open (s := z) hmode]

end

/-- Settles O20: by the judgement of R112, and by the turn of R63 where the head and its line's victim recall wait for the same entry. -/
theorem homeRequestOutcomes : Obligations.HomeRequestOutcomes := by
  refine ⟨?work, ?recalls, fun s tag code addr len data r d hpass hacc hp hop h => exec_headStays hpass hacc (headStays_home hp hop h),
    ?turn⟩
  case work =>
    intro s tag code addr len data d hpass hp hop hu hfree hx
    refine exec_homeWork hpass hop ?_
    rw [← judgeHomeWork_free hfree]
    rcases hx with hx | ⟨hread, hx⟩
    · exact judgeHead_home_absent hp hop hu hx
    · exact judgeHead_home_shared hp hop hu hx rfl hread rfl rfl
  case recalls =>
    intro s tag code addr len data d t x hpass hp hop hu hfree ht hx hflag hstate hout
    refine exec_homeRecall hpass ?_ ht
    rw [← judgeRecall_free hfree]
    exact judgeHead_home_recalls hp hop hu hx hflag (.inr ⟨hstate, hout⟩)
  case turn =>
    intro s r d x u e i hcalm hq hhead hp hop hu hx hflag hstate hwanted hfree hnone hfull he hkind hphase htimer hwait hi _ hf hunder
      hlog hmode
    obtain ⟨hsettled, hport⟩ := calm_iff.mp hcalm
    let freed : State :=
      { s.freeEntry u with
        lpu := { s.lpu with tags := s.tagsWithout i.tag, log := s.lpu.log ++ [s.endRecord e .dataTimeout] }
        out := oneResponse i.tag .dataTimeout .none }
    have hended : s.begin.expireData u = freed := by
      rw [expireData_taken (s := s.begin) he hphase htimer hunder, timeOut_direct (s := s.begin) hkind hwait hi hf hlog rfl]
      rfl
    have hneeds : s.begin.headNeedsEntry = true := by
      have hj : s.begin.judgeHead d = s.begin.judgeRecall := judgeHead_home_recalls (s := s.begin) hp hop hu hx hflag (.inl hstate)
      simp only [State.headNeedsEntry, show s.begin.lpu.head = some d from hhead, hj, judgeRecall_free (s := s.begin) hfree,
        HeadAction.needsEntry]
    have hslot : (look s.engine.prt u).entry = some e := he
    have hfree' : freed.hwqFree = true :=
      (hwqFree_of_put (s := s) (t := freed) (u := u) rfl (by simp [PrtSlot.hwqHeld, hslot, hkind]) rfl rfl).trans hfree
    have hsettle : freed.settle s.begin .byChange = freed.carriedInTurn d u :=
      settle_carried (s := freed) hq hhead (freeTag_freed hfull) hp hop (hsettled.conv.congr rfl rfl)
        (hsettled.places.imp freeEntry_askers fun h => h) (hport.congr rfl rfl) hmode hu hx hflag hstate hwanted hfree'
        (findEntry_freeEntry hnone) (prtFreed_freeEntry (s := s.begin) rfl) (freeTag_full (s := s.begin) hfull) hneeds
        (nextVictim_single (s := s.begin) hwanted hx hflag)
    show Host.Outcome.next ((s.begin.expireData u).settle s.begin .byChange) = _
    rw [hended, hsettle]
    rfl

end Sys2Proof.Machine
end
